-- ==== Sys2Proof/Word.lean ====
section
/-! DEFINITION. The words of the working memory: 64 data bits, and 8 check bits stored with them (R23, R25). -/

namespace Sys2Proof

/-- The 64 data bits of one word of the working memory. -/
abbrev Word := BitVec 64

/-- One byte: also the 8 check bits of a word, a syndrome, and a byte mask. -/
abbrev Byte := BitVec 8

/-- One stored word: its data bits and its check bits (R23). -/
structure MemWord where
  data : Word
  check : Byte
deriving DecidableEq, Repr

end Sys2Proof
end

