-- ==== Sys2Proof/Syntax.lean ====
section
/-! DEFINITION. The commands: one constructor for each row of spec/opcode_table.json. The rows name no operands; the
operands here are what an event brings from outside the part (assumption log 2). -/

namespace Sys2Proof

/-- The commands of the ZH640, in the order of the table.

`flips` is, for each word an access reads, the bits of the stored word that have failed since it was last stored
(assumption log 4): entry k belongs to the k-th word, and a missing entry means that no bit failed. -/
inductive Instr where
  | partPowerOn
  | configReadReply (data : List Byte) (straps : BitVec 3)
  | configReadTimeout (straps : BitVec 3)
  | read (offset : BitVec 32) (mask : Byte)
  | write (offset : BitVec 32) (mask : Byte) (data : Word)
  | lineRead (offset : BitVec 32)
  | lineWrite (offset : BitVec 32) (data : BitVec 512)
  | frontReadAccessComplete (flips : List MemWord)
  | frontMergeReadComplete (flips : List MemWord)
  | frontWriteAccessComplete
  | watchWriteReport
  | watchReadReport
  | refusedWriteReport
  | ringSnoopReport
  | scrubIntervalExpiry
  | fixPairReadComplete (flips : List MemWord)
  | fixRewriteComplete
  | sweepReadComplete (flips : List MemWord)
  | migrationReadComplete (flips : List MemWord)
  | migrationWriteComplete
  | patternWriteComplete
  | readBackComplete (flips : List MemWord) (engineFirst : Bool)
  | zeroWriteComplete
  | prepRetryExpiry
  | checkRangeReadComplete (flips : List MemWord)
  | pollTimerExpiry
  | sensorReply (channel : Nat) (reading : BitVec 16)
  | sensorTimeout
  | heatLimitExpiry
  | soakTimerExpiry
  | pulseTimerExpiry
  | offTimerExpiry
  | ringHeaderWriteComplete
  | resetInputLevelChange (active : Bool)
  | resetInputEvent
  | restartRequest (which : Nat)
  | holdRelease (which : Nat)
  | chordOutcome (which : Nat)
  | bootLimitExpiry
  | periodExpiry
  | warnWindowExpiry
  | scanSample (contacts : BitVec 64)
  | lampBlinkToggle
  | commandFetchComplete (flips : List MemWord)
  | completionWriteComplete
  | doneWriteComplete
  | cmdWaitExpiry
  | diagWordReadComplete (flips : List MemWord)
  | diagWordWriteComplete
  | eventEntryWordWriteComplete
  | produceWriteComplete
  | status
  | setWindow
  | clearWindow
  | readWindow
  | takeError
  | diagRead
  | diagWrite
  | repairGroup
  | readRepairs
  | readThermal
  | checkRange
  | setWatch
  | clearWatch
  | readWatch
  | takeWatchHits
  | lockWatch
  | armWatchdog
  | disarmWatchdog
  | restart
  | readRestart
  | readTrace
  | setKey
  | readKeys
  | uptimeTick
  | sessionTimeTick
deriving DecidableEq, Repr

end Sys2Proof
end

