-- ==== Sys2Proof/Config.lean ====
section
/-! DEFINITION. The free values: what the spec leaves open and no proof may know. -/

namespace Sys2Proof

/-- FREE VALUE. The 72 bits that a word of the working memory reads as while nothing has been written to it since
board power last came on (chapter 6: "Its contents are whatever the cells settled to"; R23, R54: "undefined
contents"). The first argument says how often the contents have been lost, the second is the memory address. -/
opaque Config.undefinedWord : Nat → Nat → BitVec 72

/-- FREE VALUE. A byte of the last result word of a completion that no result field reaches (R198 states none). The
first argument is the counter `freeCount`, the second the byte's place among the 48 result bytes. -/
opaque Config.resultPad : Nat → Nat → Byte

end Sys2Proof
end

