-- ==== Sys2Proof/Machine/Types.lean ====
section
/-! DEFINITION. The kinds of things the spec's state is made of: enumerations (R197) and records, each under the name
the spec gives it. Offsets, addresses, lengths and indices are plain natural numbers; counts with a stated width that
saturate or wrap are bit vectors. Temperatures are counted in steps of 0.5 °C (00_scope.md 4.2). -/

namespace Sys2Proof.Machine

/-! ## The memory path (chapter 1) -/

/-- The contents of the working memory that are defined: word address and stored word, addresses strictly rising. -/
abbrev Memory := List (Nat × MemWord)

/-- The location of a group or word: its home, or a spare slot (R7, R56). -/
inductive Location where
  | home
  | spare (slot : Nat)
deriving DecidableEq, Repr

inductive WritePolicy where
  | allow | refuse | refuseTrip
deriving DecidableEq, Repr

inductive CheckPolicy where
  | correct | report
deriving DecidableEq, Repr

inductive RingRole where
  | none | commandRing | eventRing
deriving DecidableEq, Repr

/-- A window of the window table (R17). -/
structure Window where
  base : Nat
  size : Nat
  writePolicy : WritePolicy
  checkPolicy : CheckPolicy
  ringRole : RingRole
  poisonRestart : Bool
  shielded : Bool
deriving DecidableEq, Repr

/-- The classification a transaction receives at step 3 (R6). -/
structure Classification where
  window : Option Nat
  writePolicy : WritePolicy
  checkPolicy : CheckPolicy
  ringRole : RingRole
  poisonRestart : Bool
deriving DecidableEq, Repr

/-- The four kinds of front transaction (R1). -/
inductive TxnKind where
  | read | write | lineRead | lineWrite
deriving DecidableEq, Repr

/-- The outcome a REFUSED response carries (R2). -/
inductive RefuseReason where
  | policy | mergeFailed | outOfRange
deriving DecidableEq, Repr

/-- The responses of the front port (R2). A DATA word is paired with its poison mark. -/
inductive Response where
  | data (words : List (Word × Bool))
  | done
  | refused (reason : RefuseReason)
deriving DecidableEq, Repr

/-- How far the transaction in the front port has gone (R3, R5): waiting at step 2; waiting after its request was
withdrawn; its request at the arbiter; its access granted. -/
inductive FrontPhase where
  | reserveWait | redirectWait | requested | access
deriving DecidableEq, Repr

/-- The transaction the front port holds. `offset` is aligned (R1); `words` are the data carried in. -/
structure FrontTxn where
  kind : TxnKind
  offset : Nat
  mask : Byte
  words : List Word
  phase : FrontPhase
  classification : Option Classification
deriving DecidableEq, Repr

/-- The five users of the memory port (R24). -/
inductive Requester where
  | repair | front | mailbox | prep | scrub
deriving DecidableEq, Repr

/-- What an access is made for. The two halves of a locked pair are two purposes under one grant (R23). -/
inductive Purpose where
  | frontRead | frontMergeRead | frontWrite
  | fixRead | fixWrite | sweepRead
  | migrationRead | migrationWrite
  | patternWrite | readBack | zeroWrite | checkRead
  | headerWrite | fetch | completionWrite | doneWrite
  | diagRead | diagWrite | entryWrite | produceWrite
deriving DecidableEq, Repr

/-- An access of the memory port, as requested and as carried (R23). `offset` is the front offset of its word or
group, `loc` the location fixed for it, `words` what it writes. `syndrome` keeps what the read half of a fix pair
found (R48). `discarded` marks an access whose result nobody takes any more (R14, R116, R184). -/
structure Access where
  requester : Requester
  purpose : Purpose
  line : Bool
  offset : Nat
  loc : Location
  words : List MemWord
  syndrome : Byte
  discarded : Bool
deriving DecidableEq, Repr

/-- A request waiting at the arbiter with its pass-over count (R24). -/
structure Waiting where
  access : Access
  passed : Nat
deriving DecidableEq, Repr

/-- The arbiter: at most one waiting request for each requester (R24). -/
structure Arbiter where
  repair : Option Waiting
  front : Option Waiting
  mailbox : Option Waiting
  prep : Option Waiting
  scrub : Option Waiting
deriving DecidableEq, Repr

/-! ## Check words and the error log (chapter 2) -/

/-- What the check unit reports of one word (R26). -/
inductive CheckOutcome where
  | clean
  | checkBit (bit : Nat)
  | dataBit (bit : Nat)
  | uncorrectable
deriving DecidableEq, Repr

inductive Severity where
  | corrected | reported | uncorrectable
deriving DecidableEq, Repr

inductive Source where
  | frontRead | frontMerge | scrub | fix | prep | migration
deriving DecidableEq, Repr

/-- A detection as it reaches the error log (R27). -/
structure Detection where
  offset : Nat
  loc : Location
  syndrome : Byte
  source : Source
  severity : Severity
deriving DecidableEq, Repr

/-- The board regime (R71). -/
inductive Regime where
  | loading | heating | soaking | preparing | releasing | running | restarting | offCycle | overheat | halted
deriving DecidableEq, Repr

/-- An entry of the error log (R29). -/
structure LogEntry where
  offset : Nat
  loc : Location
  syndrome : Byte
  severity : Severity
  source : Source
  repeats : Byte
  rewritten : Bool
  repairRequested : Bool
  uptime : BitVec 32
  temperature : Option Int
  regime : Regime
deriving DecidableEq, Repr

/-- The error log, its totals and its session count (R28, R31, R35). -/
structure ErrorLog where
  entries : List LogEntry
  corrected : BitVec 32
  reported : BitVec 32
  uncorrectable : BitVec 32
  overflow : BitVec 32
  session : BitVec 16
deriving DecidableEq, Repr

/-! ## Timers -/

/-- A timer: stopped, running with its length, or held with its length. The units are those the spec gives the
length in; elapsed time is not counted (assumption log 6). -/
inductive Timer where
  | stopped
  | running (length : Nat)
  | held (length : Nat)
deriving DecidableEq, Repr

/-! ## The scrubber (chapter 3) -/

inductive ScrubActivity where
  | paused | idle | groupWait | portWait | fixPair | sweepRead
deriving DecidableEq, Repr

/-- An entry of the fix list (R43). -/
structure FixEntry where
  offset : Nat
  loc : Location
deriving DecidableEq, Repr

/-- The scrubber's work in hand (R43): the fix entry, or the sweep group by index. -/
inductive ScrubWork where
  | fix (entry : FixEntry)
  | sweep (group : Nat)
deriving DecidableEq, Repr

structure Scrubber where
  activity : ScrubActivity
  fixList : List FixEntry
  position : Nat
  count : BitVec 32
  due : Bool
  timer : Timer
  inHand : Option ScrubWork
  cold : Bool
deriving DecidableEq, Repr

/-! ## The repair unit (chapter 4) -/

/-- An entry of the repair table (R55). -/
structure RepairEntry where
  group : Nat
  slot : Nat
  reRepairs : BitVec 16
  uptime : BitVec 32
  carried : Byte
deriving DecidableEq, Repr

/-- A migration in progress (R59): `copying` is clear in PORT-WAIT and set in COPY; `carried` are the places the
copy carries raw (R60). -/
structure Migration where
  group : Nat
  slot : Nat
  reRepair : Bool
  source : Location
  carried : Byte
  copying : Bool
deriving DecidableEq, Repr

structure Repair where
  table : List RepairEntry
  spent : List Nat
  requests : List Nat
  migration : Option Migration
  reservation : Option Nat
  completed : BitVec 16
  reRepaired : BitVec 16
  refused : BitVec 16
  declined : BitVec 16
  dropped : BitVec 16
  abandoned : BitVec 16
deriving DecidableEq, Repr

inductive RepairOutcome where
  | done | reRepaired | full | carried
deriving DecidableEq, Repr

/-- The fields of a REPAIR notice (R66). -/
structure RepairNotice where
  outcome : RepairOutcome
  group : Nat
  newSlot : Option Nat
  oldSlot : Option Nat
  carried : Option Byte
  reRepairs : Option (BitVec 16)
  free : Nat
deriving DecidableEq, Repr

/-! ## The regime, the sensors and the heaters (chapter 5) -/

/-- The board control unit's regime, outputs, flags and regime timers (R71, R72, R74, R76, R81). -/
structure Control where
  regime : Regime
  power : Bool
  processorReset : Bool
  memValid : Bool
  heatLimit : Timer
  soak : Timer
  off : Timer
  pulse : Timer
  pendingForced : Bool
  pendingDoubtful : Bool
  sessionForced : Bool
  sessionDoubtful : Bool
deriving DecidableEq, Repr

/-- Uptime and session time (R81, R82); `begun` once a session has begun since part power-on. -/
structure Clock where
  uptime : BitVec 32
  session : BitVec 32
  begun : Bool
deriving DecidableEq, Repr

inductive LampPattern where
  | off | steady | slow | fast
deriving DecidableEq, Repr

/-- The status lamp (R101). -/
structure Lamp where
  error : Bool
  pattern : LampPattern
  lit : Bool
deriving DecidableEq, Repr

inductive ChannelRole where
  | disabled | board | memory | panel | air
deriving DecidableEq, Repr

inductive ChannelState where
  | unknown | valid | failed
deriving DecidableEq, Repr

/-- The settings of one temperature channel (R89). -/
structure ChannelSettings where
  role : ChannelRole
  release : Int
  target : Int
  warnHot : Int
  critical : Int
  resume : Int
deriving DecidableEq, Repr

/-- The state of one temperature channel (R91, R95). -/
structure Channel where
  state : ChannelState
  reading : Option Int
  timeouts : Nat
  hotArmed : Bool
deriving DecidableEq, Repr

structure Thermal where
  channels : List Channel
  polling : Option Nat
  pollTimer : Timer
  readiness : Bool
  boardDemand : Bool
  panelDemand : Bool
  boardOutput : Bool
  panelOutput : Bool
deriving DecidableEq, Repr

inductive ThermalEvent where
  | hot | sensorFailed | sensorRestored
deriving DecidableEq, Repr

/-! ## Preparation (chapter 6) -/

inductive PrepActivity where
  | idle | passing | retryWait | checking
deriving DecidableEq, Repr

inductive PrepStep where
  | patternWrite | readBack | zeroWrite
deriving DecidableEq, Repr

inductive PrepWait where
  | groupWait | portWait | access
deriving DecidableEq, Repr

/-- The range of a CHECK-RANGE and its three counts (R103, R114). -/
structure CheckRange where
  base : Nat
  stop : Nat
  checked : Nat
  single : Nat
  uncorrectable : Nat
deriving DecidableEq, Repr

structure Prep where
  activity : PrepActivity
  pass : Nat
  position : Nat
  step : PrepStep
  wait : PrepWait
  corrected : BitVec 16
  uncorrectable : BitVec 16
  retry : Timer
  range : Option CheckRange
deriving DecidableEq, Repr

/-! ## The watch table and restart supervision (chapters 7 and 8) -/

inductive WatchAccess where
  | write | read | either
deriving DecidableEq, Repr

inductive WatchRole where
  | kick
  | stage (number : Nat)
  | trip
  | note
deriving DecidableEq, Repr

inductive Persistence where
  | standing | session
deriving DecidableEq, Repr

/-- The value and mask of a data match, each 8 bytes with those beyond the entry's length zero (R117, R198). -/
structure DataMatch where
  value : Word
  mask : Word
deriving DecidableEq, Repr

/-- An entry of the watch table (R117). -/
structure WatchEntry where
  base : Nat
  length : Nat
  access : WatchAccess
  dataMatch : Option DataMatch
  role : WatchRole
  persistence : Persistence
  enabled : Bool
  suppressed : Bool
deriving DecidableEq, Repr

/-- The watch table and the state around it (R117); hit flag k is bit k of `hits`. -/
structure Watch where
  entries : List (Option WatchEntry)
  hits : Byte
  lastStage : Option Nat
  senders : List Nat
  lock : Bool
  violations : BitVec 16
deriving DecidableEq, Repr

inductive DogState where
  | suspended | disarmed | booting | armed | warned
deriving DecidableEq, Repr

/-- The watchdog's one timer and what it runs as, with its length in ms (R134). -/
inductive DogTimer where
  | stopped
  | bootLimit (length : Nat)
  | period (length : Nat)
  | warnWindow (length : Nat)
deriving DecidableEq, Repr

structure Watchdog where
  state : DogState
  timer : DogTimer
  reference : BitVec 32
  period : BitVec 16
  warnWindow : BitVec 16
  minInterval : BitVec 16
  warnings : Byte
  requestOut : Bool
deriving DecidableEq, Repr

/-- The outcome field of a trace entry (R151). -/
inductive TraceOutcome where
  | done
  | refused (reason : RefuseReason)
deriving DecidableEq, Repr

structure TraceEntry where
  offset : Nat
  count : Nat
  outcome : TraceOutcome
  window : Option Nat
deriving DecidableEq, Repr

/-- The kinds of report the front port gives (R15, R16; an empty write goes to the trace alone, R3). -/
inductive ReportKind where
  | write
  | emptyWrite
  | read
  | refused (reason : RefuseReason)
deriving DecidableEq, Repr

/-- A report of the front port. `line` says that it concerns the whole group at `offset`; otherwise it concerns the
bytes of the word at `offset` that `mask` selects. `words` are the values as they now stand in memory (R15). -/
structure FrontReport where
  kind : ReportKind
  line : Bool
  offset : Nat
  mask : Byte
  words : List Word
  window : Option Nat
deriving DecidableEq, Repr

inductive RestartCause where
  | kickExpiry | earlyKick | bootLimit | tripWatch | guardTrip | poison | lockViolation | command | chord | resetInput
  | thermal
deriving DecidableEq, Repr

inductive RestartKind where
  | warm | cold | halt | thermal
deriving DecidableEq, Repr

/-- A chord request under way: which chord, and the regime at its recognition (R171). -/
structure ChordTag where
  chord : Nat
  regime : Regime
deriving DecidableEq, Repr

/-- A restart request under way to the board control unit (R143); `cold` is its requested kind, WARM otherwise. -/
structure RestartRequest where
  cause : RestartCause
  cold : Bool
  chord : Option ChordTag
deriving DecidableEq, Repr

inductive ChordResult where
  | taken | discarded | noted
deriving DecidableEq, Repr

/-- A report TAKEN or DISCARDED under way to the keypad scanner (R88). -/
structure ChordOutcome where
  tag : ChordTag
  result : ChordResult
deriving DecidableEq, Repr

/-- A restart record (R146). -/
structure RestartRecord where
  number : BitVec 16
  cause : RestartCause
  requested : Option RestartKind
  kind : RestartKind
  uptime : BitVec 32
  session : BitVec 32
  lastStage : Option Nat
  warnings : Byte
  uncorrectable : BitVec 16
  hits : Byte
  trace : Option (List TraceEntry)
deriving DecidableEq, Repr

/-- The restart history and the escalation state (R147, R150). -/
structure Restarts where
  history : List RestartRecord
  total : BitVec 16
  escalation : List (BitVec 32)
  coldCount : Nat
deriving DecidableEq, Repr

/-! ## The keypad (chapter 9) -/

/-- The stable state a position in RELEASING is leaving (R157). -/
inductive Leaving where
  | down | blocked | stuck
deriving DecidableEq, Repr

inductive KeyState where
  | up | pressing | down
  | releasing (leaving : Leaving)
  | blocked | stuck
deriving DecidableEq, Repr

/-- A position record (R157). -/
structure KeyPosition where
  state : KeyState
  countdown : Nat
  held : Nat
  repeatTime : Nat
  repeats : Byte
  announced : Bool
  stuckCount : Byte
deriving DecidableEq, Repr

/-- A key map entry (R164). -/
structure KeyEntry where
  code : Byte
  repeats : Bool
  chordOnly : Bool
deriving DecidableEq, Repr

inductive ChordAction where
  | warmRestart | coldRestart | releaseHold | serviceNote
deriving DecidableEq, Repr

/-- A chord table entry as the loaded copy gives it (R169); `hold` in ms. -/
structure Chord where
  members : List Nat
  hold : Nat
  action : ChordAction
  enabled : Bool
deriving DecidableEq, Repr

/-- A chord with its working state (R169). -/
structure ChordRecord where
  chord : Chord
  counting : Bool
  counter : Nat
  spent : Bool
  awaited : Bool
deriving DecidableEq, Repr

structure Keypad where
  positions : List KeyPosition
  map : List KeyEntry
  chords : List ChordRecord
  coldDebounce : Bool
  scanTimer : Timer
deriving DecidableEq, Repr

inductive KeyEvent where
  | press | release | repeats | stuck | unstuck
deriving DecidableEq, Repr

/-! ## The mailbox unit (chapter 10) -/

/-- The fields a notice's producer gives it, by kind (R189). -/
inductive NoticeBody where
  | key (event : KeyEvent) (position : Nat) (code : Byte) (repeats : Option Byte) (stuckCount : Option Byte)
  | chord (chord : Nat) (action : ChordAction) (members : List Nat) (result : ChordResult) (regime : Regime)
  | warning (warnings : Byte) (period : BitVec 16) (warnWindow : BitVec 16) (sinceKick : BitVec 32)
  | error (offset : Nat) (loc : Location) (syndrome : Byte) (severity : Severity) (source : Source) (repairRequested : Bool)
  | repair (notice : RepairNotice)
  | thermal (event : ThermalEvent) (channel : Nat) (role : ChannelRole) (reading : Option Int) (regime : Regime)
deriving DecidableEq, Repr

/-- A notice in the queue (R189). -/
structure Notice where
  session : BitVec 32
  body : NoticeBody
deriving DecidableEq, Repr

/-- The 23 commands of the command ring (R198). -/
inductive CommandCode where
  | status | setWindow | clearWindow | readWindow | takeError | diagRead | diagWrite | repairGroup | readRepairs
  | readThermal | checkRange | setWatch | clearWatch | readWatch | takeWatchHits | lockWatch | armWatchdog
  | disarmWatchdog | restart | readRestart | readTrace | setKey | readKeys
deriving DecidableEq, Repr

/-- The completion status codes (R198). -/
inductive Status where
  | done | refusedArgument | refusedState | refusedLocked | refusedShielded | unknown | timeout
deriving DecidableEq, Repr

inductive EngineState where
  | idle | fetching | executing | waiting | completing | faulted
deriving DecidableEq, Repr

/-- What the command in hand is at. `handed` is a command given to its owner and not yet taken (R180); `placed` says
whether a REPAIR-GROUP's request has been placed (R68); `completion` holds the 8 words of the completion write and
`doneWrite` follows it (R182). -/
inductive EngineWork where
  | none
  | handed (code : CommandCode)
  | diagRead (offset : Nat)
  | diagWrite (offset : Nat) (word : MemWord)
  | checkRange
  | repairGroup (group : Nat) (placed : Bool)
  | completion (words : List Word)
  | doneWrite
deriving DecidableEq, Repr

structure Engine where
  state : EngineState
  faultPending : Bool
  submit : Nat
  done : Nat
  record : List Word
  work : EngineWork
  waitTimer : Timer
deriving DecidableEq, Repr

inductive RingState where
  | unarmed | armed | faulted
deriving DecidableEq, Repr

/-- The event ring's state and index copies (R176, R186). -/
structure EventRing where
  state : RingState
  produce : Nat
  consume : Nat
deriving DecidableEq, Repr

/-- The posting in progress (R187): `step` 0 to 3 are the entry words, 4 the produce write; `missed` is the missed
count the entry carries and `words` its four words. -/
structure Posting where
  step : Nat
  missed : Byte
  words : List Word
deriving DecidableEq, Repr

inductive Ring where
  | command | event
deriving DecidableEq, Repr

inductive MailboxUser where
  | engine | posting
deriving DecidableEq, Repr

/-! ## The setting loader and the reset input (chapter 11) -/

inductive LoaderState where
  | reading | checking | loaded
deriving DecidableEq, Repr

/-- The settings, as the loaded copy of the setting image holds them (R196, R200). -/
structure Settings where
  memSize : Nat
  repairThreshold : Nat
  scrubInterval : Nat
  coldScrub : Int
  sensorPeriod : Nat
  heatLimit : Nat
  offTime : Nat
  soakTime : Nat
  restartPulse : Nat
  releaseHyst : Int
  powerBudget : Nat
  maintainTemp : Int
  boardDraw : Nat
  boardHeaterDraw : Nat
  panelHeaterDraw : Nat
  prepPasses : Nat
  prepCorrectedLimit : Nat
  prepRetryDelay : Nat
  bootLimit : Nat
  period : Nat
  warnWindow : Nat
  minInterval : Nat
  autoArm : Bool
  noDisarm : Bool
  lockTrip : Bool
  bootStage : Nat
  escalateCount : Nat
  escalateSpan : Nat
  coldLimit : Nat
  rows : Nat
  cols : Nat
  scanPeriod : Nat
  debounce : Nat
  debounceCold : Nat
  keyCold : Int
  stuckTime : Nat
  cmdRingSlots : Nat
  eventRingEntries : Nat
  repeatDelay : Nat
  repeatInterval : Nat
  cmdWaitLimit : Nat
  channels : List ChannelSettings
  windows : List (Option Window)
  watches : List (Option WatchEntry)
  keys : List KeyEntry
  chords : List Chord
deriving DecidableEq, Repr

structure Loader where
  state : LoaderState
  buffer : List Byte
  loaded : Option Settings
  defaultsFlag : Bool
  partialFlag : Bool
deriving DecidableEq, Repr

/-- The reset button input and its filter (R194). -/
structure ResetInput where
  raw : Bool
  filtered : Bool
  filtering : Bool
deriving DecidableEq, Repr

end Sys2Proof.Machine
end

