-- ==== Sys2Proof/Machine/Defaults.lean ====
section
/-! DEFINITION. The built-in default of every setting (R193, and the rule that owns each field), and the memory sizes
the size straps give (R194). -/

namespace Sys2Proof.Machine

/-- 1 MiB (00_scope.md 4.1). -/
def mebibyte : Nat := 1048576

/-- MEMSIZE from a strap code or a MEMSIZE code (R194): 0 to 4 give 4, 8, 16, 32, 64 MiB; codes 5 to 7 give 4 MiB. -/
def memSizeOfCode (code : Nat) : Nat :=
  match code with
  | 1 => 8 * mebibyte
  | 2 => 16 * mebibyte
  | 3 => 32 * mebibyte
  | 4 => 64 * mebibyte
  | _ => 4 * mebibyte

/-- The default role of each channel (R89). -/
def defaultRole (channel : Nat) : ChannelRole :=
  match channel with
  | 0 => .board
  | 1 => .memory
  | 2 => .panel
  | _ => .disabled

/-- The defaults of a channel's settings (R89): 0.0, 5.0, 70.0, 85.0 and 60.0 °C. -/
def defaultChannel (channel : Nat) : ChannelSettings :=
  { role := defaultRole channel, release := 0, target := 10, warnHot := 140, critical := 170, resume := 120 }

/-- The default key map entry (R164): within the default 4 × 4 matrix the code is the position number, else 255. -/
def defaultKey (position : Nat) : KeyEntry :=
  { code := if position / 8 < 4 ∧ position % 8 < 4 then BitVec.ofNat 8 position else 255,
    repeats := false, chordOnly := false }

/-- A disabled chord with nothing in it (R169, R193). -/
def emptyChord : Chord := { members := [], hold := 0, action := .serviceNote, enabled := false }

/-- The loaded copy built from built-in defaults alone, with MEMSIZE from a strap code (R193). -/
def builtIn (strapCode : Nat) : Settings :=
  { memSize := memSizeOfCode strapCode
    repairThreshold := 3
    scrubInterval := 1000
    coldScrub := -20
    sensorPeriod := 500
    heatLimit := 30
    offTime := 5
    soakTime := 120
    restartPulse := 100
    releaseHyst := 6
    powerBudget := 60
    maintainTemp := 10
    boardDraw := 25
    boardHeaterDraw := 30
    panelHeaterDraw := 15
    prepPasses := 2
    prepCorrectedLimit := 8
    prepRetryDelay := 30
    bootLimit := 120
    period := 1000
    warnWindow := 500
    minInterval := 0
    autoArm := false
    noDisarm := false
    lockTrip := false
    bootStage := 1
    escalateCount := 3
    escalateSpan := 10
    coldLimit := 2
    rows := 4
    cols := 4
    scanPeriod := 8
    debounce := 3
    debounceCold := 8
    keyCold := -30
    stuckTime := 60
    cmdRingSlots := 16
    eventRingEntries := 64
    repeatDelay := 500
    repeatInterval := 100
    cmdWaitLimit := 100
    channels := (List.range 4).map defaultChannel
    windows := List.replicate 16 none
    watches := List.replicate 8 none
    keys := (List.range 64).map defaultKey
    chords := List.replicate 4 emptyChord }

end Sys2Proof.Machine
end

