-- ==== Sys2Proof/Machine/State.lean ====
section
/-! DEFINITION. The state of the ZH640 as plain data: one field for each block's state (00_scope.md 2.2), the messages
under way between blocks, the contents of the working memory, and the queue of waiting commands. -/

namespace Sys2Proof.Machine

/-- Why a step can stop with a fault. -/
inductive Fault where
  /-- Raised by a completion of a memory access whose address lies outside the working memory, which the spec says
  does not exist (00_scope.md 4.1). Safe: no effect is invented. No location the redirect gives lies there. -/
  | addressOutsideMemory
deriving DecidableEq, Repr

/-- Why a step can be refused. -/
inductive Refusal where
  /-- Raised by exec's arm of a command that has no meaning yet. Safe. No arm is left that raises it. -/
  | notModelled (mnemonic : String)
deriving DecidableEq, Repr

/-- The state of the part, of the memory behind it, and of the queue of commands. -/
structure State where
  loader : Loader
  ctl : Control
  clock : Clock
  lamp : Lamp
  restarts : Restarts
  front : Option FrontTxn
  frontResponse : Option Response
  windows : List (Option Window)
  port : Option Access
  arbiter : Arbiter
  mem : Memory
  memEpoch : Nat
  log : ErrorLog
  scrub : Scrubber
  repair : Repair
  prep : Prep
  thermal : Thermal
  watch : Watch
  dog : Watchdog
  trace : List TraceEntry
  keypad : Keypad
  engine : Engine
  events : EventRing
  posting : Option Posting
  queue : List Notice
  missed : Byte
  headers : List Ring
  lastUser : Option MailboxUser
  resetInput : ResetInput
  requests : List RestartRequest
  holdReleases : List ChordTag
  outcomes : List ChordOutcome
  watchReports : List FrontReport
  snoopReports : List FrontReport
  freeCount : Nat
  pending : List Instr
deriving DecidableEq, Repr

/-- An arbiter with no request waiting (R24). -/
def Arbiter.empty : Arbiter := { repair := none, front := none, mailbox := none, prep := none, scrub := none }

/-- A position at part power-on (R157). -/
def KeyPosition.initial : KeyPosition :=
  { state := .up, countdown := 0, held := 0, repeatTime := 0, repeats := 0, announced := false, stuckCount := 0 }

/-- A chord entry at part power-on: disabled, its working state clear and 0 (R169). -/
def ChordRecord.initial : ChordRecord :=
  { chord := emptyChord, counting := false, counter := 0, spent := false, awaited := false }

/-- A channel at part power-on (R91, R95). -/
def Channel.initial : Channel := { state := .unknown, reading := none, timeouts := 0, hotArmed := true }

/-- The preparation engine when it is IDLE (R103): its value at part power-on, and what every end of a pass or of a
CHECK-RANGE returns it to. -/
def Prep.initial : Prep :=
  { activity := .idle, pass := 0, position := 0, step := .patternWrite, wait := .groupWait,
    corrected := 0, uncorrectable := 0, retry := .stopped, range := none }

/-- The part right after part power-on (R71 and the rule that owns each field; INVENTORY.md lists them). -/
def State.reset : State :=
  { loader := { state := .reading, buffer := [], loaded := none, defaultsFlag := false, partialFlag := false }
    ctl :=
      { regime := .loading, power := false, processorReset := true, memValid := false,
        heatLimit := .stopped, soak := .stopped, off := .stopped, pulse := .stopped,
        pendingForced := false, pendingDoubtful := false, sessionForced := false, sessionDoubtful := false }
    clock := { uptime := 0, session := 0, begun := false }
    lamp := { error := false, pattern := .slow, lit := true }
    restarts := { history := [], total := 0, escalation := [], coldCount := 0 }
    front := none
    frontResponse := none
    windows := List.replicate 16 none
    port := none
    arbiter := Arbiter.empty
    mem := []
    memEpoch := 0
    log := { entries := [], corrected := 0, reported := 0, uncorrectable := 0, overflow := 0, session := 0 }
    scrub :=
      { activity := .paused, fixList := [], position := 0, count := 0, due := false, timer := .stopped,
        inHand := none, cold := false }
    repair :=
      { table := [], spent := [], requests := [], migration := none, reservation := none,
        completed := 0, reRepaired := 0, refused := 0, declined := 0, dropped := 0, abandoned := 0 }
    prep := Prep.initial
    thermal :=
      { channels := List.replicate 4 Channel.initial, polling := none, pollTimer := .stopped, readiness := false,
        boardDemand := false, panelDemand := false, boardOutput := false, panelOutput := false }
    watch :=
      { entries := List.replicate 8 none, hits := 0, lastStage := none, senders := [], lock := false,
        violations := 0 }
    dog :=
      { state := .suspended, timer := .stopped, reference := 0,
        period := BitVec.ofNat 16 (builtIn 0).period,
        warnWindow := BitVec.ofNat 16 (builtIn 0).warnWindow,
        minInterval := BitVec.ofNat 16 (builtIn 0).minInterval,
        warnings := 0, requestOut := false }
    trace := []
    keypad :=
      { positions := List.replicate 64 KeyPosition.initial,
        map := List.replicate 64 { code := 255, repeats := false, chordOnly := false },
        chords := List.replicate 4 ChordRecord.initial, coldDebounce := true, scanTimer := .stopped }
    engine :=
      { state := .idle, faultPending := false, submit := 0, done := 0, record := [], work := .none,
        waitTimer := .stopped }
    events := { state := .unarmed, produce := 0, consume := 0 }
    posting := none
    queue := []
    missed := 0
    headers := []
    lastUser := none
    resetInput := { raw := false, filtered := false, filtering := false }
    requests := []
    holdReleases := []
    outcomes := []
    watchReports := []
    snoopReports := []
    freeCount := 0
    pending := [] }

end Sys2Proof.Machine
end

