-- ==== Sys2Proof/Machine/Flags.lean ====
section
/-! DEFINITION. Saturating counts, the check code (R25, R26), and the outputs that are functions of the state: board
power and processor reset by regime (R71), ATTN (R188), the lamp pattern (R101). -/

namespace Sys2Proof.Machine

/-! ## Saturating counts (00_scope.md 4.2) -/

/-- A count that stops at its largest value. -/
def satInc {w : Nat} (x : BitVec w) : BitVec w := if x = BitVec.allOnes w then x else x + 1

/-- A count increased by `n`, stopping at its largest value. -/
def satAdd {w : Nat} (x : BitVec w) (n : Nat) : BitVec w := BitVec.ofNat w (min (2 ^ w - 1) (x.toNat + n))

/-- A count decreased by another, not below 0. -/
def satSub {w : Nat} (x y : BitVec w) : BitVec w := BitVec.ofNat w (x.toNat - y.toNat)

/-! ## The check code -/

/-- The columns of data bits 0 to 63 (R25, the written-out table). -/
def dataColumns : List Byte :=
  [0x07, 0x0B, 0x0D, 0x0E, 0x13, 0x15, 0x16, 0x19,
   0x1A, 0x1C, 0x23, 0x25, 0x26, 0x29, 0x2A, 0x2C] ++
  [0x31, 0x32, 0x34, 0x38, 0x43, 0x45, 0x46, 0x49,
   0x4A, 0x4C, 0x51, 0x52, 0x54, 0x58, 0x61, 0x62] ++
  [0x64, 0x68, 0x70, 0x83, 0x85, 0x86, 0x89, 0x8A,
   0x8C, 0x91, 0x92, 0x94, 0x98, 0xA1, 0xA2, 0xA4] ++
  [0xA8, 0xB0, 0xC1, 0xC2, 0xC4, 0xC8, 0xD0, 0xE0,
   0x1F, 0x2F, 0x37, 0x3B, 0x3D, 0x3E, 0x4F, 0x57]

/-- The columns of check bits 0 to 7 (R25). -/
def checkColumns : List Byte := [0x01, 0x02, 0x04, 0x08, 0x10, 0x20, 0x40, 0x80]

/-- The exclusive OR of those columns of the list whose data bit is 1; the list's head is the column of bit `k`. -/
def columnsXor (data : Word) : List Byte → Nat → Byte
  | [], _ => 0
  | c :: cs, k => (if data.getLsbD k then c else 0) ^^^ columnsXor data cs (k + 1)

/-- The 8 check bits of a word, made from its 64 data bits (R25). -/
def checkBits (data : Word) : Byte := columnsXor data dataColumns 0

/-- A word stored with check bits made by the check unit (R25). -/
def made (data : Word) : MemWord := { data := data, check := checkBits data }

/-- The syndrome of a word as stored (R26). -/
def syndrome (w : MemWord) : Byte := w.check ^^^ checkBits w.data

/-- The outcome a syndrome gives (R26). -/
def outcomeOf (s : Byte) : CheckOutcome :=
  if s = 0 then .clean
  else
    match checkColumns.findIdx? (· == s), dataColumns.findIdx? (· == s) with
    | some i, _ => .checkBit i
    | none, some j => .dataBit j
    | none, none => .uncorrectable

/-- What the check unit reports of a stored word (R26). -/
def decode (w : MemWord) : CheckOutcome := outcomeOf (syndrome w)

/-- The data the check unit offers: bit j inverted for a single error in data bit j, the data as stored otherwise
(R26). -/
def offered (w : MemWord) : Word :=
  match decode w with
  | .dataBit j => w.data ^^^ (1#64 <<< j)
  | _ => w.data

/-- Whether an outcome is a single error, of either kind. -/
def CheckOutcome.single : CheckOutcome → Bool
  | .checkBit _ => true
  | .dataBit _ => true
  | _ => false

/-- The severity of a word that is not clean, under a check policy (R27). -/
def severityOf (policy : CheckPolicy) (o : CheckOutcome) : Severity :=
  match o with
  | .uncorrectable => .uncorrectable
  | _ =>
    match policy with
    | .correct => .corrected
    | .report => .reported

/-- The word the front port forms for a DATA response, with its poison mark (R10). -/
def formed (policy : CheckPolicy) (w : MemWord) : Word × Bool :=
  match decode w, policy with
  | .clean, _ => (w.data, false)
  | .uncorrectable, _ => (w.data, true)
  | .checkBit _, .correct => (w.data, false)
  | .dataBit _, .correct => (offered w, false)
  | .checkBit _, .report => (w.data, true)
  | .dataBit _, .report => (w.data, true)

/-! ## Outputs -/

/-- The regimes in which board power is on (R71). -/
def Regime.powered : Regime → Bool
  | .preparing => true
  | .releasing => true
  | .running => true
  | .restarting => true
  | _ => false

/-- The regimes in which processor reset is asserted: every one but RUNNING (R71). -/
def Regime.resetAsserted : Regime → Bool
  | .running => false
  | _ => true

/-- The ATTN output (R188). -/
def State.attn (s : State) : Bool :=
  decide (s.ctl.regime = .running) &&
    (decide (s.events.produce ≠ s.events.consume) || decide (s.events.state = .faulted))

/-- The lamp pattern of a regime, the lamp's error state, the session DOUBTFUL flag and DEFAULTS (R101). -/
def lampPattern (r : Regime) (error doubtful defaults : Bool) : LampPattern :=
  match r with
  | .running => if error || doubtful || defaults then .steady else .off
  | .overheat => .fast
  | .halted => .fast
  | .offCycle => .fast
  | _ => .slow

end Sys2Proof.Machine
end

