-- ==== Sys2Proof/Machine/Operands.lean ====
section
/-! DEFINITION. The formats software meets in memory (R197 to R199): bytes and words, enumeration codes, the argument
words of a command record, and the layouts of event entries and of results. -/

namespace Sys2Proof.Machine

/-! ## Bytes and words, little-endian -/

/-- The `n` low bytes of a natural number, least significant first. -/
def le (n v : Nat) : List Byte := (List.range n).map fun k => BitVec.ofNat 8 (v / 256 ^ k)

/-- The number that bytes spell, least significant first. -/
def leNat : List Byte → Nat
  | [] => 0
  | b :: bs => b.toNat + 256 * leNat bs

/-- Byte `k` of a word: byte 0 is the least significant (00_scope.md 4.1). -/
def wordByte (w : Word) (k : Nat) : Byte := w.extractLsb' (8 * k) 8

/-- The 8 bytes of a word. -/
def wordBytes (w : Word) : List Byte := (List.range 8).map (wordByte w)

/-- The word that up to 8 bytes spell. -/
def wordOf (bs : List Byte) : Word := BitVec.ofNat 64 (leNat (bs.take 8))

/-- The words that bytes spell, 8 bytes a word. -/
def wordsOf (count : Nat) (bs : List Byte) : List Word :=
  (List.range count).map fun k => wordOf (bs.drop (8 * k))

/-- The 8 words of a LINE-WRITE's 64 bytes. -/
def lineWords (d : BitVec 512) : List Word := (List.range 8).map fun k => d.extractLsb' (64 * k) 64

/-- The number of bytes a mask selects. -/
def maskCount (m : Byte) : Nat := ((List.range 8).filter fun k => m.getLsbD k).length

/-- Merge: each byte the mask selects from the new word, each other byte from the old (R13). -/
def merge (mask : Byte) (new old : Word) : Word :=
  wordOf ((List.range 8).map fun k => if mask.getLsbD k then wordByte new k else wordByte old k)

/-! ## Fields (R197) -/

def byteField (v : Nat) : List Byte := le 1 v
def flagField (b : Bool) : List Byte := [if b then 1 else 0]
def bitsField {w : Nat} (bytes : Nat) (v : BitVec w) : List Byte := le bytes v.toNat

/-- A field of `n` bytes that may be absent: absent is all ones (R197). -/
def optField (n : Nat) (v : Option Nat) : List Byte :=
  match v with
  | some v => le n v
  | none => List.replicate n 0xFF

/-- A temperature: signed 16-bit, in steps of 0.5 °C; absent 0x7FFF (R197). -/
def tempField (t : Option Int) : List Byte :=
  match t with
  | some t => le 2 (BitVec.ofInt 16 t).toNat
  | none => [0xFF, 0x7F]

/-- A location: 0 HOME with 0xFF, or 1 SPARE with its slot (R197). -/
def locField (l : Location) : List Byte :=
  match l with
  | .home => [0, 0xFF]
  | .spare n => [1, BitVec.ofNat 8 n]

/-! ## Enumeration codes (R197, codes from 0 upward) -/

def Regime.code : Regime → Nat
  | .loading => 0 | .heating => 1 | .soaking => 2 | .preparing => 3 | .releasing => 4
  | .running => 5 | .restarting => 6 | .offCycle => 7 | .overheat => 8 | .halted => 9

def DogState.code : DogState → Nat
  | .suspended => 0 | .disarmed => 1 | .booting => 2 | .armed => 3 | .warned => 4

def EngineState.code : EngineState → Nat
  | .idle => 0 | .fetching => 1 | .executing => 2 | .waiting => 3 | .completing => 4 | .faulted => 5

def RingState.code : RingState → Nat
  | .unarmed => 0 | .armed => 1 | .faulted => 2

def Severity.code : Severity → Nat
  | .corrected => 0 | .reported => 1 | .uncorrectable => 2

def Source.code : Source → Nat
  | .frontRead => 0 | .frontMerge => 1 | .scrub => 2 | .fix => 3 | .prep => 4 | .migration => 5

def WritePolicy.code : WritePolicy → Nat
  | .allow => 0 | .refuse => 1 | .refuseTrip => 2

def WritePolicy.ofCode (c : Nat) : Option WritePolicy :=
  match c with
  | 0 => some .allow | 1 => some .refuse | 2 => some .refuseTrip | _ => none

def CheckPolicy.code : CheckPolicy → Nat
  | .correct => 0 | .report => 1

def CheckPolicy.ofCode (c : Nat) : Option CheckPolicy :=
  match c with
  | 0 => some .correct | 1 => some .report | _ => none

def RingRole.code : RingRole → Nat
  | .none => 0 | .commandRing => 1 | .eventRing => 2

def RingRole.ofCode (c : Nat) : Option RingRole :=
  match c with
  | 0 => some .none | 1 => some .commandRing | 2 => some .eventRing | _ => Option.none

def boolOfCode (c : Nat) : Option Bool :=
  match c with
  | 0 => some false | 1 => some true | _ => none

def WatchAccess.code : WatchAccess → Nat
  | .write => 0 | .read => 1 | .either => 2

def WatchAccess.ofCode (c : Nat) : Option WatchAccess :=
  match c with
  | 0 => some .write | 1 => some .read | 2 => some .either | _ => none

def WatchRole.code : WatchRole → Nat
  | .kick => 0 | .stage _ => 1 | .trip => 2 | .note => 3

/-- The role a code and a stage number give; a STAGE needs a number from 1 to 15 (R117). -/
def WatchRole.ofCode (c stage : Nat) : Option WatchRole :=
  match c with
  | 0 => some .kick
  | 1 => if 1 ≤ stage ∧ stage ≤ 15 then some (.stage stage) else none
  | 2 => some .trip
  | 3 => some .note
  | _ => none

/-- The stage number of a STAGE role. -/
def WatchRole.stageNumber : WatchRole → Option Nat
  | .stage n => some n
  | _ => none

def Persistence.code : Persistence → Nat
  | .standing => 0 | .session => 1

def Persistence.ofCode (c : Nat) : Option Persistence :=
  match c with
  | 0 => some .standing | 1 => some .session | _ => none

def ChannelRole.code : ChannelRole → Nat
  | .disabled => 0 | .board => 1 | .memory => 2 | .panel => 3 | .air => 4

def ChannelRole.ofCode (c : Nat) : Option ChannelRole :=
  match c with
  | 0 => some .disabled | 1 => some .board | 2 => some .memory | 3 => some .panel | 4 => some .air | _ => none

def ChannelState.code : ChannelState → Nat
  | .unknown => 0 | .valid => 1 | .failed => 2

def RestartCause.code : RestartCause → Nat
  | .kickExpiry => 0 | .earlyKick => 1 | .bootLimit => 2 | .tripWatch => 3 | .guardTrip => 4 | .poison => 5
  | .lockViolation => 6 | .command => 7 | .chord => 8 | .resetInput => 9 | .thermal => 10

def RestartKind.code : RestartKind → Nat
  | .warm => 0 | .cold => 1 | .halt => 2 | .thermal => 3

def TraceOutcome.code : TraceOutcome → Nat
  | .done => 0 | .refused .policy => 1 | .refused .mergeFailed => 2 | .refused .outOfRange => 3

def KeyState.code : KeyState → Nat
  | .up => 0 | .pressing => 1 | .down => 2 | .releasing _ => 3 | .blocked => 4 | .stuck => 5

def KeyEvent.code : KeyEvent → Nat
  | .press => 0 | .release => 1 | .repeats => 2 | .stuck => 3 | .unstuck => 4

def ChordAction.code : ChordAction → Nat
  | .warmRestart => 0 | .coldRestart => 1 | .releaseHold => 2 | .serviceNote => 3

def ChordAction.ofCode (c : Nat) : Option ChordAction :=
  match c with
  | 0 => some .warmRestart | 1 => some .coldRestart | 2 => some .releaseHold | 3 => some .serviceNote | _ => none

def ChordResult.code : ChordResult → Nat
  | .taken => 0 | .discarded => 1 | .noted => 2

def RepairOutcome.code : RepairOutcome → Nat
  | .done => 0 | .reRepaired => 1 | .full => 2 | .carried => 3

def ThermalEvent.code : ThermalEvent → Nat
  | .hot => 0 | .sensorFailed => 1 | .sensorRestored => 2

/-- The status codes of a completion (R198). -/
def Status.code : Status → Nat
  | .done => 1 | .refusedArgument => 2 | .refusedState => 3 | .refusedLocked => 4 | .refusedShielded => 5
  | .unknown => 6 | .timeout => 7

/-- The command a code word names (R198). -/
def CommandCode.ofWord (w : Word) : Option CommandCode :=
  match w.toNat with
  | 0x01 => some .status
  | 0x10 => some .setWindow
  | 0x11 => some .clearWindow
  | 0x12 => some .readWindow
  | 0x20 => some .takeError
  | 0x21 => some .diagRead
  | 0x22 => some .diagWrite
  | 0x30 => some .repairGroup
  | 0x31 => some .readRepairs
  | 0x40 => some .readThermal
  | 0x50 => some .checkRange
  | 0x60 => some .setWatch
  | 0x61 => some .clearWatch
  | 0x62 => some .readWatch
  | 0x63 => some .takeWatchHits
  | 0x64 => some .lockWatch
  | 0x70 => some .armWatchdog
  | 0x71 => some .disarmWatchdog
  | 0x72 => some .restart
  | 0x73 => some .readRestart
  | 0x74 => some .readTrace
  | 0x80 => some .setKey
  | 0x81 => some .readKeys
  | _ => none

/-! ## Arguments of the fetched record (R198) -/

/-- Word `k` of the fetched record. -/
def State.recordWord (s : State) (k : Nat) : Word := s.engine.record.getD k 0

/-- The argument in word `k`, whole. -/
def State.arg (s : State) (k : Nat) : Nat := (s.recordWord k).toNat

/-- Byte `b` of word `k`, for an argument word that is read byte by byte. -/
def State.argByte (s : State) (k b : Nat) : Nat := (wordByte (s.recordWord k) b).toNat

/-- The low `n` bytes of a word, the others zero: a watch value or mask of an entry's length (R127, R198). -/
def lowBytes (n : Nat) (w : Word) : Word := BitVec.ofNat 64 (w.toNat % 256 ^ n)

/-! ## The completion record (R182, R198) -/

/-- The 8 words of a completion write: the code word as fetched, the status, and words 2 to 7 with the result bytes
laid from word 2 on. Words the results do not reach stay as fetched; the bytes of a word the results reach in part
are free values (assumption log 17). -/
def completionWords (s : State) (status : Status) (results : List Byte) : List Word :=
  let reached := (results.length + 7) / 8 * 8
  let body := (List.range 48).map fun i =>
    if i < results.length then results.getD i 0
    else if i < reached then Config.resultPad s.freeCount i
    else wordByte (s.recordWord (2 + i / 8)) (i % 8)
  s.recordWord 0 :: BitVec.ofNat 64 status.code :: wordsOf 6 body

/-! ## Event entries (R199) -/

/-- Positions in ascending order. -/
def ascending (ps : List Nat) : List Nat := (List.range 64).filter fun p => ps.contains p

/-- The kind byte of an event entry. -/
def NoticeBody.kind : NoticeBody → Nat
  | .key .. => 1
  | .chord .. => 2
  | .warning .. => 3
  | .error .. => 4
  | .repair .. => 5
  | .thermal .. => 6

/-- Bytes 8 onward of an event entry, before the zeros that fill it. -/
def NoticeBody.bytes : NoticeBody → List Byte
  | .key event position code repeats stuckCount =>
    byteField event.code ++ byteField position ++ [code, repeats.getD 0, stuckCount.getD 0]
  | .chord which action members result regime =>
    byteField which ++ byteField action.code ++ byteField result.code ++ byteField regime.code ++
      byteField members.length ++ (List.range 3).flatMap fun k => optField 1 (ascending members)[k]?
  | .warning warnings period warnWindow sinceKick =>
    [warnings, 0, 0, 0] ++ bitsField 2 period ++ bitsField 2 warnWindow ++ bitsField 4 sinceKick
  | .error offset loc syndrome severity source repairRequested =>
    le 4 offset ++ locField loc ++ [syndrome] ++ byteField severity.code ++ byteField source.code ++
      flagField repairRequested
  | .repair n =>
    le 4 n.group ++ byteField n.outcome.code ++ optField 1 n.newSlot ++ optField 1 n.oldSlot ++
      [n.carried.getD 0] ++ optField 2 (n.reRepairs.map (·.toNat)) ++ byteField n.free
  | .thermal event channel role reading regime =>
    byteField event.code ++ byteField channel ++ byteField role.code ++ byteField regime.code ++ tempField reading

/-- The 32 bytes of an event entry carrying a missed count (R199). -/
def Notice.entryBytes (n : Notice) (missed : Byte) : List Byte :=
  let bytes := byteField n.body.kind ++ [missed, 0, 0] ++ bitsField 4 n.session ++ n.body.bytes
  bytes ++ List.replicate (32 - bytes.length) 0

/-- The 4 words of an event entry. -/
def Notice.entryWords (n : Notice) (missed : Byte) : List Word := wordsOf 4 (n.entryBytes missed)

/-- Whether a notice is of kind KEY. -/
def NoticeBody.isKey : NoticeBody → Bool
  | .key .. => true
  | _ => false

end Sys2Proof.Machine
end

