-- ==== Sys2Proof/Machine/Ops.lean ====
section
/-! DEFINITION. The named operations every family shares: memory, locations, windows, the memory port and its arbiter,
the notice queue, the completion of a command, the mailbox unit's one request, and the setting of a reservation. -/

namespace Sys2Proof.Machine

/-! ## Settings, offsets and addresses -/

/-- The settings the blocks read: the loaded copy, or the built-in defaults while none is loaded (R196, assumption
log 8). -/
def State.settings (s : State) : Settings := s.loader.loaded.getD (builtIn 0)

/-- The usable size, MEMSIZE − 2048 (00_scope.md 4.1). -/
def State.usable (s : State) : Nat := s.settings.memSize - 2048

/-- The front offset of the group an offset lies in (00_scope.md 4.1). -/
def groupOf (offset : Nat) : Nat := offset / 64 * 64

/-- The front offset of the aligned word an offset lies in (R1). -/
def wordOffset (offset : Nat) : Nat := offset / 8 * 8

/-- The memory address of an offset at a location (R7, R56). -/
def State.addressOf (s : State) (loc : Location) (offset : Nat) : Nat :=
  match loc with
  | .home => offset
  | .spare n => s.settings.memSize - 2048 + 64 * n + offset % 64

/-! ## The contents of memory -/

/-- The stored word at an address, or none where nothing defined is stored. -/
def Memory.read : Memory → Nat → Option MemWord
  | [], _ => none
  | (b, w) :: m, a => if a = b then some w else Memory.read m a

/-- Store a word, keeping the addresses strictly rising. -/
def Memory.write : Memory → Nat → MemWord → Memory
  | [], a, w => [(a, w)]
  | (b, v) :: m, a, w =>
    if a < b then (a, w) :: (b, v) :: m
    else if a = b then (a, w) :: m
    else (b, v) :: Memory.write m a w

/-- The canonical form of memory: addresses strictly rising. No entry can equal what an unlisted address reads as,
for an unlisted address reads as no value (assumption log 3). -/
def Memory.wf : Memory → Bool
  | [] => true
  | (a, _) :: m =>
    match m with
    | [] => true
    | (b, _) :: _ => decide (a < b) && Memory.wf m

/-- The free value of a word that nothing has stored (assumption log 3). -/
def undefinedAt (epoch addr : Nat) : MemWord :=
  { data := (Config.undefinedWord epoch addr).extractLsb' 0 64
    check := (Config.undefinedWord epoch addr).extractLsb' 64 8 }

/-- No failed bit. -/
def noFlip : MemWord := { data := 0, check := 0 }

/-- The word an access reads at an address, and the memory after it: the bits that have failed are inverted in the
stored word, and the read delivers it so (assumption log 4). -/
def readWord (epoch : Nat) (flip : MemWord) (addr : Nat) (m : Memory) : MemWord × Memory :=
  let old := (Memory.read m addr).getD (undefinedAt epoch addr)
  if flip = noFlip then (old, m)
  else
    let now : MemWord := { data := old.data ^^^ flip.data, check := old.check ^^^ flip.check }
    (now, Memory.write m addr now)

/-- The `n` words an access reads from an address on. -/
def readWords (epoch : Nat) : List MemWord → Nat → Nat → Memory → List MemWord × Memory
  | _, _, 0, m => ([], m)
  | flips, addr, n + 1, m =>
    let r := readWord epoch (flips.headD noFlip) addr m
    let rest := readWords epoch flips.tail (addr + 8) n r.2
    (r.1 :: rest.1, rest.2)

/-- Store words from an address on. -/
def writeWords : List MemWord → Nat → Memory → Memory
  | [], _, m => m
  | w :: ws, addr, m => writeWords ws (addr + 8) (Memory.write m addr w)

/-! ## Windows and the redirect -/

/-- The window whose range holds an offset, with its index (R6). -/
def findWindow : List (Option Window) → Nat → Nat → Option (Nat × Window)
  | [], _, _ => none
  | none :: ws, k, o => findWindow ws (k + 1) o
  | some w :: ws, k, o => if w.base ≤ o ∧ o < w.base + w.size then some (k, w) else findWindow ws (k + 1) o

def State.windowAt (s : State) (o : Nat) : Option (Nat × Window) := findWindow s.windows 0 o

/-- The check policy that holds at an offset: the window's, or CORRECT in no window (R6). -/
def State.policyAt (s : State) (o : Nat) : CheckPolicy :=
  match s.windowAt o with
  | some (_, w) => w.checkPolicy
  | none => .correct

/-- The window that has a ring role (R176). -/
def ringIn : List (Option Window) → RingRole → Option Window
  | [], _ => none
  | none :: ws, r => ringIn ws r
  | some w :: ws, r => if w.ringRole = r then some w else ringIn ws r

def State.ring (s : State) (r : RingRole) : Option Window := ringIn s.windows r

/-- The repair table's entry for a group (R55). -/
def State.repairEntry (s : State) (g : Nat) : Option RepairEntry := s.repair.table.find? fun e => e.group == g

/-- The redirect: the current location of the group an offset lies in (R56). -/
def State.locate (s : State) (o : Nat) : Location :=
  match s.repairEntry (groupOf o) with
  | some e => .spare e.slot
  | none => .home

/-- Whether the group an offset lies in is reserved (R57). -/
def State.reservedAt (s : State) (o : Nat) : Bool := decide (s.repair.reservation = some (groupOf o))

/-! ## The arbiter and the memory port -/

def Arbiter.get (a : Arbiter) : Requester → Option Waiting
  | .repair => a.repair
  | .front => a.front
  | .mailbox => a.mailbox
  | .prep => a.prep
  | .scrub => a.scrub

def Arbiter.set (a : Arbiter) (r : Requester) (w : Option Waiting) : Arbiter :=
  match r with
  | .repair => { a with repair := w }
  | .front => { a with front := w }
  | .mailbox => { a with mailbox := w }
  | .prep => { a with prep := w }
  | .scrub => { a with scrub := w }

/-- A waiting request that a grant to another requester has passed over (R24). -/
def passedOver (w : Option Waiting) : Option Waiting := w.map fun w => { w with passed := w.passed + 1 }

/-- The requesters, highest priority first (R24). -/
def Requester.byPriority : List Requester := [.repair, .front, .mailbox, .prep, .scrub]

/-- The waiting requests, highest priority first. -/
def Arbiter.waiting (a : Arbiter) : List (Requester × Waiting) :=
  Requester.byPriority.filterMap fun r => (a.get r).map fun w => (r, w)

/-- Of a list in priority order, the request of the highest pass-over count, and of those that share it the first. -/
def longest : List (Requester × Waiting) → Option (Requester × Waiting)
  | [] => none
  | x :: xs =>
    match longest xs with
    | none => some x
    | some y => if x.2.passed < y.2.passed then some y else some x

/-- The grant the arbiter makes: the highest count of 16 or more, else the highest priority (R24). -/
def Arbiter.pick (a : Arbiter) : Option (Requester × Waiting) :=
  match longest (a.waiting.filter fun x => decide (16 ≤ x.2.passed)) with
  | some x => some x
  | none => a.waiting.head?

/-- The arbiter after a grant: the granted request has left, every other waiting count is one more (R24). -/
def Arbiter.afterGrant (a : Arbiter) (r : Requester) : Arbiter :=
  Arbiter.set
    { repair := passedOver a.repair, front := passedOver a.front, mailbox := passedOver a.mailbox,
      prep := passedOver a.prep, scrub := passedOver a.scrub } r none

/-- Place a request at the arbiter, its pass-over count 0 (R24). -/
def place (a : Access) (s : State) : State :=
  { s with arbiter := s.arbiter.set a.requester (some { access := a, passed := 0 }) }

/-- Withdraw a requester's request (R24). -/
def withdraw (r : Requester) (s : State) : State := { s with arbiter := s.arbiter.set r none }

/-- The access a block asks for at the location the redirect gives now (R56). -/
def State.accessAt (s : State) (r : Requester) (p : Purpose) (line : Bool) (offset : Nat) (words : List MemWord) :
    Access :=
  { requester := r, purpose := p, line := line, offset := offset, loc := s.locate offset, words := words,
    syndrome := 0, discarded := false }

/-- The mailbox unit's user that a MAILBOX access belongs to (R183). -/
def Purpose.user : Purpose → Option MailboxUser
  | .fetch => some .engine
  | .completionWrite => some .engine
  | .doneWrite => some .engine
  | .diagRead => some .engine
  | .diagWrite => some .engine
  | .entryWrite => some .posting
  | .produceWrite => some .posting
  | _ => none

/-- What a grant changes at the block it goes to: COPY (R60), the front port's step 7 (R3), the previous MAILBOX
grant (R183), ACCESS (R106), FIX-PAIR (R48) or SWEEP-READ with the due flag cleared (R51). -/
def granted (r : Requester) (a : Access) (s : State) : State :=
  match r with
  | .repair => { s with repair := { s.repair with migration := s.repair.migration.map fun m => { m with copying := true } } }
  | .front => { s with front := s.front.map fun t => { t with phase := .access } }
  | .mailbox => { s with lastUser := a.purpose.user }
  | .prep => { s with prep := { s.prep with wait := .access } }
  | .scrub =>
    if a.purpose = .sweepRead then { s with scrub := { s.scrub with activity := .sweepRead, due := false } }
    else { s with scrub := { s.scrub with activity := .fixPair } }

/-- One grant, if the port is free, board power is on and a request waits (R24). -/
def grant (s : State) : State :=
  if s.port.isSome || !s.ctl.power then s
  else
    match s.arbiter.pick with
    | none => s
    | some (r, w) => granted r w.access { s with arbiter := s.arbiter.afterGrant r, port := some w.access }

/-- The number of words an access moves (R23). -/
def Access.count (a : Access) : Nat := if a.line then 8 else 1

/-- The memory address an access begins at. -/
def State.accessAddress (s : State) (a : Access) : Nat := s.addressOf a.loc a.offset

/-- Whether an access lies within the working memory. -/
def State.inMemory (s : State) (a : Access) : Bool :=
  decide (s.accessAddress a + 8 * a.count ≤ s.settings.memSize)

/-- Whether an access stores check bits that the check unit made: every write but DIAG-WRITE and the migration's copy
(R23, R63). -/
def Purpose.madeChecks : Purpose → Bool
  | .diagWrite => false
  | .migrationWrite => false
  | _ => true

/-- The places of a slot that an access covers, bit k for place k. -/
def Access.places (a : Access) : Byte := if a.line then 0xFF else 1#8 <<< (a.offset % 64 / 8)

/-- A write with made check bits that completed at a slot in use takes its places from the entry's carried places
(R63). -/
def clearCarried (a : Access) (s : State) : State :=
  match a.loc with
  | .home => s
  | .spare n =>
    if a.purpose.madeChecks then
      { s with repair := { s.repair with table := s.repair.table.map fun e =>
          if e.slot = n then { e with carried := e.carried &&& ~~~a.places } else e } }
    else s

/-- The completion of a read access of one purpose: the port is free, and the words read go to its requester. With
no such access in progress the event changes nothing (assumption log 1). -/
def atRead (p : Purpose) (flips : List MemWord) (s : State) (k : Access → List MemWord → State → State) :
    Host.Outcome State Fault Refusal :=
  match s.port with
  | none => .next s
  | some a =>
    if a.purpose = p then
      if s.inMemory a then
        let r := readWords s.memEpoch flips (s.accessAddress a) a.count s.mem
        .next (k a r.1 { s with port := none, mem := r.2 })
      else .fault .addressOutsideMemory
    else .next s

/-- The completion of a write access of one purpose: its words are stored, the port is free, the carried places are
cleared where R63 says. With no such access in progress the event changes nothing (assumption log 1). -/
def atWrite (p : Purpose) (s : State) (k : Access → State → State) : Host.Outcome State Fault Refusal :=
  match s.port with
  | none => .next s
  | some a =>
    if a.purpose = p then
      if s.inMemory a then
        .next (k a (clearCarried a { s with port := none, mem := writeWords a.words (s.accessAddress a) s.mem }))
      else .fault .addressOutsideMemory
    else .next s

/-! ## The notice queue -/

/-- The queue without its oldest KEY entry, if it holds one. -/
def dropOldestKey : List Notice → Option (List Notice)
  | [] => none
  | n :: q => if n.body.isKey then some q else (dropOldestKey q).map fun q' => n :: q'

/-- The queue without its oldest KEY entry that is not being posted (R189); the entry being posted is the head. -/
def displaceKey (posting : Bool) (q : List Notice) : Option (List Notice) :=
  if posting then
    match q with
    | [] => none
    | n :: rest => (dropOldestKey rest).map fun q' => n :: q'
  else dropOldestKey q

/-- A notice arrives at the queue (R189, R190). -/
def queueNotice (b : NoticeBody) (s : State) : State :=
  let n : Notice := { session := s.clock.session, body := b }
  if b.isKey && decide (s.ctl.regime ≠ .running) then { s with missed := satAdd s.missed 1 }
  else if s.queue.length < 32 then { s with queue := s.queue ++ [n] }
  else if b.isKey then { s with missed := satAdd s.missed 1 }
  else
    match displaceKey s.posting.isSome s.queue with
    | some q => { s with queue := q ++ [n], missed := satAdd s.missed 1 }
    | none => { s with missed := satAdd s.missed 1 }

/-! ## The lamp, and requests between blocks -/

/-- The lamp pattern decided afresh; a newly selected pattern starts with its on phase (R101; assumption log 21). -/
def lampUpdate (s : State) : State :=
  let p := lampPattern s.ctl.regime s.lamp.error s.ctl.sessionDoubtful s.loader.defaultsFlag
  if p = s.lamp.pattern then s else { s with lamp := { s.lamp with pattern := p, lit := decide (p ≠ .off) } }

/-- A restart request is sent to the board control unit (R143). -/
def sendRequest (cause : RestartCause) (cold : Bool) (chord : Option ChordTag) (s : State) : State :=
  { s with requests := s.requests ++ [{ cause := cause, cold := cold, chord := chord }] }

/-! ## The command engine and the mailbox unit's one request -/

/-- The owning block gives a status and result bytes: the engine enters COMPLETING (R180, R182). -/
def completeCommand (status : Status) (results : List Byte) (s : State) : State :=
  { s with
    engine := { s.engine with
      state := .completing, work := .completion (completionWords s status results), waitTimer := .stopped }
    freeCount := s.freeCount + 1 }

/-- The command in hand enters WAITING, and the wait timer starts (R181). -/
def enterWaiting (s : State) : State :=
  { s with engine := { s.engine with state := .waiting, waitTimer := .running s.settings.cmdWaitLimit } }

/-- The command in hand returns to EXECUTING, and the wait timer stops (R181). -/
def resumeExecuting (s : State) : State :=
  { s with engine := { s.engine with state := .executing, waitTimer := .stopped } }

/-- The distance from index `a` to index `b` in a ring of `n` slots: (b − a) mod 2n (R176). -/
def indexDistance (n a b : Nat) : Nat := (b + (2 * n - a % (2 * n))) % (2 * n)

/-- An index plus 1, wrapping at 2n (R182, R187). -/
def nextIndex (n a : Nat) : Nat := (a + 1) % (2 * n)

/-- Fetching begins whenever the engine is IDLE, the regime is RUNNING and the done copy differs from the submit copy
(R179). -/
def beginFetch (s : State) : State :=
  if s.engine.state = .idle ∧ s.ctl.regime = .running ∧ s.engine.done ≠ s.engine.submit then
    { s with engine := { s.engine with state := .fetching, work := .none, record := [] } }
  else s

/-- The offset of the slot at the done index (R176). -/
def State.slotOffset (s : State) (w : Window) : Nat :=
  w.base + 64 * (1 + s.engine.done % s.settings.cmdRingSlots)

/-- The access the command engine has to make (R179, R39, R182). -/
def engineAccess (s : State) : Option Access :=
  match s.engine.state with
  | .fetching =>
    (s.ring .commandRing).map fun w => s.accessAt .mailbox .fetch true (s.slotOffset w) []
  | .executing =>
    match s.engine.work with
    | .diagRead o => some (s.accessAt .mailbox .diagRead false o [])
    | .diagWrite o w => some (s.accessAt .mailbox .diagWrite false o [w])
    | _ => none
  | .completing =>
    match s.engine.work with
    | .completion ws =>
      (s.ring .commandRing).map fun w => s.accessAt .mailbox .completionWrite true (s.slotOffset w) (ws.map made)
    | .doneWrite =>
      (s.ring .commandRing).map fun w =>
        s.accessAt .mailbox .doneWrite false (w.base + 8)
          [made (BitVec.ofNat 64 (nextIndex s.settings.cmdRingSlots s.engine.done))]
    | _ => none
  | _ => none

/-- The conditions of a posting (R187). -/
def postingReady (s : State) : Bool :=
  decide (s.ctl.regime = .running) && decide (s.events.state = .armed) && !s.queue.isEmpty &&
    decide (indexDistance s.settings.eventRingEntries s.events.consume s.events.produce < s.settings.eventRingEntries)

/-- The posting in progress, or the one that would start now with the missed count taken (R187). -/
def postingInHand (s : State) : Option Posting :=
  match s.posting with
  | some p => some p
  | none =>
    if postingReady s then
      s.queue.head?.map fun n => { step := 0, missed := s.missed, words := n.entryWords s.missed }
    else none

/-- The access a posting has to make at its step (R187). -/
def postingAccess (s : State) (p : Posting) : Option Access :=
  (s.ring .eventRing).map fun w =>
    if p.step < 4 then
      s.accessAt .mailbox .entryWrite false
        (w.base + 64 + 32 * (s.events.produce % s.settings.eventRingEntries) + 8 * p.step)
        [made (p.words.getD p.step 0)]
    else
      s.accessAt .mailbox .produceWrite false w.base
        [made (BitVec.ofNat 64 (nextIndex s.settings.eventRingEntries s.events.produce))]

/-- The ring role of a ring. -/
def Ring.role : Ring → RingRole
  | .command => .commandRing
  | .event => .eventRing

/-- The header write of a release that comes next (R177). -/
def headerAccess (s : State) : Option Access :=
  match s.headers with
  | [] => none
  | r :: _ =>
    (s.ring r.role).map fun w => s.accessAt .mailbox .headerWrite true w.base (List.replicate 8 (made 0))

/-- An access that no reservation holds back (R57). -/
def unreserved (s : State) (a : Option Access) : Option Access := a.filter fun a => !s.reservedAt a.offset

/-- Whether the mailbox unit has a request at the arbiter or an access at the port. -/
def mailboxBusy (s : State) : Bool :=
  s.arbiter.mailbox.isSome ||
    match s.port with
    | some a => decide (a.requester = .mailbox)
    | none => false

/-- The posting's access placed as the MAILBOX request: its posting is now in progress (R187). -/
def placePosting (p : Posting) (a : Access) (s : State) : State := place a { s with posting := some p }

/-- The mailbox unit places its one request, if it is free: a header write of a release; else the access of the user
that did not have the previous MAILBOX grant, the command engine's first when neither had it (R183). -/
def mailboxPlace (s : State) : State :=
  if mailboxBusy s then s
  else
    match unreserved s (headerAccess s) with
    | some a => place a s
    | none =>
      let posting := (postingInHand s).bind fun p => (unreserved s (postingAccess s p)).map fun a => (p, a)
      match unreserved s (engineAccess s), posting with
      | some e, some (p, a) => if s.lastUser = some .engine then placePosting p a s else place e s
      | some e, none => place e s
      | none, some (p, a) => placePosting p a s
      | none, none => s

/-- The end of every step that can place a request or free the port: the mailbox unit places its request, and the
arbiter makes its grant (R24, R183; assumption log 28). -/
def finish (s : State) : State := grant (mailboxPlace s)

/-! ## Setting a reservation (R57) -/

/-- The front port withdraws a request for the group and waits (R5). -/
def frontYield (g : Nat) (s : State) : State :=
  match s.arbiter.front with
  | some w =>
    if groupOf w.access.offset = g then
      withdraw .front { s with front := s.front.map fun t => { t with phase := .redirectWait } }
    else s
  | none => s

/-- The scrubber withdraws a request for the group and waits (R47, R51). -/
def scrubYield (g : Nat) (s : State) : State :=
  match s.arbiter.scrub with
  | some w =>
    if groupOf w.access.offset = g then
      withdraw .scrub { s with scrub := { s.scrub with activity := .groupWait } }
    else s
  | none => s

/-- The preparation engine withdraws a request for the group and waits (R107); a CHECK-RANGE enters WAITING (R115). -/
def prepYield (g : Nat) (s : State) : State :=
  match s.arbiter.prep with
  | some w =>
    if groupOf w.access.offset = g then
      let s := withdraw .prep { s with prep := { s.prep with wait := .groupWait } }
      if s.prep.activity = .checking then enterWaiting s else s
    else s
  | none => s

/-- The group of the DIAG access the command in hand has to make. -/
def EngineWork.diagGroup : EngineWork → Option Nat
  | .diagRead o => some (groupOf o)
  | .diagWrite o _ => some (groupOf o)
  | _ => Option.none

/-- Whether the port carries the DIAG access of the command in hand. -/
def diagInProgress (s : State) : Bool :=
  match s.port with
  | some a => (decide (a.purpose = .diagRead) || decide (a.purpose = .diagWrite)) && !a.discarded
  | none => false

/-- The mailbox unit withdraws a request for the group (R179, R183), and a DIAG command that has not been granted
enters WAITING (R39, R181; assumption log 27). -/
def mailboxYield (g : Nat) (s : State) : State :=
  let s :=
    match s.arbiter.mailbox with
    | some w => if groupOf w.access.offset = g then withdraw .mailbox s else s
    | none => s
  if s.engine.state = .executing ∧ s.engine.work.diagGroup = some g ∧ diagInProgress s = false then enterWaiting s
  else s

/-- Set the group reservation; every block that holds a request for the group withdraws it and waits (R57). -/
def setReservation (g : Nat) (s : State) : State :=
  mailboxYield g (prepYield g (scrubYield g (frontYield g
    { s with repair := { s.repair with reservation := some g } })))

end Sys2Proof.Machine
end

