-- ==== Sys2Proof/Machine/FrontPath.lean ====
section
/-! DEFINITION. The front port's steps (R3 to R9): the range check, the wait on a reservation, classification, the write
checks, the request for the memory port, and the responses with the reports that follow them. -/

namespace Sys2Proof.Machine

/-- Whether a transaction writes. -/
def TxnKind.writes : TxnKind → Bool
  | .write => true
  | .lineWrite => true
  | _ => false

/-- Whether a transaction concerns a whole group. -/
def TxnKind.isLine : TxnKind → Bool
  | .lineRead => true
  | .lineWrite => true
  | _ => false

/-- The classification an offset receives (R6). -/
def State.classify (s : State) (o : Nat) : Classification :=
  match s.windowAt o with
  | some (k, w) =>
    { window := some k, writePolicy := w.writePolicy, checkPolicy := w.checkPolicy, ringRole := w.ringRole,
      poisonRestart := w.poisonRestart }
  | none =>
    { window := none, writePolicy := .allow, checkPolicy := .correct, ringRole := .none, poisonRestart := false }

/-- The offset of the part-owned header word of a ring window: the done index of the command ring, the produce index
of the event ring (R8, R175, R176). -/
def partOwned (w : Window) : Option Nat :=
  match w.ringRole with
  | .commandRing => some (w.base + 8)
  | .eventRing => some w.base
  | .none => none

/-- Whether a write's bytes include a byte of a part-owned header word (R8). -/
def touchesPartOwned (t : FrontTxn) (w : Window) : Bool :=
  match partOwned w with
  | none => false
  | some h =>
    match t.kind with
    | .write => decide (t.mask ≠ 0) && decide (t.offset = h)
    | .lineWrite => decide (t.offset = groupOf h)
    | _ => false

/-- Whether step 5 refuses a write (R8). -/
def State.refusesWrite (s : State) (t : FrontTxn) : Bool :=
  t.kind.writes &&
    (decide ((s.classify t.offset).writePolicy ≠ .allow) ||
      match s.windowAt t.offset with
      | some (_, w) => touchesPartOwned t w
      | none => false)

/-- The report of a transaction (R15, R16). -/
def FrontTxn.report (t : FrontTxn) (kind : ReportKind) (words : List Word) (window : Option Nat) : FrontReport :=
  { kind := kind, line := t.kind.isLine, offset := t.offset, mask := t.mask, words := words, window := window }

/-- The response is given, and the front port is empty (R1, R2). -/
def respond (r : Response) (s : State) : State := { s with front := none, frontResponse := some r }

/-- A report goes to the restart supervisor (R15, R16). -/
def reportWatch (r : FrontReport) (s : State) : State := { s with watchReports := s.watchReports ++ [r] }

/-- A report of a performed write goes to the restart supervisor and to the mailbox unit (R15). -/
def reportWrite (r : FrontReport) (s : State) : State :=
  { s with watchReports := s.watchReports ++ [r], snoopReports := s.snoopReports ++ [r] }

/-- A refusal: the response, and for a write the report for the write trace (R2, R4, R16). -/
def refuseTxn (t : FrontTxn) (reason : RefuseReason) (window : Option Nat) (s : State) : State :=
  let s := respond (.refused reason) s
  if t.kind.writes then reportWatch (t.report (.refused reason) [] window) s else s

/-- The memory access a transaction asks for; the read half stands for the locked pair of a partial write (R9). -/
def frontAccess (s : State) (t : FrontTxn) : Access :=
  match t.kind with
  | .read => s.accessAt .front .frontRead false t.offset []
  | .lineRead => s.accessAt .front .frontRead true t.offset []
  | .write =>
    if t.mask = 0xFF then s.accessAt .front .frontWrite false t.offset (t.words.map made)
    else s.accessAt .front .frontMergeRead false t.offset []
  | .lineWrite => s.accessAt .front .frontWrite true t.offset (t.words.map made)

/-- Steps 4 and 6: the redirect is applied and the request placed (R5, R7, R9). -/
def frontRequest (t : FrontTxn) (s : State) : State :=
  place (frontAccess s t) { s with front := some { t with phase := .requested } }

/-- Steps 3 to 6, and the end of a transaction that makes no access (R3, R6, R8). -/
def frontClassify (t : FrontTxn) (s : State) : State :=
  let c := s.classify t.offset
  if s.refusesWrite t then
    let s' := refuseTxn t .policy c.window s
    if c.writePolicy = .refuseTrip then sendRequest .guardTrip false none s' else s'
  else if t.kind = .write ∧ t.mask = 0 then
    reportWatch (t.report .emptyWrite [] c.window) (respond .done s)
  else frontRequest { t with classification := some c } s

/-- Steps 1 and 2 for a transaction the bus presents while the front port is empty and the processor runs (R1, R4,
R5; assumption log 13), then its further steps. -/
def frontAccept (kind : TxnKind) (offset : Nat) (mask : Byte) (words : List Word) (s : State) : State :=
  if s.ctl.regime ≠ .running ∨ s.front.isSome then s
  else
    let aligned := if kind.isLine then groupOf offset else wordOffset offset
    let t : FrontTxn :=
      { kind := kind, offset := aligned, mask := mask, words := words, phase := .reserveWait,
        classification := none }
    if s.usable ≤ aligned then refuseTxn t .outOfRange none s
    else if s.reservedAt aligned then { s with front := some t }
    else finish (frontClassify t s)

/-- The release of a group's reservation, at the front port (R5). -/
def frontRelease (g : Nat) (s : State) : State :=
  match s.front with
  | some t =>
    if groupOf t.offset = g then
      match t.phase with
      | .reserveWait => frontClassify t s
      | .redirectWait => frontRequest t s
      | _ => s
    else s
  | none => s

end Sys2Proof.Machine
end

