-- ==== Sys2Proof/Machine/PrepWork.lean ====
section
/-! DEFINITION. The preparation engine's shared operations: the pass pattern, and the request of the step in hand. -/

namespace Sys2Proof.Machine

/-- The pattern word for the word at a front offset in a pass (R104). -/
def patternWord (pass offset : Nat) : Word :=
  let w : BitVec 32 := BitVec.ofNat 32 offset
  if pass % 2 = 1 then ~~~w ++ w else w ++ ~~~w

/-- The pattern words of a group (R104, R106). -/
def patternWords (pass g : Nat) : List Word := (List.range 8).map fun k => patternWord pass (g + 8 * k)

/-- The front offset of the group in hand. -/
def State.prepGroup (s : State) : Nat := 64 * s.prep.position

/-- The access of the step in hand (R106), or the LINE-READ of a CHECK-RANGE (R114). -/
def State.prepAccess (s : State) : Access :=
  if s.prep.activity = .checking then s.accessAt .prep .checkRead true s.prepGroup []
  else
    match s.prep.step with
    | .patternWrite =>
      s.accessAt .prep .patternWrite true s.prepGroup ((patternWords s.prep.pass s.prepGroup).map made)
    | .readBack => s.accessAt .prep .readBack true s.prepGroup []
    | .zeroWrite => s.accessAt .prep .zeroWrite true s.prepGroup (List.replicate 8 (made 0))

/-- The step in hand is handled: GROUP-WAIT while its group is reserved, else its request is placed (R106). A
CHECK-RANGE that has to wait enters WAITING (R115). -/
def prepHandle (s : State) : State :=
  if s.reservedAt s.prepGroup then
    let s' := { s with prep := { s.prep with wait := .groupWait } }
    if s.prep.activity = .checking then enterWaiting s' else s'
  else place s.prepAccess { s with prep := { s.prep with wait := .portWait } }

/-- Pass `p` begins at group 0 with its counts 0 (R105, R110). -/
def beginPass (p : Nat) (s : State) : State :=
  prepHandle { s with prep := { s.prep with
    activity := .passing, pass := p, position := 0, step := .patternWrite, corrected := 0, uncorrectable := 0,
    retry := .stopped, range := none } }

/-- The release of a group's reservation, at the preparation engine (R107, R115). -/
def prepRelease (g : Nat) (s : State) : State :=
  if s.prep.wait = .groupWait ∧ s.prepGroup = g then
    match s.prep.activity with
    | .passing => prepHandle s
    | .checking => prepHandle (resumeExecuting s)
    | _ => s
  else s

/-- The engine becomes IDLE, its request withdrawn (R103, R112, R116). -/
def prepAbandon (s : State) : State := withdraw .prep { s with prep := Prep.initial }

end Sys2Proof.Machine
end

