-- ==== Sys2Proof/Machine/ScrubWork.lean ====
section
/-! DEFINITION. The scrubber's shared operations: when it runs, the choice of work, the fix list, and its pauses. -/

namespace Sys2Proof.Machine

/-- Whether the scrubber runs: memory valid, and RUNNING or RESTARTING (R44). -/
def State.scrubRuns (s : State) : Bool :=
  s.ctl.memValid && (decide (s.ctl.regime = .running) || decide (s.ctl.regime = .restarting))

/-- The interval timer's length in µs: SCRUB_INTERVAL, a quarter of it under the cold-scrub condition (R50). -/
def State.scrubLength (s : State) : Nat :=
  if s.scrub.cold then s.settings.scrubInterval / 4 else s.settings.scrubInterval

/-- The front offset of a piece of work. -/
def ScrubWork.offset : ScrubWork → Nat
  | .fix e => e.offset
  | .sweep k => 64 * k

/-- The access a piece of work asks for; the read half stands for the locked pair of a fix (R47, R51). -/
def State.scrubAccess (s : State) (w : ScrubWork) : Access :=
  match w with
  | .fix e => s.accessAt .scrub .fixRead false e.offset []
  | .sweep k => s.accessAt .scrub .sweepRead true (64 * k) []

/-- The work in hand waits for its group's release, or its request is placed (R47, R51). -/
def scrubServe (w : ScrubWork) (s : State) : State :=
  if s.reservedAt w.offset then { s with scrub := { s.scrub with inHand := some w, activity := .groupWait } }
  else
    place (s.scrubAccess w) { s with scrub := { s.scrub with inHand := some w, activity := .portWait } }

/-- The fix list without the entries at its head that now lie in REPORT windows (R47). -/
def State.servable (s : State) : List FixEntry :=
  s.scrub.fixList.dropWhile fun e => decide (s.policyAt e.offset = .report)

/-- The choice of work: the oldest fix entry, else the sweep group if due, else IDLE (R47, R51). -/
def chooseWork (s : State) : State :=
  let s' := { s with scrub := { s.scrub with fixList := s.servable } }
  match s.servable with
  | e :: _ => scrubServe (.fix e) s'
  | [] =>
    if s.scrub.due then scrubServe (.sweep s.scrub.position) s'
    else { s' with scrub := { s'.scrub with inHand := none, activity := .idle } }

/-- The end of the work in hand: the next work, or PAUSED where a pause was waiting (R44, R48, R52). -/
def endWork (s : State) : State :=
  if s.scrubRuns then chooseWork { s with scrub := { s.scrub with inHand := none } }
  else { s with scrub := { s.scrub with inHand := none, activity := .paused } }

/-- A fix request (R46); an entry appended while the scrubber is IDLE is taken at once (R47). -/
def offerFix (offset : Nat) (loc : Location) (s : State) : State :=
  let e : FixEntry := { offset := offset, loc := loc }
  if !s.ctl.memValid || s.scrub.fixList.contains e || decide (8 ≤ s.scrub.fixList.length) then s
  else
    let s := { s with scrub := { s.scrub with fixList := s.scrub.fixList ++ [e] } }
    if s.scrub.activity = .idle then chooseWork s else s

/-- Fix requests of one access, in ascending order of offset (R46). -/
def offerFixes (es : List FixEntry) (s : State) : State := es.foldl (fun s e => offerFix e.offset e.loc s) s

/-- The release of a group's reservation, at the scrubber (R47, R51). -/
def scrubRelease (g : Nat) (s : State) : State :=
  match s.scrub.inHand with
  | some w => if s.scrub.activity = .groupWait ∧ groupOf w.offset = g then scrubServe w s else s
  | none => s

/-- The news of a regime or of the memory-valid flag, while board power stays as it is (R44). Where the news cancels a
pause that still waits for its granted access, the interval timer starts at the news (the model's choice, assumption
log 34). A pause that finds a granted access keeps the work in hand until that access completes (assumption log 36). -/
def scrubNews (s : State) : State :=
  if s.scrubRuns then
    match s.scrub.activity with
    | .paused =>
      chooseWork { s with scrub := { s.scrub with due := false, timer := .running s.scrubLength, inHand := none } }
    | .fixPair | .sweepRead =>
      if s.scrub.timer = .stopped then { s with scrub := { s.scrub with timer := .running s.scrubLength } } else s
    | _ => s
  else
    match s.scrub.activity with
    | .paused => s
    | .fixPair | .sweepRead => { s with scrub := { s.scrub with timer := .stopped, due := false } }
    | _ =>
      withdraw .scrub
        { s with scrub := { s.scrub with timer := .stopped, due := false, inHand := none, activity := .paused } }

/-- Board power goes off, at the scrubber (R45). -/
def scrubPowerOff (s : State) : State :=
  withdraw .scrub
    { s with scrub := { s.scrub with
        fixList := [], position := 0, due := false, timer := .stopped, inHand := none, activity := .paused } }

end Sys2Proof.Machine
end

