-- ==== Sys2Proof/Machine/RepairWork.lean ====
section
/-! DEFINITION. The repair unit's shared operations: free slots, the request list, the start of a migration, the
release of the reservation, the reports of outcomes, and the loss of board power (chapter 4). -/

namespace Sys2Proof.Machine

/-- The free slots, in ascending order (R54). -/
def Repair.free (r : Repair) : List Nat :=
  (List.range 32).filter fun n => !(r.table.any fun e => e.slot == n) && !r.spent.contains n

/-- Whether a group is pending: on the list, or in migration (R58). -/
def Repair.isPending (r : Repair) (g : Nat) : Bool :=
  r.requests.contains g || (r.migration.map (·.group)) == some g

/-- The results of REPAIR-GROUP (R69, R198). -/
def repairResults (n : RepairNotice) : List Byte :=
  byteField n.outcome.code ++ le 4 n.group ++ optField 1 n.newSlot ++ optField 1 n.oldSlot ++ [n.carried.getD 0] ++
    optField 2 (n.reRepairs.map (·.toNat)) ++ byteField n.free

/-- The REPAIR-GROUP that waits for an outcome of a group. -/
def waitsForRepair (g : Nat) (e : Engine) : Bool :=
  decide (e.state = .waiting) && (decide (e.work = .repairGroup g true) || decide (e.work = .repairGroup g false))

/-- An outcome: its REPAIR notice is queued (R66), and a REPAIR-GROUP waiting on the group completes (R69). -/
def reportOutcome (n : RepairNotice) (s : State) : State :=
  let s := queueNotice (.repair n) s
  if waitsForRepair n.group s.engine then completeCommand .done (repairResults n) s else s

/-- A REPAIR-GROUP waiting for room offers its request again (R68; assumption log 22). -/
def reoffer (s : State) : State :=
  match s.engine.work with
  | .repairGroup g false =>
    if s.engine.state ≠ .waiting then s
    else
      let s' := { s with engine := { s.engine with work := .repairGroup g true } }
      if s.repair.isPending g then s'
      else if s.repair.requests.length < 4 then
        { s' with repair := { s.repair with requests := s.repair.requests ++ [g] } }
      else s
  | _ => s

/-- The refusal of a group for want of a free slot (R59). -/
def refuseFull (g : Nat) (s : State) : State :=
  let e := s.repairEntry g
  reportOutcome
    { outcome := .full, group := g, newSlot := none, oldSlot := e.map (·.slot), carried := none,
      reRepairs := e.map (·.reRepairs), free := 0 }
    { s with repair := { s.repair with refused := satInc s.repair.refused } }

/-- The LINE-READ of a migration's source, which stands for its locked pair (R59). -/
def migrationAccess (g : Nat) (source : Location) : Access :=
  { requester := .repair, purpose := .migrationRead, line := true, offset := g, loc := source, words := [],
    syndrome := 0, discarded := false }

/-- A migration of a group to a chosen slot: the reservation is set and the REPAIR request placed (R59). -/
def startMigration (g slot : Nat) (s : State) : State :=
  let source := s.locate g
  let m : Migration :=
    { group := g, slot := slot, reRepair := (s.repairEntry g).isSome, source := source, carried := 0,
      copying := false }
  place (migrationAccess g source) (setReservation g { s with repair := { s.repair with migration := some m } })

/-- Migrations start while the engine is IDLE, board power is on and the list is not empty; a group for which no
slot is free is refused and the next one taken (R59). The first argument bounds the groups taken. -/
def startMigrations : Nat → State → State
  | 0, s => s
  | fuel + 1, s =>
    if s.repair.migration.isSome || !s.ctl.power then s
    else
      match s.repair.requests with
      | [] => s
      | g :: rest =>
        let s := { s with repair := { s.repair with requests := rest } }
        match s.repair.free with
        | [] => startMigrations fuel (reoffer (refuseFull g s))
        | n :: _ => reoffer (startMigration g n s)

/-- The next migration, if one can start: at most the listed groups and one offered again are taken (R59). -/
def nextMigration (s : State) : State := startMigrations (s.repair.requests.length + 2) s

/-- A repair request from the error log, or one that REPAIR-GROUP has room for (R58). -/
def offerRepair (g : Nat) (s : State) : State :=
  if !s.ctl.power then { s with repair := { s.repair with dropped := satInc s.repair.dropped } }
  else if s.repair.isPending g then s
  else if 4 ≤ s.repair.requests.length then
    { s with repair := { s.repair with dropped := satInc s.repair.dropped } }
  else nextMigration { s with repair := { s.repair with requests := s.repair.requests ++ [g] } }

/-- A DIAG command waiting on a released group returns to EXECUTING (R39, R181). -/
def diagRelease (g : Nat) (s : State) : State :=
  if s.engine.state = .waiting ∧ s.engine.work.diagGroup = some g then resumeExecuting s else s

/-- The release of the reservation: every block waiting on the group proceeds (R57). The mailbox unit's own accesses
proceed when it next places its request. -/
def releaseReservation (g : Nat) (s : State) : State :=
  scrubRelease g (prepRelease g (diagRelease g (frontRelease g
    { s with repair := { s.repair with reservation := none } })))

/-- The end of a migration: the reservation released, the outcome reported, the next migration started (R61, R62). -/
def endMigration (n : RepairNotice) (s : State) : State :=
  nextMigration (reportOutcome n (releaseReservation n.group
    { s with repair := { s.repair with migration := none } }))

/-- Board power goes off, at the repair unit (R64). -/
def repairPowerOff (s : State) : State :=
  withdraw .repair
    { s with repair := { s.repair with
        migration := none, reservation := none, requests := [],
        abandoned := if s.repair.migration.isSome then satInc s.repair.abandoned else s.repair.abandoned } }

end Sys2Proof.Machine
end

