-- ==== Sys2Proof/Machine/ErrorLog.lean ====
section
/-! DEFINITION. The error log's shared operations: a detection and all that follows from it (R28 to R35), and the
rewrite report (R34). -/

namespace Sys2Proof.Machine

/-- Whether channel `k` has a role and is VALID. -/
def State.validInRole (s : State) (role : ChannelRole) (k : Nat) : Bool :=
  match s.settings.channels[k]?, s.thermal.channels[k]? with
  | some cfg, some ch => decide (cfg.role = role) && decide (ch.state = .valid)
  | _, _ => false

/-- "The channel" of a role: the lowest-numbered VALID one (R89). -/
def State.roleChannel (s : State) (role : ChannelRole) : Option Nat := (List.range 4).find? (s.validInRole role)

/-- The reading of channel `k`. -/
def State.reading (s : State) (k : Nat) : Option Int := (s.thermal.channels[k]?).bind (·.reading)

/-- The reading of "the channel" of a role (R89). -/
def State.roleReading (s : State) (role : ChannelRole) : Option Int := (s.roleChannel role).bind s.reading

/-- Whether an entry is one that a detection coalesces into (R28). -/
def LogEntry.sameError (e : LogEntry) (d : Detection) : Bool :=
  decide (e.offset = d.offset) && decide (e.loc = d.loc) && decide (e.syndrome = d.syndrome)

/-- Replace the first entry that matches. -/
def replaceFirst (p : LogEntry → Bool) (f : LogEntry → LogEntry) : List LogEntry → List LogEntry
  | [] => []
  | e :: es => if p e then f e :: es else e :: replaceFirst p f es

/-- The totals, the session count and the lamp's error state after a detection, whatever becomes of it (R31, R35). -/
def countDetection (d : Detection) (s : State) : State :=
  match d.severity with
  | .corrected => { s with log := { s.log with corrected := satInc s.log.corrected } }
  | .reported => { s with log := { s.log with reported := satInc s.log.reported } }
  | .uncorrectable =>
    let s := { s with log := { s.log with uncorrectable := satInc s.log.uncorrectable } }
    if s.ctl.regime = .running then
      lampUpdate { s with log := { s.log with session := satInc s.log.session }, lamp := { s.lamp with error := true } }
    else s

/-- A detection is coalesced into an entry; a count that reaches REPAIR_THRESHOLD sends a repair request (R28,
R32). -/
def coalesce (d : Detection) (e : LogEntry) (s : State) : State :=
  if !e.rewritten then s
  else
    let n := satInc e.repeats
    let sends := decide (n ≠ e.repeats) && decide (n.toNat = s.settings.repairThreshold) && !e.repairRequested
    let e' := { e with repeats := n, rewritten := false, repairRequested := e.repairRequested || sends }
    let s := { s with log := { s.log with entries := replaceFirst (·.sameError d) (fun _ => e') s.log.entries } }
    if sends then offerRepair (groupOf d.offset) s else s

/-- A detection is entered as the newest entry; an UNCORRECTABLE one sends a repair request, and that or a REPORTED
one then queues an ERROR notice (R29, R32, R33). -/
def enterDetection (d : Detection) (s : State) : State :=
  let uncorrectable := decide (d.severity = .uncorrectable)
  let e : LogEntry :=
    { offset := d.offset, loc := d.loc, syndrome := d.syndrome, severity := d.severity, source := d.source,
      repeats := 1, rewritten := false, repairRequested := uncorrectable, uptime := s.clock.uptime,
      temperature := s.roleReading .memory, regime := s.ctl.regime }
  let s := { s with log := { s.log with entries := s.log.entries ++ [e] } }
  let s := if uncorrectable then offerRepair (groupOf d.offset) s else s
  if d.severity = .corrected then s
  else queueNotice (.error d.offset d.loc d.syndrome d.severity d.source uncorrectable) s

/-- The entries without the oldest CORRECTED one, if the log holds one (R30). -/
def displaceCorrected : List LogEntry → Option (List LogEntry)
  | [] => none
  | e :: es =>
    if e.severity = .corrected then some es else (displaceCorrected es).map fun es' => e :: es'

/-- A detection reaches the error log (R28 to R33, R35). -/
def detect (d : Detection) (s : State) : State :=
  let s := countDetection d s
  match s.log.entries.find? (·.sameError d) with
  | some e => coalesce d e s
  | none =>
    if s.log.entries.length < 8 then enterDetection d s
    else
      let refused := { s with log := { s.log with overflow := satInc s.log.overflow } }
      if d.severity = .corrected then refused
      else
        match displaceCorrected s.log.entries with
        | some es => enterDetection d { s with log := { s.log with entries := es } }
        | none => refused

/-- The detections of one access, in ascending order of offset (R27). -/
def detectAll (ds : List Detection) (s : State) : State := ds.foldl (fun s d => detect d s) s

/-- The rewrite report (R34). -/
def rewriteReport (offset : Nat) (loc : Location) (syn : Byte) (s : State) : State :=
  { s with log := { s.log with entries := s.log.entries.map fun e =>
      if e.offset = offset ∧ e.loc = loc ∧ e.syndrome = syn then { e with rewritten := true } else e } }

/-- The words of an access with their front offsets (R27). -/
def offsetWords (o : Nat) : List MemWord → List (Nat × MemWord)
  | [] => []
  | w :: ws => (o, w) :: offsetWords (o + 8) ws

/-- The detections the words of an access make, given the check policy of each offset (R27). -/
def detectionsOf (source : Source) (policy : Nat → CheckPolicy) (a : Access) (ws : List MemWord) : List Detection :=
  (offsetWords a.offset ws).filterMap fun x =>
    match decode x.2 with
    | .clean => none
    | o => some { offset := x.1, loc := a.loc, syndrome := syndrome x.2, source := source,
                  severity := severityOf (policy x.1) o }

/-- The fix requests the words of an access make: single errors under CORRECT (R10, R52, R114). -/
def fixesOf (policy : Nat → CheckPolicy) (a : Access) (ws : List MemWord) : List FixEntry :=
  (offsetWords a.offset ws).filterMap fun x =>
    if (decode x.2).single && decide (policy x.1 = .correct) then some { offset := x.1, loc := a.loc } else none

end Sys2Proof.Machine
end

