-- ==== Sys2Proof/Machine/Heaters.lean ====
section
/-! DEFINITION. The heaters: their demands (R97, R98) and their admission within the power budget (R99). -/

namespace Sys2Proof.Machine

/-- A demand follows a reading with 1.0 °C of hysteresis (R97). -/
def followDemand (target reading : Int) (was : Bool) : Bool :=
  if target ≤ reading then false else if reading ≤ target - 2 then true else was

/-- The heater target of channel `k` (R89). -/
def State.heaterTarget (s : State) (k : Nat) : Int := ((s.settings.channels[k]?).map (·.target)).getD 0

/-- The channel the BOARD heater follows: the BOARD channel, failing that the MEMORY channel (R97). -/
def State.boardChannel (s : State) : Option Nat :=
  match s.roleChannel .board with
  | some k => some k
  | none => s.roleChannel .memory

/-- The regimes of a cold start in which the BOARD heater warms the board (R97) and ranks first (R99). -/
def Regime.coldStart : Regime → Bool
  | .heating => true
  | .soaking => true
  | .preparing => true
  | .releasing => true
  | _ => false

/-- The BOARD heater's demand (R97). -/
def State.boardDemandNow (s : State) : Bool :=
  let follow (target : Nat → Int) (without : Bool) : Bool :=
    match s.boardChannel with
    | some k =>
      match s.reading k with
      | some t => followDemand (target k) t s.thermal.boardDemand
      | none => without
    | none => without
  if s.ctl.regime.coldStart then follow s.heaterTarget true
  else if s.ctl.regime = .running ∨ s.ctl.regime = .restarting then follow (fun _ => s.settings.maintainTemp) false
  else false

/-- The PANEL heater's demand (R98). -/
def State.panelDemandNow (s : State) : Bool :=
  if s.ctl.regime = .loading ∨ s.ctl.regime = .overheat then false
  else
    match s.roleChannel .panel with
    | some k =>
      match s.reading k with
      | some t => followDemand (s.heaterTarget k) t s.thermal.panelDemand
      | none => false
    | none => false

/-- The outputs of two heaters taken in rank order within a room (R99). -/
def admitTwo (room : Nat) (demand1 : Bool) (draw1 : Nat) (demand2 : Bool) (draw2 : Nat) : Bool × Bool :=
  let on1 := demand1 && decide (draw1 ≤ room)
  let left := if on1 then room - draw1 else room
  (on1, demand2 && decide (draw2 ≤ left))

/-- The outputs (board, panel) decided afresh; `counted` says that BOARD_DRAW is counted as drawn (R79, R99). -/
def State.admission (s : State) (counted : Bool) : Bool × Bool :=
  let set := s.settings
  let room := if counted then set.powerBudget - set.boardDraw else set.powerBudget
  if s.ctl.regime.coldStart then
    admitTwo room s.thermal.boardDemand set.boardHeaterDraw s.thermal.panelDemand set.panelHeaterDraw
  else
    (admitTwo room s.thermal.panelDemand set.panelHeaterDraw s.thermal.boardDemand set.boardHeaterDraw).swap

/-- The admission makes the outputs (R99). -/
def admitHeaters (counted : Bool) (s : State) : State :=
  { s with thermal := { s.thermal with
      boardOutput := (s.admission counted).1, panelOutput := (s.admission counted).2 } }

/-- The demands evaluated (R97, R98). -/
def evalDemands (s : State) : State :=
  { s with thermal := { s.thermal with boardDemand := s.boardDemandNow, panelDemand := s.panelDemandNow } }

/-- The demands evaluated and the outputs decided afresh (R97 to R99). -/
def evalHeaters (s : State) : State := admitHeaters s.ctl.power (evalDemands s)

end Sys2Proof.Machine
end

