-- ==== Sys2Proof/Machine/BoardControl.lean ====
section
/-! DEFINITION. The board control unit's shared operations: a change of regime with what every block does at it, cold
start and release, the taking of a restart, the THERMAL record, and the hold release (chapters 5 and 8). -/

namespace Sys2Proof.Machine

/-! ## Leaving RUNNING -/

/-- The front port when the regime leaves RUNNING: a transaction not yet granted is discarded, one in progress keeps
the port's access until it completes (R14; assumption log 14). -/
def frontLeave (s : State) : State :=
  match s.front with
  | some t => if t.phase = .access then s else withdraw .front { s with front := none }
  | none => s

/-- An access whose result nobody takes once the regime has left RUNNING (R14, R42, R116, R184). -/
def Access.abandoned (a : Access) : Bool :=
  decide (a.requester = .front) || decide (a.requester = .mailbox) || decide (a.purpose = .checkRead)

/-- The access at the port is marked where nobody takes its result any more (R14, R42, R116, R184). -/
def portLeave (s : State) : State :=
  { s with port := s.port.map fun a => if a.abandoned then { a with discarded := true } else a }

/-- Bit `k` of a byte cleared. -/
def clearBit (b : Byte) (k : Nat) : Byte := b &&& ~~~(1#8 <<< k)

/-- The hit flags of the entries that a predicate keeps, the entries counted from `k`. -/
def keepHits (keep : Option WatchEntry → Bool) : List (Option WatchEntry) → Nat → Byte → Byte
  | [], _, h => h
  | e :: es, k, h => keepHits keep es (k + 1) (if keep e then h else clearBit h k)

/-- Whether an entry is a SESSION entry. -/
def isSession (e : Option WatchEntry) : Bool :=
  match e with
  | some e => decide (e.persistence = .session)
  | none => false

/-- The watch table when the regime leaves RUNNING (R126). -/
def watchLeave (s : State) : State :=
  { s with watch := { s.watch with
      entries := s.watch.entries.map fun e => if isSession e then none else e
      hits := keepHits (fun e => !isSession e) s.watch.entries 0 s.watch.hits
      lock := false
      senders := [] } }

/-- The watchdog when the regime leaves RUNNING (R135). -/
def dogLeave (s : State) : State :=
  { s with dog := { s.dog with state := .suspended, timer := .stopped, requestOut := false } }

/-- The mailbox unit when the regime leaves RUNNING: its work is abandoned (R184) and the KEY notices removed and
counted as missed (R191). -/
def mailboxLeave (s : State) : State :=
  withdraw .mailbox
    { s with
      engine := { s.engine with
        state := if s.engine.state = .faulted then .faulted else .idle
        faultPending := false, work := .none, waitTimer := .stopped }
      posting := none
      queue := s.queue.filter fun n => !n.body.isKey
      missed := satAdd s.missed (s.queue.filter fun n => n.body.isKey).length }

/-- The keypad scanner when the regime leaves RUNNING (R168). -/
def keypadLeave (s : State) : State :=
  { s with keypad := { s.keypad with positions := s.keypad.positions.map fun p => { p with announced := false } } }

/-- A CHECK-RANGE when the regime leaves RUNNING (R116). -/
def checkLeave (s : State) : State := if s.prep.activity = .checking then prepAbandon s else s

/-- The reports not yet taken are discarded (R14, R119, R178). -/
def reportsLeave (s : State) : State := { s with watchReports := [], snoopReports := [] }

/-- What every block does when the regime leaves RUNNING. -/
def leaveRunning (s : State) : State :=
  keypadLeave (mailboxLeave (dogLeave (watchLeave (checkLeave (portLeave (reportsLeave (frontLeave s)))))))

/-! ## The regime, its outputs and its timers -/

/-- The timers of a regime being entered (R74, R76). -/
def regimeTimers (new : Regime) (s : State) : Control :=
  let heat : Timer :=
    match new with
    | .heating =>
      match s.ctl.regime, s.ctl.heatLimit with
      | .soaking, .held n => .running n
      | .soaking, t => t
      | _, _ => .running s.settings.heatLimit
    | .soaking =>
      match s.ctl.heatLimit with
      | .running n => .held n
      | t => t
    | _ => .stopped
  { s.ctl with
    heatLimit := heat
    soak := if new = .soaking then .running s.settings.soakTime else .stopped
    off := if new = .offCycle then .running s.settings.offTime else .stopped
    pulse := if new = .restarting then .running s.settings.restartPulse else .stopped }

/-- The regime with its two outputs and its timers (R71, R74). -/
def setRegime (new : Regime) (s : State) : State :=
  { s with ctl := { regimeTimers new s with
      regime := new, power := new.powered, processorReset := new.resetAsserted } }

/-- Board power goes off: the memory-valid flag clears, an access in progress ends, the contents are lost, and every
block discards its work on them (R73, R14, R23, R45, R64, R112, R177, R184; assumption log 5). -/
def losePower (s : State) : State :=
  let s := scrubPowerOff (repairPowerOff (withdraw .mailbox (withdraw .front s)))
  { s with
    ctl := { s.ctl with memValid := false }
    port := none
    mem := []
    memEpoch := s.memEpoch + 1
    front := none
    headers := [] }

/-- Entry into RUNNING (R81, R35, R123, R135, R151). -/
def enterRunning (s : State) : State :=
  { s with
    ctl := { s.ctl with sessionForced := s.ctl.pendingForced, sessionDoubtful := s.ctl.pendingDoubtful }
    clock := { s.clock with session := 0, begun := true }
    log := { s.log with session := 0 }
    watch := { s.watch with lastStage := none }
    trace := []
    dog :=
      { state := if s.settings.autoArm then .booting else .disarmed
        timer := if s.settings.autoArm then .bootLimit (1000 * s.settings.bootLimit) else .stopped
        reference := 0
        period := BitVec.ofNat 16 s.settings.period
        warnWindow := BitVec.ofNat 16 s.settings.warnWindow
        minInterval := BitVec.ofNat 16 s.settings.minInterval
        warnings := 0
        requestOut := false } }

/-- The preparation engine at a change of regime: a pass begins at entry into PREPARING (R105), and is abandoned when
the regime leaves it (R112). -/
def prepNews (old new : Regime) (s : State) : State :=
  if new = .preparing then beginPass 1 s
  else if old = .preparing then prepAbandon s
  else s

/-- A change of regime, and what every block does at it (R71, R73). -/
def changeRegime (new : Regime) (s : State) : State :=
  let old := s.ctl.regime
  let s := if old = .running ∧ new ≠ .running then leaveRunning s else s
  let s := setRegime new s
  let s := if old.powered && !new.powered then losePower s else s
  let s := if new = .running then enterRunning s else s
  lampUpdate (evalHeaters (scrubNews (prepNews old new s)))

/-! ## Cold start and release -/

/-- An entry into HEATING: a cold start clears the pending flags unless the soak was broken, and readiness that holds
passes on to SOAKING at once (R76). -/
def enterHeating (s : State) : State :=
  let broken := decide (s.ctl.regime = .soaking)
  let s := changeRegime .heating s
  let s := if broken then s else { s with ctl := { s.ctl with pendingForced := false, pendingDoubtful := false } }
  if s.thermal.readiness then changeRegime .soaking s else s

/-- The mailbox unit at a release: delivered but unconsumed entries are counted as missed, the index copies become 0,
the engine IDLE and the ring UNARMED, and the header writes of the rings that exist are to be made (R177). -/
def headerStart (s : State) : State :=
  { s with
    missed := satAdd s.missed
      (indexDistance s.settings.eventRingEntries s.events.consume s.events.produce)
    engine := { s.engine with
      state := .idle, faultPending := false, submit := 0, done := 0, work := .none, waitTimer := .stopped }
    events := { state := .unarmed, produce := 0, consume := 0 }
    posting := none
    headers := [Ring.command, Ring.event].filter fun r => (s.ring r.role).isSome }

/-- The mailbox unit reports that the header writes have completed: the regime becomes RUNNING (R81). -/
def releaseBoard (s : State) : State := changeRegime .running s

/-- An entry into RELEASING; with no ring to write, the release follows at once (R81, R177). -/
def enterReleasing (s : State) : State :=
  let s := headerStart (changeRegime .releasing { s with lamp := { s.lamp with error := false } })
  if s.headers = [] then releaseBoard s else s

/-! ## Restarts -/

/-- A record without its frozen trace (R151). -/
def RestartRecord.dropTrace (r : RestartRecord) : RestartRecord := { r with trace := none }

/-- A restart record is appended; the trace is frozen into it and emptied (R146, R150, R151). -/
def appendRecord (cause : RestartCause) (requested : Option RestartKind) (kind : RestartKind) (s : State) : State :=
  let n := satInc s.restarts.total
  let r : RestartRecord :=
    { number := n, cause := cause, requested := requested, kind := kind, uptime := s.clock.uptime,
      session := s.clock.session, lastStage := s.watch.lastStage, warnings := s.dog.warnings,
      uncorrectable := s.log.session, hits := s.watch.hits, trace := some s.trace }
  let older := s.restarts.history.map RestartRecord.dropTrace
  let older := older.drop (older.length - 7)
  { s with restarts := { s.restarts with history := older ++ [r], total := n }, trace := [] }

/-- The times of the escalation record that lie within ESCALATE_SPAN of the uptime now (R145, step 1). -/
def State.recentRestarts (s : State) : List (BitVec 32) :=
  s.restarts.escalation.filter fun t =>
    decide (s.clock.uptime.toNat - t.toNat < s.settings.escalateSpan * 60)

/-- The kind a request becomes (R145, steps 2 to 5). -/
def State.restartKind (s : State) (cold : Bool) : RestartKind :=
  if cold || decide (s.recentRestarts.length = s.settings.escalateCount - 1) then
    if s.restarts.coldCount = s.settings.coldLimit then .halt else .cold
  else .warm

/-- The escalation state after a kind has been decided (R145 step 1, R147). -/
def escalate (kind : RestartKind) (s : State) : State :=
  let recent := s.recentRestarts
  match kind with
  | .warm => { s with restarts := { s.restarts with escalation := recent ++ [s.clock.uptime] } }
  | .cold => { s with restarts := { s.restarts with escalation := [], coldCount := s.restarts.coldCount + 1 } }
  | _ => { s with restarts := { s.restarts with escalation := recent } }

/-- A TRIP entry's suppressed flag set to a value; any other entry as it was (R125). -/
def WatchEntry.suppress (e : WatchEntry) (b : Bool) : WatchEntry :=
  if e.role = .trip then { e with suppressed := b } else e

/-- The trip senders that still hold a TRIP role, among the entries counted from `k`, are suppressed (R125). -/
def suppressSenders (senders : List Nat) : List (Option WatchEntry) → Nat → List (Option WatchEntry)
  | [], _ => []
  | e :: es, k => (if senders.contains k then e.map (·.suppress true) else e) :: suppressSenders senders es (k + 1)

/-- The restart supervisor is told the cause of a restart, before the regime leaves RUNNING (R125). -/
def tellCause (cause : RestartCause) (s : State) : State :=
  if cause = .tripWatch then
    { s with watch := { s.watch with entries := suppressSenders s.watch.senders s.watch.entries 0 } }
  else s

/-- The window table becomes what the loaded copy gives (R22). -/
def loadWindows (s : State) : State := { s with windows := s.settings.windows }

/-- The regime a kind of restart enters (R148). -/
def RestartKind.regime : RestartKind → Regime
  | .warm => .restarting
  | .cold => .offCycle
  | .halt => .halted
  | .thermal => .overheat

/-- A restart request taken in RUNNING becomes a restart (R145 to R148). -/
def takeRestart (cause : RestartCause) (cold : Bool) (s : State) : State :=
  let kind := s.restartKind cold
  let s := appendRecord cause (some (if cold then .cold else .warm)) kind s
  let s := tellCause cause (escalate kind s)
  loadWindows (changeRegime kind.regime s)

/-- An overheat condition is taken (R83). One taken in OFF-CYCLE makes no THERMAL record, as R83, R146 and R150 have it
against one reading of R144 (assumption log 35). -/
def takeOverheat (s : State) : State :=
  match s.ctl.regime with
  | .loading | .halted | .overheat => s
  | .running | .restarting => changeRegime .overheat (appendRecord .thermal none .thermal s)
  | _ => changeRegime .overheat s

/-- A hold release taken in HALTED (R86, R149). -/
def takeHoldRelease (s : State) : State :=
  enterHeating { s with restarts := { s.restarts with escalation := [], coldCount := 0 } }

end Sys2Proof.Machine
end

