-- ==== Sys2Proof/Machine/Board.lean ====
section
/-! DEFINITION. The board control unit's commands: the regime timers, the release, the reset input, restart requests and
hold releases, the lamp's blink, and the two time bases (chapters 5 and 8). -/

namespace Sys2Proof.Machine

/-- Whether a timer runs. -/
def Timer.isRunning : Timer → Bool
  | .running _ => true
  | _ => false

/-- HEAT_LIMIT_EXPIRY (R77). -/
def execHeatLimitExpiry (s : State) : Host.Outcome State Fault Refusal :=
  if s.ctl.heatLimit.isRunning ∧ s.ctl.regime = .heating then
    .next (finish (changeRegime .soaking
      { s with ctl := { s.ctl with pendingForced := true, heatLimit := .stopped } }))
  else .next s

/-- SOAK_TIMER_EXPIRY (R78, R79): the heaters are reconsidered with BOARD_DRAW counted, then board power comes on. -/
def execSoakTimerExpiry (s : State) : Host.Outcome State Fault Refusal :=
  if s.ctl.soak.isRunning ∧ s.ctl.regime = .soaking then
    .next (finish (changeRegime .preparing (admitHeaters true s)))
  else .next s

/-- PULSE_TIMER_EXPIRY (R85, R81). -/
def execPulseTimerExpiry (s : State) : Host.Outcome State Fault Refusal :=
  if s.ctl.pulse.isRunning ∧ s.ctl.regime = .restarting then .next (finish (enterReleasing s)) else .next s

/-- OFF_TIMER_EXPIRY (R85, R76). -/
def execOffTimerExpiry (s : State) : Host.Outcome State Fault Refusal :=
  if s.ctl.off.isRunning ∧ s.ctl.regime = .offCycle then .next (finish (enterHeating s)) else .next s

/-- The completion of a ring header write: the next one is to be made, or the board is released (R177, R81). -/
def headerDone (_ : Access) (s : State) : State :=
  if s.ctl.regime = .releasing then
    let s := { s with headers := s.headers.tail }
    finish (if s.headers = [] then releaseBoard s else s)
  else finish s

/-- RING_HEADER_WRITE_COMPLETE (R177). -/
def execRingHeaderWriteComplete (s : State) : Host.Outcome State Fault Refusal := atWrite .headerWrite s headerDone

/-- RESET_INPUT_LEVEL_CHANGE (R194): a level other than the one last taken is filtered; a return to it ends the
filtering. -/
def execResetInputLevelChange (active : Bool) (s : State) : Host.Outcome State Fault Refusal :=
  .next { s with resetInput := { s.resetInput with
    raw := active, filtering := decide (active ≠ s.resetInput.filtered) } }

/-- A press of the reset input (R87). -/
def takePress (s : State) : State :=
  match s.ctl.regime with
  | .running => takeRestart .resetInput false s
  | .halted => takeHoldRelease s
  | _ => s

/-- RESET_INPUT_EVENT (R87, R194): the new level has held for 20 ms and is taken; a change to active is a press. -/
def execResetInputEvent (s : State) : Host.Outcome State Fault Refusal :=
  if s.resetInput.filtering then
    let s := { s with resetInput := { s.resetInput with filtered := s.resetInput.raw, filtering := false } }
    .next (finish (if s.resetInput.raw then takePress s else s))
  else .next s

/-- An outcome is on its way to the keypad scanner, where a chord asked (R88, R171). -/
def answerChord (tag : Option ChordTag) (result : ChordResult) (s : State) : State :=
  match tag with
  | some t => { s with outcomes := s.outcomes ++ [{ tag := t, result := result }] }
  | none => s

/-- RESTART_REQUEST (R144, R145): the request `which` of those under way is taken. -/
def execRestartRequest (which : Nat) (s : State) : Host.Outcome State Fault Refusal :=
  match s.requests[which]? with
  | some r =>
    let s := { s with requests := s.requests.eraseIdx which }
    .next (finish (if s.ctl.regime = .running then answerChord r.chord .taken (takeRestart r.cause r.cold s)
      else answerChord r.chord .discarded s))
  | none => .next s

/-- HOLD_RELEASE (R86, R149): the RELEASE-HOLD chord request `which` of those under way is taken. -/
def execHoldRelease (which : Nat) (s : State) : Host.Outcome State Fault Refusal :=
  match s.holdReleases[which]? with
  | some tag =>
    let s := { s with holdReleases := s.holdReleases.eraseIdx which }
    .next (finish (if s.ctl.regime = .halted then answerChord (some tag) .taken (takeHoldRelease s)
      else answerChord (some tag) .discarded s))
  | none => .next s

/-- Whether a pattern blinks (R101). -/
def LampPattern.blinks : LampPattern → Bool
  | .slow => true
  | .fast => true
  | _ => false

/-- LAMP_BLINK_TOGGLE (R101). -/
def execLampBlinkToggle (s : State) : Host.Outcome State Fault Refusal :=
  .next (if s.lamp.pattern.blinks then { s with lamp := { s.lamp with lit := !s.lamp.lit } } else s)

/-- UPTIME_TICK (R82). -/
def execUptimeTick (s : State) : Host.Outcome State Fault Refusal :=
  .next { s with clock := { s.clock with uptime := satInc s.clock.uptime } }

/-- SESSION_TIME_TICK (R81): session time counts on once a session has begun (assumption log 10). -/
def execSessionTimeTick (s : State) : Host.Outcome State Fault Refusal :=
  .next (if s.clock.begun then { s with clock := { s.clock with session := satInc s.clock.session } } else s)

end Sys2Proof.Machine
end

