-- ==== Sys2Proof/Machine/WatchWork.lean ====
section
/-! DEFINITION. The restart supervisor's shared operations: the match of a report against the watch table, what its
matches do, the watchdog's signals, the write trace, and the refusal under the watch lock (chapters 7 and 8). -/

namespace Sys2Proof.Machine

/-! ## Reports -/

/-- Whether a report concerns the byte at a front offset (R120). -/
def FrontReport.concerns (r : FrontReport) (b : Nat) : Bool :=
  if r.line then decide (r.offset ≤ b) && decide (b < r.offset + 64)
  else decide (r.offset ≤ b) && decide (b < r.offset + 8) && r.mask.getLsbD (b - r.offset)

/-- The byte at a front offset as the report gives it (R15). -/
def FrontReport.byteAt (r : FrontReport) (b : Nat) : Byte :=
  wordByte (r.words.getD ((b - r.offset) / 8) 0) ((b - r.offset) % 8)

/-- Whether a report is of a performed write, of a read (R119). -/
def ReportKind.isWrite : ReportKind → Bool
  | .write => true
  | _ => false

def ReportKind.isRead : ReportKind → Bool
  | .read => true
  | _ => false

/-- Whether a kind of report has the access of an entry (R120). -/
def WatchAccess.admits (a : WatchAccess) (k : ReportKind) : Bool :=
  match a with
  | .write => k.isWrite
  | .read => k.isRead
  | .either => k.isWrite || k.isRead

/-- The bytes of an entry's range. -/
def WatchEntry.range (e : WatchEntry) : List Nat := (List.range e.length).map fun k => e.base + k

/-- Whether a report matches an entry (R120, R121). -/
def WatchEntry.matched (e : WatchEntry) (r : FrontReport) : Bool :=
  e.access.admits r.kind &&
    match e.dataMatch with
    | none => e.range.any r.concerns
    | some d =>
      r.kind.isWrite && e.range.all r.concerns &&
        (List.range e.length).all fun k =>
          decide (r.byteAt (e.base + k) &&& wordByte d.mask k = wordByte d.value k &&& wordByte d.mask k)

/-- The entries a report matches, with their numbers; the list's head is entry `k`. -/
def matchesFrom (r : FrontReport) : List (Option WatchEntry) → Nat → List (Nat × WatchEntry)
  | [], _ => []
  | none :: es, k => matchesFrom r es (k + 1)
  | some e :: es, k => if e.matched r then (k, e) :: matchesFrom r es (k + 1) else matchesFrom r es (k + 1)

/-- The hit flags of entries set (R122). -/
def setHits (ks : List Nat) (h : Byte) : Byte := ks.foldl (fun h k => h ||| (1#8 <<< k)) h

/-- The stage numbers of the enabled STAGE entries among the matched (R123). -/
def stagesOf (ms : List (Nat × WatchEntry)) : List Nat :=
  ms.filterMap fun m => if m.2.enabled then m.2.role.stageNumber else none

/-- The enabled, unsuppressed TRIP entries among the matched (R124). -/
def tripsOf (ms : List (Nat × WatchEntry)) : List Nat :=
  (ms.filter fun m => m.2.enabled && decide (m.2.role = .trip) && !m.2.suppressed).map (·.1)

/-- The highest of a list of stage numbers. -/
def highest : List Nat → Option Nat
  | [] => none
  | n :: ns => some (max n ((highest ns).getD 0))

/-! ## The watchdog -/

/-- The watchdog sends a restart request: request out is set and the timer stops (R134, R136 to R138). -/
def dogRequest (cause : RestartCause) (s : State) : State :=
  sendRequest cause false none { s with dog := { s.dog with requestOut := true, timer := .stopped } }

/-- The watchdog is ARMED with a full period, the reference time being the session time now (R136 to R138, R141). -/
def dogArm (s : State) : State :=
  { s with dog := { s.dog with
      state := .armed, timer := .period s.dog.period.toNat, reference := s.clock.session } }

/-- Whether a kick now would be early (R137). -/
def State.kickEarly (s : State) : Bool :=
  decide (s.dog.minInterval ≠ 0) &&
    decide (s.clock.session.toNat - s.dog.reference.toNat < s.dog.minInterval.toNat)

/-- A watch signal at the watchdog (R136 to R139). -/
def dogSignal (kick boot : Bool) (s : State) : State :=
  if s.dog.requestOut then s
  else
    match s.dog.state with
    | .booting => if boot then dogArm s else s
    | .armed => if kick then (if s.kickEarly then dogRequest .earlyKick s else dogArm s) else s
    | .warned => if kick then dogArm s else s
    | _ => s

/-! ## What a report does -/

/-- A boot-stage hit: TRIP suppression and the consecutive cold count are cleared (R123, R125, R139). -/
def bootStageHit (s : State) : State :=
  { s with
    watch := { s.watch with entries := s.watch.entries.map fun e => e.map fun e => { e with suppressed := false } }
    restarts := { s.restarts with coldCount := 0 } }

/-- The matches of one report act as one: hit flags, last stage reached, TRIP request, boot-stage hit, and the watch
signal (R122 to R125). -/
def actOn (r : FrontReport) (s : State) : State :=
  let ms := matchesFrom r s.watch.entries 0
  let stages := stagesOf ms
  let trips := tripsOf ms
  let kick := ms.any fun m => m.2.enabled && decide (m.2.role = .kick)
  let boot := stages.contains s.settings.bootStage
  let s := { s with watch := { s.watch with
    hits := setHits (ms.map (·.1)) s.watch.hits
    lastStage := if stages = [] then s.watch.lastStage else highest stages
    senders := s.watch.senders ++ trips.filter fun k => !s.watch.senders.contains k } }
  let s := if trips = [] then s else sendRequest .tripWatch false none s
  let s := if boot then bootStageHit s else s
  dogSignal kick boot s

/-- The bytes a report's transaction concerns, as a count: 64 for a line (R16, R151). -/
def FrontReport.count (r : FrontReport) : Nat := if r.line then 64 else maskCount r.mask

/-- The outcome of a traced report (R151). -/
def ReportKind.outcome : ReportKind → TraceOutcome
  | .refused reason => .refused reason
  | _ => .done

/-- A report goes to the write trace, the oldest of 16 entries leaving it (R151). -/
def traceReport (r : FrontReport) (s : State) : State :=
  let e : TraceEntry := { offset := r.offset, count := r.count, outcome := r.kind.outcome, window := r.window }
  { s with trace := s.trace.drop (s.trace.length - 15) ++ [e] }

/-- The restart supervisor takes the oldest report, if it is of the kind the event names; outside RUNNING the report
is discarded (R119). -/
def takeReport (kind : ReportKind → Bool) (k : FrontReport → State → State) (s : State) : State :=
  match s.watchReports with
  | r :: rest =>
    if kind r.kind then
      let s := { s with watchReports := rest }
      if s.ctl.regime = .running then k r s else s
    else s
  | [] => s

/-! ## The watch lock -/

/-- A lock violation: counted, and with LOCK_TRIP a restart request is sent (R132). -/
def lockViolation (s : State) : State :=
  let s := { s with watch := { s.watch with violations := satInc s.watch.violations } }
  if s.settings.lockTrip then sendRequest .lockViolation false none s else s

/-- A command that the watch lock refuses before any other check (R132). -/
def underLock (k : State → State) (s : State) : State :=
  if s.watch.lock then completeCommand .refusedLocked [] (lockViolation s) else k s

end Sys2Proof.Machine
end

