-- ==== Sys2Proof/Machine/DogTimers.lean ====
section
/-! DEFINITION. The expiries of the watchdog's timer (R136 to R138, R140). -/

namespace Sys2Proof.Machine

/-- BOOT_LIMIT_EXPIRY (R136). -/
def execBootLimitExpiry (s : State) : Host.Outcome State Fault Refusal :=
  match s.dog.state, s.dog.timer with
  | .booting, .bootLimit _ => .next (dogRequest .bootLimit s)
  | _, _ => .next s

/-- The WARNING notice (R140). -/
def warningNotice (s : State) : State :=
  queueNotice (.warning s.dog.warnings s.dog.period s.dog.warnWindow (satSub s.clock.session s.dog.reference)) s

/-- PERIOD_EXPIRY (R137, R140). -/
def execPeriodExpiry (s : State) : Host.Outcome State Fault Refusal :=
  match s.dog.state, s.dog.timer with
  | .armed, .period _ =>
    .next (finish (warningNotice { s with dog := { s.dog with
      state := .warned, warnings := satInc s.dog.warnings, timer := .warnWindow s.dog.warnWindow.toNat } }))
  | _, _ => .next s

/-- WARN_WINDOW_EXPIRY (R138). -/
def execWarnWindowExpiry (s : State) : Host.Outcome State Fault Refusal :=
  match s.dog.state, s.dog.timer with
  | .warned, .warnWindow _ => .next (dogRequest .kickExpiry s)
  | _, _ => .next s

end Sys2Proof.Machine
end

