-- ==== Sys2Proof/Machine/FrontPort.lean ====
section
/-! DEFINITION. The front port's commands: the four transactions and the completions of their accesses (R1 to R16). -/

namespace Sys2Proof.Machine

/-- READ (R1, R3). -/
def execRead (offset : BitVec 32) (mask : Byte) (s : State) : Host.Outcome State Fault Refusal :=
  .next (frontAccept .read offset.toNat mask [] s)

/-- WRITE (R1, R3, R8). -/
def execWrite (offset : BitVec 32) (mask : Byte) (data : Word) (s : State) : Host.Outcome State Fault Refusal :=
  .next (frontAccept .write offset.toNat mask [data] s)

/-- LINE_READ (R1, R3). -/
def execLineRead (offset : BitVec 32) (s : State) : Host.Outcome State Fault Refusal :=
  .next (frontAccept .lineRead offset.toNat 0xFF [] s)

/-- LINE_WRITE (R1, R3, R8). -/
def execLineWrite (offset : BitVec 32) (data : BitVec 512) (s : State) : Host.Outcome State Fault Refusal :=
  .next (frontAccept .lineWrite offset.toNat 0xFF (lineWords data) s)

/-- The check policy of the transaction's classification (R6). -/
def State.frontPolicy (s : State) : CheckPolicy :=
  match s.front.bind (·.classification) with
  | some c => c.checkPolicy
  | none => .correct

/-- The front port discards its transaction: it is empty, and nothing is given (R14). -/
def frontDiscard (s : State) : State := { s with front := none }

/-- The DATA response with its read report and the restart request of a poisoned word (R10, R11, R15). -/
def answerRead (ws : List MemWord) (s : State) : State :=
  match s.front with
  | none => s
  | some t =>
    let words := ws.map (formed s.frontPolicy)
    let s' := reportWatch (t.report .read [] (t.classification.bind (·.window))) (respond (.data words) s)
    if (t.classification.map (·.poisonRestart)).getD false && words.any (·.2) then sendRequest .poison false none s'
    else s'

/-- The completion of a front read access: detections and fix requests (R10, R27, R46), then the response, or none
where the transaction was discarded (R14). -/
def frontReadDone (a : Access) (ws : List MemWord) (s : State) : State :=
  let policy := s.frontPolicy
  let s := detectAll (detectionsOf .frontRead (fun _ => policy) a ws) s
  let s := offerFixes (fixesOf (fun _ => policy) a ws) s
  finish (if a.discarded then frontDiscard s else answerRead ws s)

/-- FRONT_READ_ACCESS_COMPLETE (R10, R11). -/
def execFrontReadAccessComplete (flips : List MemWord) (s : State) : Host.Outcome State Fault Refusal :=
  atRead .frontRead flips s frontReadDone

/-- The refusal of a merge (R13, R16), or its discard (R14). -/
def mergeFails (a : Access) (s : State) : State :=
  match s.front with
  | none => s
  | some t =>
    if a.discarded then frontDiscard s else refuseTxn t .mergeFailed (t.classification.bind (·.window)) s

/-- The merge write follows under the same grant (R13, R23). -/
def mergeWrites (a : Access) (w : MemWord) (s : State) : State :=
  match s.front with
  | none => s
  | some t =>
    { s with port := some { a with purpose := .frontWrite, words := [made (merge t.mask (t.words.headD 0) (offered w))] } }

/-- The completion of the read half of a partial write (R13). -/
def frontMergeDone (a : Access) (ws : List MemWord) (s : State) : State :=
  let policy := s.frontPolicy
  let w := ws.headD (made 0)
  let s := detectAll (detectionsOf .frontMerge (fun _ => policy) a ws) s
  finish (if decode w = .uncorrectable then mergeFails a s else mergeWrites a w s)

/-- FRONT_MERGE_READ_COMPLETE (R13). -/
def execFrontMergeReadComplete (flips : List MemWord) (s : State) : Host.Outcome State Fault Refusal :=
  atRead .frontMergeRead flips s frontMergeDone

/-- The completion of a front write: DONE, and the report of the words as they now stand in memory (R12, R15), or
neither where the transaction was discarded (R14). -/
def frontWriteDone (a : Access) (s : State) : State :=
  match s.front with
  | none => finish s
  | some t =>
    finish (if a.discarded then frontDiscard s
      else reportWrite (t.report .write (a.words.map (·.data)) (t.classification.bind (·.window))) (respond .done s))

/-- FRONT_WRITE_ACCESS_COMPLETE (R12, R13). -/
def execFrontWriteAccessComplete (s : State) : Host.Outcome State Fault Refusal :=
  atWrite .frontWrite s frontWriteDone

end Sys2Proof.Machine
end

