-- ==== Sys2Proof/Machine/KeyWork.lean ====
section
/-! DEFINITION. The keypad scanner's shared operations: the matrix, debounce, ghosts, stuck keys, auto-repeat, key
events and chords, as the steps of one sample (chapter 9). -/

namespace Sys2Proof.Machine

/-! ## Positions -/

/-- Whether a position lies within the matrix (R155). -/
def State.inMatrix (s : State) (p : Nat) : Bool :=
  decide (p / 8 < s.settings.rows) && decide (p % 8 < s.settings.cols)

/-- The positions within the matrix, in ascending order (R155, R173). -/
def State.matrix (s : State) : List Nat := (List.range 64).filter s.inMatrix

/-- The record of a position (R157). -/
def State.key (s : State) (p : Nat) : KeyPosition := s.keypad.positions.getD p KeyPosition.initial

/-- The record of a position replaced. -/
def setKeyPos (p : Nat) (k : KeyPosition) (s : State) : State :=
  { s with keypad := { s.keypad with positions := s.keypad.positions.set p k } }

/-- The key map's entry of a position (R164). -/
def State.keyMap (s : State) (p : Nat) : KeyEntry :=
  s.keypad.map.getD p { code := 255, repeats := false, chordOnly := false }

/-- Whether a state is in the held set (R157). -/
def KeyState.held : KeyState → Bool
  | .down => true
  | .blocked => true
  | .releasing .down => true
  | .releasing .blocked => true
  | _ => false

/-- Whether a state is down for chords (R157). -/
def KeyState.downForChords : KeyState → Bool
  | .down => true
  | .releasing .down => true
  | _ => false

/-- Whether a state is in the stuck mask (R163). -/
def KeyState.masked : KeyState → Bool
  | .stuck => true
  | .releasing .stuck => true
  | _ => false

/-- The state a RELEASING position returns to (R158). -/
def Leaving.state : Leaving → KeyState
  | .down => .down
  | .blocked => .blocked
  | .stuck => .stuck

/-- Whether a position is reportable (R164). -/
def State.reportable (s : State) (p : Nat) : Bool :=
  s.inMatrix p && decide ((s.keyMap p).code ≠ 255) && !(s.keyMap p).chordOnly

/-- The debounce length (R159). -/
def State.debounceLength (s : State) : Nat :=
  if s.keypad.coldDebounce then s.settings.debounceCold else s.settings.debounce

/-! ## Events -/

/-- A KEY notice (R167). -/
def keyNotice (event : KeyEvent) (p : Nat) (repeats stuckCount : Option Byte) (s : State) : State :=
  queueNotice (.key event p (s.keyMap p).code repeats stuckCount) s

/-- Whether PRESS, STUCK and UNSTUCK events of a position are produced (R165). -/
def State.produces (s : State) (p : Nat) : Bool := s.reportable p && decide (s.ctl.regime = .running)

/-- A position becomes DOWN, with a PRESS event where R165 produces one (R160, R161). -/
def becomeDown (p : Nat) (s : State) : State :=
  let k : KeyPosition :=
    { s.key p with state := .down, countdown := 0, held := 0, repeatTime := 0, repeats := 0,
                   announced := s.produces p }
  let s' := setKeyPos p k s
  if s.produces p then keyNotice .press p none none s' else s'

/-- The ghost test: whether three other held positions close a rectangle with a position (R160). -/
def State.isGhost (s : State) (p : Nat) : Bool :=
  (List.range s.settings.rows).any fun r => decide (r ≠ p / 8) &&
    (List.range s.settings.cols).any fun c => decide (c ≠ p % 8) &&
      (s.key (p / 8 * 8 + c)).state.held && (s.key (r * 8 + p % 8)).state.held && (s.key (r * 8 + c)).state.held

/-- A press completes (R160). -/
def pressCompletes (p : Nat) (s : State) : State :=
  if s.isGhost p then
    setKeyPos p { s.key p with state := .blocked, countdown := 0, held := 0, repeatTime := 0, repeats := 0,
                               announced := false } s
  else becomeDown p s

/-- A release completes (R158, R163). -/
def releaseCompletes (p : Nat) (leaving : Leaving) (s : State) : State :=
  let k := s.key p
  let s' := setKeyPos p { k with state := .up, countdown := 0, held := 0, repeatTime := 0, repeats := 0,
                                 announced := false } s
  match leaving with
  | .down => if k.announced then keyNotice .release p none none s' else s'
  | .blocked => s'
  | .stuck => if s.produces p then keyNotice .unstuck p none none s' else s'

/-! ## The steps of a sample -/

/-- Step 2 of a sample for one position: debounce (R158). -/
def debounceKey (contacts : BitVec 64) (s : State) (p : Nat) : State :=
  let k := s.key p
  let load (l : Leaving) : State := setKeyPos p { k with state := .releasing l, countdown := s.debounceLength } s
  if contacts.getLsbD p then
    match k.state with
    | .up => setKeyPos p { k with state := .pressing, countdown := s.debounceLength } s
    | .pressing =>
      if k.countdown ≤ 1 then pressCompletes p s else setKeyPos p { k with countdown := k.countdown - 1 } s
    | .releasing l => setKeyPos p { k with state := l.state, countdown := 0 } s
    | _ => s
  else
    match k.state with
    | .up => s
    | .pressing => setKeyPos p { k with state := .up, countdown := 0 } s
    | .down => load .down
    | .blocked => load .blocked
    | .stuck => load .stuck
    | .releasing l =>
      if k.countdown ≤ 1 then releaseCompletes p l s else setKeyPos p { k with countdown := k.countdown - 1 } s

/-- The number of REPEAT due points that a repeat time has reached. -/
def duePoints (delay interval t : Nat) : Nat := if t < delay then 0 else (t - delay) / interval + 1

/-- Whether a REPEAT falls due as the repeat time goes from `t0` to `t1` (R166). Beyond 255 repeats made, which the
count cannot tell apart, one falls due at each due point reached (assumption log 20). -/
def repeatDue (delay interval : Nat) (repeats : Byte) (t0 t1 : Nat) : Bool :=
  if repeats = 255 then decide (duePoints delay interval t0 < duePoints delay interval t1)
  else decide (delay + repeats.toNat * interval ≤ t1)

/-- Auto-repeat of an announced position in DOWN (R166). -/
def autoRepeat (p : Nat) (s : State) : State :=
  let k := s.key p
  if k.announced then
    let t := k.repeatTime + s.settings.scanPeriod
    if repeatDue s.settings.repeatDelay s.settings.repeatInterval k.repeats k.repeatTime t then
      let n := satInc k.repeats
      let s' := setKeyPos p { k with repeatTime := t, repeats := n } s
      if (s.keyMap p).repeats then keyNotice .repeats p (some n) none s' else s'
    else setKeyPos p { k with repeatTime := t } s
  else s

/-- Step 3 of a sample for one position that has stayed in DOWN: its time advances (R162). -/
def advanceKey (s : State) (p : Nat) : State :=
  let k := s.key p
  let held := k.held + s.settings.scanPeriod
  if s.settings.stuckTime * 1000 ≤ held then
    let n := satInc k.stuckCount
    let s' := setKeyPos p { k with state := .stuck, held := held, announced := false, stuckCount := n,
                                   repeatTime := 0, repeats := 0 } s
    if s.produces p then keyNotice .stuck p none (some n) s' else s'
  else autoRepeat p (setKeyPos p { k with held := held } s)

/-- Step 4 of a sample for one position: a BLOCKED position that is a ghost no longer becomes DOWN (R161). -/
def retestKey (s : State) (p : Nat) : State :=
  if (s.key p).state = .blocked ∧ s.isGhost p = false then becomeDown p s else s

/-! ## Chords -/

/-- Chord `i` with its working state. -/
def State.chord (s : State) (i : Nat) : ChordRecord := s.keypad.chords.getD i ChordRecord.initial

/-- Chord `i` replaced. -/
def setChord (i : Nat) (c : ChordRecord) (s : State) : State :=
  { s with keypad := { s.keypad with chords := s.keypad.chords.set i c } }

/-- A chord's condition (R170). -/
def State.chordHolds (s : State) (c : ChordRecord) : Bool :=
  c.chord.enabled && !c.spent && (c.chord.members.all fun p => (s.key p).state.downForChords) &&
    (List.range 64).all fun p =>
      c.chord.members.contains p || decide ((s.keyMap p).code = 255) || !(s.key p).state.downForChords

/-- A CHORD notice (R171). -/
def chordNotice (i : Nat) (result : ChordResult) (regime : Regime) (s : State) : State :=
  let c := (s.chord i).chord
  queueNotice (.chord i c.action c.members result regime) s

/-- The announced flags of positions cleared (R171). -/
def clearAnnounced (ps : List Nat) (s : State) : State :=
  ps.foldl (fun s p => setKeyPos p { s.key p with announced := false } s) s

/-- A chord is recognised (R171). -/
def recognise (i : Nat) (s : State) : State :=
  let c := s.chord i
  let tag : ChordTag := { chord := i, regime := s.ctl.regime }
  let spent : ChordRecord := { c with spent := true, counting := false, counter := 0 }
  let sent := clearAnnounced c.chord.members (setChord i { spent with awaited := true } s)
  match c.chord.action with
  | .warmRestart => sendRequest .chord false (some tag) sent
  | .coldRestart => sendRequest .chord true (some tag) sent
  | .releaseHold => { sent with holdReleases := sent.holdReleases ++ [tag] }
  | .serviceNote => chordNotice i .noted s.ctl.regime (clearAnnounced c.chord.members (setChord i spent s))

/-- Step 5 of a sample for one chord (R170, R172). -/
def judgeChord (s : State) (i : Nat) : State :=
  let c := s.chord i
  let c := if c.chord.members.any fun p => (s.key p).state.held then c else { c with spent := false }
  if s.chordHolds c then
    if c.counting then
      let n := c.counter + s.settings.scanPeriod
      if c.chord.hold ≤ n then recognise i (setChord i { c with counter := n } s)
      else setChord i { c with counter := n } s
    else setChord i { c with counting := true, counter := 0 } s
  else setChord i { c with counting := false, counter := 0 } s

/-- One sample, whole (R173). -/
def takeSample (contacts : BitVec 64) (s : State) : State :=
  let before := s.matrix.filter fun p => decide ((s.key p).state = .down)
  let s := s.matrix.foldl (debounceKey contacts) s
  let s := (before.filter fun p => decide ((s.key p).state = .down)).foldl advanceKey s
  let s := s.matrix.foldl retestKey s
  (List.range 4).foldl judgeChord s

end Sys2Proof.Machine
end

