-- ==== Sys2Proof/Machine/Keypad.lean ====
section
/-! DEFINITION. The keypad scanner's commands: one sample (R173), and the outcome of a chord request (R171). -/

namespace Sys2Proof.Machine

/-- SCAN_SAMPLE (R156, R173): the scan timer restarts, and the sample is processed whole. -/
def execScanSample (contacts : BitVec 64) (s : State) : Host.Outcome State Fault Refusal :=
  match s.keypad.scanTimer with
  | .running _ =>
    .next (finish (takeSample contacts
      { s with keypad := { s.keypad with scanTimer := .running s.settings.scanPeriod } }))
  | _ => .next s

/-- CHORD_OUTCOME (R171): the outcome `which` of those under way arrives; its CHORD notice is queued. -/
def execChordOutcome (which : Nat) (s : State) : Host.Outcome State Fault Refusal :=
  match s.outcomes[which]? with
  | some o =>
    let s := { s with outcomes := s.outcomes.eraseIdx which }
    let s := setChord o.tag.chord { s.chord o.tag.chord with awaited := false } s
    .next (finish (chordNotice o.tag.chord o.result o.tag.regime s))
  | none => .next s

end Sys2Proof.Machine
end

