-- ==== Sys2Proof/Machine/Prepare.lean ====
section
/-! DEFINITION. The preparation engine's commands: the three steps of a pass, the retry, and the reads of a CHECK-RANGE
(R106 to R110, R114, R115). -/

namespace Sys2Proof.Machine

/-- The next step of the group in hand (R106). -/
def nextStep (step : PrepStep) (s : State) : State := prepHandle { s with prep := { s.prep with step := step } }

/-- PATTERN_WRITE_COMPLETE (R106). -/
def execPatternWriteComplete (s : State) : Host.Outcome State Fault Refusal :=
  atWrite .patternWrite s fun _ s => finish (nextStep .readBack s)

/-- What a READ-BACK finds of one word (R108): nothing, a single error whose corrected data equals the pattern, or an
uncorrectable or mismatched word. -/
inductive Finding where
  | good | single | bad
deriving DecidableEq, Repr

/-- The comparison of a word read back with the pattern word written (R108). -/
def compareWord (pattern : Word) (w : MemWord) : Finding :=
  match decode w with
  | .uncorrectable => .bad
  | .clean => if w.data = pattern then .good else .bad
  | _ => if offered w = pattern then .single else .bad

/-- The findings of a group read back in a pass. -/
def findings (pass g : Nat) (ws : List MemWord) : List Finding :=
  (ws.zip (patternWords pass g)).map fun x => compareWord x.2 x.1

/-- The detection a finding makes (R108, R27). -/
def findingDetection (policy : Nat → CheckPolicy) (a : Access) (x : Nat × MemWord) (f : Finding) :
    Option Detection :=
  let d (severity : Severity) : Detection :=
    { offset := x.1, loc := a.loc, syndrome := syndrome x.2, source := .prep, severity := severity }
  match f with
  | .good => none
  | .single => some (d (severityOf (policy x.1) (decode x.2)))
  | .bad => some (d .uncorrectable)

/-- The detections of a READ-BACK, in ascending order of offset (R108). -/
def readBackDetections (policy : Nat → CheckPolicy) (a : Access) (ws : List MemWord) (fs : List Finding) :
    List Detection :=
  ((offsetWords a.offset ws).zip fs).filterMap fun x => findingDetection policy a x.1 x.2

/-- The pass's counts after a READ-BACK (R108). -/
def countFindings (fs : List Finding) (s : State) : State :=
  { s with prep := { s.prep with
      corrected := satAdd s.prep.corrected (fs.count .single)
      uncorrectable := satAdd s.prep.uncorrectable (fs.count .bad) } }

/-- The completion of a READ-BACK. `engineFirst` says that the engine's ZERO-WRITE request reaches the arbiter before
the error log and the repair unit act on the detections (R107, R108; assumption log 15). -/
def readBackDone (engineFirst : Bool) (a : Access) (ws : List MemWord) (s : State) : State :=
  let fs := findings s.prep.pass a.offset ws
  let ds := readBackDetections s.policyAt a ws fs
  let s := countFindings fs s
  if engineFirst then finish (detectAll ds (grant (nextStep .zeroWrite s)))
  else finish (nextStep .zeroWrite (detectAll ds s))

/-- READ_BACK_COMPLETE (R108). -/
def execReadBackComplete (flips : List MemWord) (engineFirst : Bool) (s : State) :
    Host.Outcome State Fault Refusal :=
  atRead .readBack flips s (readBackDone engineFirst)

/-- The board control unit takes the report of a completed zero sweep (R72). -/
def zeroSweepReport (s : State) : State :=
  if s.ctl.regime = .preparing then { s with ctl := { s.ctl with memValid := true } } else s

/-- The board control unit takes a finish report (R80). -/
def finishReport (doubtful : Bool) (s : State) : State :=
  if s.ctl.regime = .preparing then
    enterReleasing (if doubtful then { s with ctl := { s.ctl with pendingDoubtful := true } } else s)
  else s

/-- Whether the pass is GOOD (R109). -/
def State.passGood (s : State) : Bool :=
  decide (s.prep.uncorrectable = 0) && decide (s.prep.corrected.toNat ≤ s.settings.prepCorrectedLimit)

/-- The end of a pass (R109). In RETRY-WAIT the group position, the step and the wait stay as the last ZERO-WRITE left them
(the model's choice, assumption log 37). -/
def endPass (s : State) : State :=
  let s := zeroSweepReport s
  if s.passGood then finishReport false { s with prep := Prep.initial }
  else if s.prep.pass < s.settings.prepPasses then
    { s with prep := { s.prep with activity := .retryWait, retry := .running s.settings.prepRetryDelay } }
  else finishReport true { s with prep := Prep.initial }

/-- The completion of a ZERO-WRITE (R106, R109). -/
def zeroWriteDone (_ : Access) (s : State) : State :=
  if 64 * (s.prep.position + 1) < s.usable then
    finish (nextStep .patternWrite { s with prep := { s.prep with position := s.prep.position + 1 } })
  else finish (endPass s)

/-- ZERO_WRITE_COMPLETE (R106, R109). -/
def execZeroWriteComplete (s : State) : Host.Outcome State Fault Refusal := atWrite .zeroWrite s zeroWriteDone

/-- PREP_RETRY_EXPIRY (R110). -/
def execPrepRetryExpiry (s : State) : Host.Outcome State Fault Refusal :=
  match s.prep.retry with
  | .running _ => .next (finish (beginPass (s.prep.pass + 1) s))
  | _ => .next s

/-- The results of a completed CHECK-RANGE (R115, R198). -/
def checkResults (r : CheckRange) : List Byte :=
  le 4 r.base ++ le 4 (r.stop - r.base) ++ le 2 r.checked ++ le 4 r.single ++ le 4 r.uncorrectable

/-- The range's counts after a read (R114). -/
def CheckRange.counted (r : CheckRange) (ws : List MemWord) : CheckRange :=
  { r with
    checked := r.checked + 1
    single := r.single + (ws.filter fun w => (decode w).single).length
    uncorrectable := r.uncorrectable + (ws.filter fun w => decide (decode w = .uncorrectable)).length }

/-- CHECK-RANGE goes on to its next group, or completes (R114, R115). -/
def checkAdvance (r : CheckRange) (s : State) : State :=
  if 64 * (s.prep.position + 1) < r.stop then
    prepHandle { s with prep := { s.prep with position := s.prep.position + 1, range := some r } }
  else completeCommand .done (checkResults r) { s with prep := Prep.initial }

/-- The completion of a CHECK-RANGE read (R114); an abandoned one still gives its findings (R116). -/
def checkReadDone (a : Access) (ws : List MemWord) (s : State) : State :=
  let policy := s.policyAt
  let s := detectAll (detectionsOf .prep policy a ws) s
  let s := offerFixes (fixesOf policy a ws) s
  match s.prep.range with
  | some r => finish (if a.discarded then s else checkAdvance (r.counted ws) s)
  | none => finish s

/-- CHECK_RANGE_READ_COMPLETE (R114, R115). -/
def execCheckRangeReadComplete (flips : List MemWord) (s : State) : Host.Outcome State Fault Refusal :=
  atRead .checkRead flips s checkReadDone

end Sys2Proof.Machine
end

