-- ==== Sys2Proof/Machine/Mailbox.lean ====
section
/-! DEFINITION. The mailbox unit's commands: the completions of its accesses and the wait limit (R179 to R182, R187,
R39 to R42). -/

namespace Sys2Proof.Machine

/-- The fetched record is decided on: poisoned, unknown, or handed to its owner (R180). -/
def decideRecord (words : List (Word × Bool)) (s : State) : State :=
  let s := { s with engine := { s.engine with state := .executing, record := words.map (·.1) } }
  if words.any (·.2) then completeCommand .refusedArgument [] s
  else
    match CommandCode.ofWord (s.recordWord 0) with
    | none => completeCommand .unknown [] s
    | some c => { s with engine := { s.engine with work := .handed c } }

/-- The completion of a fetch: each word is formed as the front port would form it in the ring window's check policy
(R179). -/
def fetchDone (a : Access) (ws : List MemWord) (s : State) : State :=
  finish (if a.discarded then s else decideRecord (ws.map (formed (s.policyAt a.offset))) s)

/-- COMMAND_FETCH_COMPLETE (R179, R180). -/
def execCommandFetchComplete (flips : List MemWord) (s : State) : Host.Outcome State Fault Refusal :=
  atRead .fetch flips s fetchDone

/-- COMPLETION_WRITE_COMPLETE (R182): the done write is to be made. -/
def execCompletionWriteComplete (s : State) : Host.Outcome State Fault Refusal :=
  atWrite .completionWrite s fun a s =>
    finish (if a.discarded then s else { s with engine := { s.engine with work := .doneWrite } })

/-- The command is no longer in hand: the engine faults, fetches again or is IDLE (R182). -/
def commandEnds (s : State) : State :=
  let done := nextIndex s.settings.cmdRingSlots s.engine.done
  if s.engine.faultPending then
    { s with engine := { s.engine with done := done, work := .none, faultPending := false, state := .faulted } }
  else beginFetch { s with engine := { s.engine with done := done, work := .none, state := .idle } }

/-- DONE_WRITE_COMPLETE (R182). -/
def execDoneWriteComplete (s : State) : Host.Outcome State Fault Refusal :=
  atWrite .doneWrite s fun a s => finish (if a.discarded then s else commandEnds s)

/-- The results of a CHECK-RANGE that timed out: its counts, and the offset of the group it waited on (R115). -/
def timeoutResults (r : CheckRange) (group : Nat) : List Byte :=
  le 2 r.checked ++ le 4 r.single ++ le 4 r.uncorrectable ++ le 4 group

/-- The wait of the command in hand ends at its limit (R181, R39, R69, R115). -/
def waitEnds (s : State) : State :=
  match s.engine.work, s.prep.range with
  | .checkRange, some r =>
    completeCommand .timeout (timeoutResults r s.prepGroup) { s with prep := Prep.initial }
  | _, _ => completeCommand .timeout [] s

/-- CMD_WAIT_EXPIRY (R181). -/
def execCmdWaitExpiry (s : State) : Host.Outcome State Fault Refusal :=
  match s.engine.state, s.engine.waitTimer with
  | .waiting, .running _ => .next (finish (waitEnds s))
  | _, _ => .next s

/-- The results of DIAG-READ (R40, R198). -/
def diagResults (loc : Location) (w : MemWord) : List Byte :=
  wordBytes w.data ++ [w.check] ++ [syndrome w] ++ locField loc

/-- DIAG_WORD_READ_COMPLETE (R40, R42). -/
def execDiagWordReadComplete (flips : List MemWord) (s : State) : Host.Outcome State Fault Refusal :=
  atRead .diagRead flips s fun a ws s =>
    finish (if a.discarded then s else completeCommand .done (diagResults a.loc (ws.headD (made 0))) s)

/-- DIAG_WORD_WRITE_COMPLETE (R41, R42). -/
def execDiagWordWriteComplete (s : State) : Host.Outcome State Fault Refusal :=
  atWrite .diagWrite s fun a s => finish (if a.discarded then s else completeCommand .done [] s)

/-- EVENT_ENTRY_WORD_WRITE_COMPLETE (R187): the next entry word or the produce write is to be made. -/
def execEventEntryWordWriteComplete (s : State) : Host.Outcome State Fault Refusal :=
  atWrite .entryWrite s fun a s =>
    finish (if a.discarded then s else { s with posting := s.posting.map fun p => { p with step := p.step + 1 } })

/-- The removal of a posted entry (R187, step 3). -/
def removePosted (s : State) : State :=
  match s.posting with
  | some p =>
    { s with
      events := { s.events with produce := nextIndex s.settings.eventRingEntries s.events.produce }
      queue := s.queue.tail
      missed := satSub s.missed p.missed
      posting := none }
  | none => s

/-- PRODUCE_WRITE_COMPLETE (R187). -/
def execProduceWriteComplete (s : State) : Host.Outcome State Fault Refusal :=
  atWrite .produceWrite s fun a s =>
    finish (if !a.discarded && decide (s.ctl.regime = .running) then removePosted s else s)

end Sys2Proof.Machine
end

