-- ==== Sys2Proof/Machine/Setting.lean ====
section
/-! DEFINITION. The setting image: its acceptance (R193), the size straps (R194), and the validation of its fields into
the loaded copy (R195, R200). -/

namespace Sys2Proof.Machine

/-! ## Reading bytes of the image -/

/-- The image's byte at an offset. -/
def img8 (b : List Byte) (o : Nat) : Nat := (b.getD o 0).toNat

/-- The image's 16-bit and 32-bit values at an offset, little-endian. -/
def img16 (b : List Byte) (o : Nat) : Nat := img8 b o + 256 * img8 b (o + 1)

def img32 (b : List Byte) (o : Nat) : Nat := img16 b o + 65536 * img16 b (o + 2)

/-- A temperature of the image: signed 16-bit (R197). -/
def imgTemp (b : List Byte) (o : Nat) : Int := (BitVec.ofNat 16 (img16 b o)).toInt

/-! ## Acceptance of the whole (R193) -/

/-- A sum of 16-bit units with the carry out of bit 15 added back into bit 0. -/
def onesSum : List Byte → Nat → Nat
  | lo :: hi :: rest, acc =>
    let t := acc + lo.toNat + 256 * hi.toNat
    onesSum rest (if 65536 ≤ t then t - 65535 else t)
  | _, acc => acc

/-- The length field of an image. -/
def imageLength (b : List Byte) : Nat := img16 b 0

/-- Whether a header is acceptable: length even and 808 to 2,048, layout version 2. -/
def headerOk (b : List Byte) : Bool :=
  decide (imageLength b % 2 = 0) && decide (808 ≤ imageLength b) && decide (imageLength b ≤ 2048) &&
    decide (img16 b 2 = 2)

/-- Whether the whole image sums to 0xFFFF. -/
def checksumOk (b : List Byte) : Bool := decide (onesSum (b.take (imageLength b)) 0 = 0xFFFF)

/-! ## Field checks, each with the PARTIAL it sets -/

/-- A value with whether taking it set PARTIAL. -/
abbrev Checked (α : Type) := α × Bool

/-- A number that must lie in a range, else its default. -/
def inRange (v lo hi dflt : Nat) : Checked Nat := if lo ≤ v ∧ v ≤ hi then (v, false) else (dflt, true)

/-- A temperature: −55 °C to +125 °C in steps of 0.5 °C (00_scope.md 4.2). -/
def tempRange (t dflt : Int) : Checked Int := if -110 ≤ t ∧ t ≤ 250 then (t, false) else (dflt, true)

/-- A yes/no byte, else its default. -/
def yesNo (v : Nat) (dflt : Bool) : Checked Bool :=
  match boolOfCode v with
  | some b => (b, false)
  | none => (dflt, true)

/-- MEMSIZE: a code 0 to 4, 0xFF for the straps, and the strap value with PARTIAL for any other code (R194, R200). -/
def memSizeField (v straps : Nat) : Checked Nat :=
  if v ≤ 4 then (memSizeOfCode v, false)
  else (memSizeOfCode straps, decide (v ≠ 0xFF))

/-- A ring size: one of the listed values, else its default (R176). -/
def oneOf (v : Nat) (values : List Nat) (dflt : Nat) : Checked Nat :=
  if values.contains v then (v, false) else (dflt, true)

/-! ## Entries -/

/-- One channel's settings (R89): a threshold out of range takes its own default; thresholds that break the channel's
rule take the defaults of all five. A role byte naming no role takes the channel's default role. -/
def channelEntry (b : List Byte) (k : Nat) : Checked ChannelSettings :=
  let o := 72 + 16 * k
  let d := defaultChannel k
  let role : Checked ChannelRole :=
    match ChannelRole.ofCode (img8 b o) with
    | some r => (r, false)
    | none => (d.role, true)
  let rel := tempRange (imgTemp b (o + 2)) d.release
  let tgt := tempRange (imgTemp b (o + 4)) d.target
  let hot := tempRange (imgTemp b (o + 6)) d.warnHot
  let crit := tempRange (imgTemp b (o + 8)) d.critical
  let res := tempRange (imgTemp b (o + 10)) d.resume
  let partialSet := role.2 || rel.2 || tgt.2 || hot.2 || crit.2 || res.2
  let fits := decide (rel.1 ≤ crit.1) && decide (tgt.1 ≤ crit.1) && decide (hot.1 ≤ crit.1) && decide (res.1 < crit.1)
  if role.1 = .disabled ∨ fits = true then
    ({ role := role.1, release := rel.1, target := tgt.1, warnHot := hot.1, critical := crit.1, resume := res.1 },
      partialSet)
  else ({ d with role := role.1 }, true)

/-- Whether a number is a power of two. -/
def isPow2 (n : Nat) : Bool := decide (n = 2 ^ n.log2)

/-- Whether a base and a size may be those of a window (R17, R18, R195). -/
def windowFits (usable base size : Nat) : Bool :=
  isPow2 size && decide (4096 ≤ size) && decide (size ≤ usable) && decide (base % size = 0) &&
    decide (base + size ≤ usable)

/-- Whether two ranges overlap. -/
def overlaps (base1 size1 base2 size2 : Nat) : Bool :=
  decide (base1 < base2 + size2) && decide (base2 < base1 + size1)

/-- The window the bytes of an entry name, if every enumerated and yes/no field holds a listed value (R195, R200;
assumption log 23). -/
def windowFields (b : List Byte) (o : Nat) : Option Window := do
  let wp ← WritePolicy.ofCode (img8 b (o + 8))
  let cp ← CheckPolicy.ofCode (img8 b (o + 9))
  let role ← RingRole.ofCode (img8 b (o + 10))
  let poison ← boolOfCode (img8 b (o + 11))
  let shielded ← boolOfCode (img8 b (o + 12))
  some { base := img32 b o, size := img32 b (o + 4), writePolicy := wp, checkPolicy := cp, ringRole := role,
         poisonRestart := poison, shielded := shielded }

/-- Whether a window agrees with those kept before it (R195). -/
def windowAgrees (kept : List (Option Window)) (w : Window) : Bool :=
  kept.all fun k =>
    match k with
    | none => true
    | some k => !overlaps k.base k.size w.base w.size && (decide (w.ringRole = .none) || decide (k.ringRole ≠ w.ringRole))

/-- One window entry, given those kept before it (R195). -/
def windowEntry (b : List Byte) (usable : Nat) (kept : List (Option Window)) (k : Nat) : Checked (Option Window) :=
  let o := 136 + 16 * k
  if img32 b (o + 4) = 0 then (none, false)
  else
    match windowFields b o with
    | none => (none, true)
    | some w =>
      if windowFits usable w.base w.size && !(w.shielded && decide (w.checkPolicy = .report)) && windowAgrees kept w
      then (some w, false)
      else (none, true)

/-- The window entries `0` to `n - 1`. -/
def windowEntries (b : List Byte) (usable : Nat) : Nat → List (Option Window) × Bool
  | 0 => ([], false)
  | n + 1 =>
    let before := windowEntries b usable n
    let e := windowEntry b usable before.1 n
    (before.1 ++ [e.1], before.2 || e.2)

/-- Whether a base and a length may be those of a watch entry (R117, R127). -/
def watchFits (usable base length : Nat) : Bool :=
  [1, 2, 4, 8, 16, 32, 64].contains length && decide (base % length = 0) && decide (base + length ≤ usable)

/-- One watch entry (R117, R118, R200). -/
def watchEntry (b : List Byte) (usable k : Nat) : Checked (Option WatchEntry) :=
  let o := 392 + 32 * k
  let length := img8 b (o + 4)
  if length = 0 then (none, false)
  else
    let parsed : Option WatchEntry := do
      let access ← WatchAccess.ofCode (img8 b (o + 5))
      let present ← boolOfCode (img8 b (o + 6))
      let role ← WatchRole.ofCode (img8 b (o + 7)) (img8 b (o + 8))
      let enabled ← boolOfCode (img8 b (o + 9))
      let value := lowBytes length (wordOf (b.drop (o + 16)))
      let mask := lowBytes length (wordOf (b.drop (o + 24)))
      some { base := img32 b o, length := length, access := access,
             dataMatch := if present then some { value := value, mask := mask } else none,
             role := role, persistence := .standing, enabled := enabled, suppressed := false }
    match parsed with
    | none => (none, true)
    | some e =>
      if watchFits usable e.base e.length &&
          (e.dataMatch.isNone || (decide (e.length ≤ 8) && decide (e.access = .write)))
      then (some e, false)
      else (none, true)

/-- One key map entry (R164, R195). -/
def keyEntry (b : List Byte) (p : Nat) : Checked KeyEntry :=
  let flags := img8 b (648 + 2 * p + 1)
  if flags ≤ 3 then
    ({ code := b.getD (648 + 2 * p) 0, repeats := decide (flags % 2 = 1), chordOnly := decide (2 ≤ flags) }, false)
  else (defaultKey p, true)

/-- Whether two member lists are the same set. -/
def sameMembers (a b : List Nat) : Bool := (a.all fun x => b.contains x) && b.all fun x => a.contains x

/-- Whether the members are distinct positions within the matrix (R169). -/
def membersFit (rows cols : Nat) (ms : List Nat) : Bool :=
  decide ms.Nodup && ms.all fun p => decide (p / 8 < rows) && decide (p % 8 < cols)

/-- One chord, given those before it: an entry that breaks the rules is loaded disabled (R169; assumption log 24). -/
def chordEntry (b : List Byte) (rows cols : Nat) (before : List Chord) (k : Nat) : Checked Chord :=
  let o := 776 + 8 * k
  let n := img8 b (o + 2)
  let ms := (List.range n).map fun j => img8 b (o + 3 + j)
  let hold := img16 b (o + 6)
  match boolOfCode (img8 b o), ChordAction.ofCode (img8 b (o + 1)) with
  | some enabled, some action =>
    if (decide (n = 2) || decide (n = 3)) && membersFit rows cols ms && decide (5 ≤ hold) && decide (hold ≤ 100) then
      if enabled && before.any fun c => c.enabled && sameMembers c.members ms then
        ({ members := ms, hold := 100 * hold, action := action, enabled := false }, true)
      else ({ members := ms, hold := 100 * hold, action := action, enabled := enabled }, false)
    else (emptyChord, true)
  | _, _ => (emptyChord, true)

/-- The chords `0` to `n - 1`. -/
def chordEntries (b : List Byte) (rows cols : Nat) : Nat → List Chord × Bool
  | 0 => ([], false)
  | n + 1 =>
    let before := chordEntries b rows cols n
    let e := chordEntry b rows cols before.1 n
    (before.1 ++ [e.1], before.2 || e.2)

/-- A list of checked values: the values, and whether any set PARTIAL. -/
def collect {α : Type} (xs : List (Checked α)) : Checked (List α) := (xs.map (·.1), xs.any (·.2))

/-! ## The whole image -/

/-- The global fields with the entries still at their defaults (R195 step 1, R200). -/
def globalFields (b : List Byte) (straps : Nat) : Checked Settings :=
  let d := builtIn straps
  let num (o lo hi dflt : Nat) : Checked Nat := inRange (img8 b o) lo hi dflt
  let num2 (o lo hi dflt : Nat) : Checked Nat := inRange (img16 b o) lo hi dflt
  let mem := memSizeField (img8 b 8) straps
  let threshold := num 9 2 15 d.repairThreshold
  let scrub := num2 10 50 65535 d.scrubInterval
  let coldScrub := tempRange (imgTemp b 12) d.coldScrub
  let sensor := num2 14 100 1000 d.sensorPeriod
  let heat := num 16 1 120 d.heatLimit
  let off := num 17 1 30 d.offTime
  let soak := num2 18 1 600 d.soakTime
  let pulse := num2 20 10 1000 d.restartPulse
  let hyst := num 22 1 40 6
  let budget := num 23 1 255 d.powerBudget
  let maintain := tempRange (imgTemp b 24) d.maintainTemp
  let draw := num 26 1 255 d.boardDraw
  let drawB := num 27 1 255 d.boardHeaterDraw
  let drawP := num 28 1 255 d.panelHeaterDraw
  let passes := num 29 1 4 d.prepPasses
  let limit := num 30 0 255 d.prepCorrectedLimit
  let retry := num2 32 1 600 d.prepRetryDelay
  let boot := num2 34 1 600 d.bootLimit
  let period := num2 36 10 65535 d.period
  let warn := num2 38 10 65535 d.warnWindow
  let autoArm := yesNo (img8 b 42) d.autoArm
  let noDisarm := yesNo (img8 b 43) d.noDisarm
  let lockTrip := yesNo (img8 b 44) d.lockTrip
  let stage := num 45 1 15 d.bootStage
  let escCount := num 46 2 8 d.escalateCount
  let escSpan := num 47 1 60 d.escalateSpan
  let coldLimit := num 48 1 8 d.coldLimit
  let rows := num 49 1 8 d.rows
  let cols := num 50 1 8 d.cols
  let scan := num 51 2 16 d.scanPeriod
  let deb := num 52 2 15 d.debounce
  let debCold := num 53 2 15 d.debounceCold
  let keyCold := tempRange (imgTemp b 54) d.keyCold
  let stuck := num 56 5 255 d.stuckTime
  let slots := oneOf (img8 b 57) [8, 16, 32, 64] d.cmdRingSlots
  let entries := oneOf (img16 b 58) [16, 32, 64, 128, 256] d.eventRingEntries
  let repDelay := num2 60 100 2000 d.repeatDelay
  let repInterval := num2 62 20 1000 d.repeatInterval
  let wait := num2 64 10 1000 d.cmdWaitLimit
  ({ d with
      memSize := mem.1, repairThreshold := threshold.1, scrubInterval := scrub.1, coldScrub := coldScrub.1,
      sensorPeriod := sensor.1, heatLimit := heat.1, offTime := off.1, soakTime := soak.1, restartPulse := pulse.1,
      releaseHyst := (hyst.1 : Int), powerBudget := budget.1, maintainTemp := maintain.1, boardDraw := draw.1,
      boardHeaterDraw := drawB.1, panelHeaterDraw := drawP.1, prepPasses := passes.1,
      prepCorrectedLimit := limit.1, prepRetryDelay := retry.1, bootLimit := boot.1, period := period.1,
      warnWindow := warn.1, minInterval := img16 b 40, autoArm := autoArm.1, noDisarm := noDisarm.1,
      lockTrip := lockTrip.1, bootStage := stage.1, escalateCount := escCount.1, escalateSpan := escSpan.1,
      coldLimit := coldLimit.1, rows := rows.1, cols := cols.1, scanPeriod := scan.1, debounce := deb.1,
      debounceCold := debCold.1, keyCold := keyCold.1, stuckTime := stuck.1, cmdRingSlots := slots.1,
      eventRingEntries := entries.1, repeatDelay := repDelay.1, repeatInterval := repInterval.1,
      cmdWaitLimit := wait.1 },
    [mem.2, threshold.2, scrub.2, coldScrub.2, sensor.2, heat.2, off.2, soak.2, pulse.2, hyst.2, budget.2].any id ||
      [maintain.2, draw.2, drawB.2, drawP.2, passes.2, limit.2, retry.2, boot.2, period.2, warn.2, autoArm.2].any id ||
      [noDisarm.2, lockTrip.2, stage.2, escCount.2, escSpan.2, coldLimit.2, rows.2, cols.2, scan.2, deb.2].any id ||
      [debCold.2, keyCold.2, stuck.2, slots.2, entries.2, repDelay.2, repInterval.2, wait.2].any id)

/-- MIN_INTERVAL against PERIOD (R134), then POWER_BUDGET against BOARD_DRAW (R100): R195 step 2. -/
def crossChecks (x : Checked Settings) : Checked Settings :=
  let x : Checked Settings :=
    if x.1.minInterval ≤ x.1.period / 2 then x else ({ x.1 with minInterval := 0 }, true)
  if x.1.boardDraw ≤ x.1.powerBudget then x
  else if x.1.boardDraw ≤ (builtIn 0).powerBudget then ({ x.1 with powerBudget := (builtIn 0).powerBudget }, true)
  else ({ x.1 with powerBudget := (builtIn 0).powerBudget, boardDraw := (builtIn 0).boardDraw }, true)

/-- The bytes a ring needs (R195). -/
def commandRingBytes (slots : Nat) : Nat := 64 * (1 + slots)

def eventRingBytes (entries : Nat) : Nat := 64 + 32 * entries

/-- A kept ring window that its ring does not fit in gives that ring its default size (R195). -/
def ringSizes (x : Checked Settings) : Checked Settings :=
  let x : Checked Settings :=
    match ringIn x.1.windows .commandRing with
    | some w =>
      if commandRingBytes x.1.cmdRingSlots ≤ w.size then x
      else ({ x.1 with cmdRingSlots := (builtIn 0).cmdRingSlots }, true)
    | none => x
  match ringIn x.1.windows .eventRing with
  | some w =>
    if eventRingBytes x.1.eventRingEntries ≤ w.size then x
    else ({ x.1 with eventRingEntries := (builtIn 0).eventRingEntries }, true)
  | none => x

/-- The loaded copy of an accepted image, with PARTIAL (R195, in its order). -/
def validate (b : List Byte) (straps : Nat) : Checked Settings :=
  let g := crossChecks (globalFields b straps)
  let usable := g.1.memSize - 2048
  let channels := collect ((List.range 4).map (channelEntry b))
  let windows := windowEntries b usable 16
  let rings := ringSizes ({ g.1 with windows := windows.1 }, windows.2)
  let watches := collect ((List.range 8).map (watchEntry b usable))
  let keys := collect ((List.range 64).map (keyEntry b))
  let chords := chordEntries b g.1.rows g.1.cols 4
  ({ rings.1 with channels := channels.1, watches := watches.1, keys := keys.1, chords := chords.1 },
    g.2 || channels.2 || rings.2 || watches.2 || keys.2 || chords.2)

end Sys2Proof.Machine
end

