-- ==== Sys2Proof/Machine/MemoryCommands.lean ====
section
/-! DEFINITION. The commands of the command ring that the memory path, the check unit, the repair unit and the
preparation engine own (R18 to R20, R37 to R39, R68, R70, R113). -/

namespace Sys2Proof.Machine

/-- A command is taken from the fetched record by its owner, while the engine executes a record of that code (R180;
assumption log 26). -/
def taking (c : CommandCode) (k : State → State) (s : State) : Host.Outcome State Fault Refusal :=
  if s.engine.state = .executing ∧ s.engine.work = .handed c then .next (finish (k s)) else .next s

/-- A command completes with a status and no results. -/
def answer (status : Status) (s : State) : State := completeCommand status [] s

/-! ## Windows -/

/-- Window entry `i`. -/
def State.window (s : State) (i : Nat) : Option Window := s.windows.getD i none

/-- The new window of a SET-WINDOW that names legal values (R18, step 4). -/
def State.windowArgs (s : State) : Option Window := do
  let wp ← WritePolicy.ofCode (s.arg 5)
  let cp ← CheckPolicy.ofCode (s.arg 6)
  let poison ← boolOfCode (s.arg 7)
  if windowFits s.usable (s.arg 3) (s.arg 4) then
    some { base := s.arg 3, size := s.arg 4, writePolicy := wp, checkPolicy := cp, ringRole := .none,
           poisonRestart := poison, shielded := false }
  else none

/-- Whether a window overlaps any entry but entry `i` (R18, step 5). -/
def overlapsOther (w : Window) (i : Nat) : List (Option Window) → Nat → Bool
  | [], _ => false
  | x :: xs, k =>
    (match x with
      | some v => decide (k ≠ i) && overlaps v.base v.size w.base w.size
      | none => false) || overlapsOther w i xs (k + 1)

/-- Whether the entry at an index refuses a change, with the status it refuses with (R18, R19). -/
def windowGuard (e : Option Window) : Option Status :=
  match e with
  | some w => if w.shielded then some .refusedShielded else if w.ringRole ≠ .none then some .refusedState else none
  | none => none

/-- SET-WINDOW (R18). -/
def takeSetWindow (s : State) : State :=
  let i := s.arg 2
  if 16 ≤ i then answer .refusedArgument s
  else
    match windowGuard (s.window i) with
    | some status => answer status s
    | none =>
      match s.windowArgs with
      | none => answer .refusedArgument s
      | some w =>
        if overlapsOther w i s.windows 0 then answer .refusedArgument s
        else answer .done { s with windows := s.windows.set i (some w) }

def execSetWindow (s : State) : Host.Outcome State Fault Refusal := taking .setWindow takeSetWindow s

/-- CLEAR-WINDOW (R19). -/
def takeClearWindow (s : State) : State :=
  let i := s.arg 2
  if 16 ≤ i then answer .refusedArgument s
  else
    match windowGuard (s.window i) with
    | some status => answer status s
    | none => answer .done { s with windows := s.windows.set i none }

def execClearWindow (s : State) : Host.Outcome State Fault Refusal := taking .clearWindow takeClearWindow s

/-- The results of READ-WINDOW (R20, R198; assumption log 18). -/
def windowResults (e : Option Window) : List Byte :=
  match e with
  | some w =>
    flagField false ++ le 4 w.base ++ le 4 w.size ++ byteField w.writePolicy.code ++ byteField w.checkPolicy.code ++
      byteField w.ringRole.code ++ flagField w.poisonRestart ++ flagField w.shielded
  | none => flagField true ++ List.replicate 13 0xFF

/-- READ-WINDOW (R20). -/
def takeReadWindow (s : State) : State :=
  if 16 ≤ s.arg 2 then answer .refusedArgument s
  else completeCommand .done (windowResults (s.window (s.arg 2))) s

def execReadWindow (s : State) : Host.Outcome State Fault Refusal := taking .readWindow takeReadWindow s

/-! ## The error log and diagnostic access -/

/-- The results of TAKE-ERROR (R37, R198). Of an empty log every field is marked absent as R197 marks one: the memory
temperature by 0x7FFF, the others by all ones (assumption log 18). -/
def errorResults (e : Option LogEntry) (left : Nat) : List Byte :=
  (match e with
    | some e =>
      le 4 e.offset ++ locField e.loc ++ [e.syndrome] ++ byteField e.severity.code ++ byteField e.source.code ++
        [e.repeats] ++ flagField e.rewritten ++ flagField e.repairRequested ++ bitsField 4 e.uptime ++
        tempField e.temperature ++ byteField e.regime.code
    | none => List.replicate 16 0xFF ++ tempField none ++ [0xFF]) ++ byteField left

/-- TAKE-ERROR (R37). -/
def takeTakeError (s : State) : State :=
  completeCommand .done (errorResults s.log.entries.head? s.log.entries.tail.length)
    { s with log := { s.log with entries := s.log.entries.tail } }

def execTakeError (s : State) : Host.Outcome State Fault Refusal := taking .takeError takeTakeError s

/-- The status a DIAG command on an offset is refused with, if it is (R38). -/
def State.diagGuard (s : State) (o : Nat) (argumentOk : Bool) : Option Status :=
  if o % 8 ≠ 0 ∨ s.usable ≤ o ∨ argumentOk = false then some .refusedArgument
  else
    match s.windowAt o with
    | some (_, w) => windowGuard (some w)
    | none => none

/-- A DIAG command that has passed its checks waits on a reservation, or makes its access (R39). -/
def beginDiag (o : Nat) (work : EngineWork) (s : State) : State :=
  let s := { s with engine := { s.engine with work := work } }
  if s.reservedAt o then enterWaiting s else s

/-- DIAG-READ (R38, R39). -/
def takeDiagRead (s : State) : State :=
  match s.diagGuard (s.arg 2) true with
  | some status => answer status s
  | none => beginDiag (s.arg 2) (.diagRead (s.arg 2)) s

def execDiagRead (s : State) : Host.Outcome State Fault Refusal := taking .diagRead takeDiagRead s

/-- DIAG-WRITE (R38, R39): the data and check bits are written as given (R41). -/
def takeDiagWrite (s : State) : State :=
  match s.diagGuard (s.arg 2) (decide (s.arg 4 ≤ 0xFF)) with
  | some status => answer status s
  | none =>
    beginDiag (s.arg 2)
      (.diagWrite (s.arg 2) { data := s.recordWord 3, check := BitVec.ofNat 8 (s.arg 4) }) s

def execDiagWrite (s : State) : Host.Outcome State Fault Refusal := taking .diagWrite takeDiagWrite s

/-! ## Repair -/

/-- A REPAIR-GROUP offers its request and waits: absorbed or appended where it can be, not placed where the list is
full (R68). -/
def offerAndWait (g : Nat) (s : State) : State :=
  let placed := s.repair.isPending g || decide (s.repair.requests.length < 4)
  let s := enterWaiting { s with engine := { s.engine with work := .repairGroup g placed } }
  if placed then offerRepair g s else s

/-- REPAIR-GROUP (R68). -/
def takeRepairGroup (s : State) : State :=
  let g := s.arg 2
  if g % 64 ≠ 0 ∨ s.usable ≤ g then answer .refusedArgument s else offerAndWait g s

def execRepairGroup (s : State) : Host.Outcome State Fault Refusal := taking .repairGroup takeRepairGroup s

/-- One table entry of READ-REPAIRS (R55, R70). -/
def repairEntryField (e : Option RepairEntry) : List Byte :=
  match e with
  | some e => le 4 e.group ++ byteField e.slot ++ bitsField 2 e.reRepairs ++ bitsField 4 e.uptime ++ [e.carried]
  | none => List.replicate 12 0xFF

/-- The results of READ-REPAIRS (R70, R198). -/
def repairsResults (r : Repair) (i : Nat) : List Byte :=
  byteField ((r.table.drop i).take 2).length ++ repairEntryField r.table[i]? ++ repairEntryField r.table[i + 1]? ++
    byteField r.table.length ++ byteField r.free.length ++ byteField r.spent.length ++
    bitsField 2 r.completed ++ bitsField 2 r.reRepaired ++ bitsField 2 r.refused ++ bitsField 2 r.declined ++
    bitsField 2 r.dropped ++ bitsField 2 r.abandoned ++
    flagField r.migration.isSome ++ optField 4 (r.migration.map (·.group)) ++ optField 1 (r.migration.map (·.slot))

/-- READ-REPAIRS (R70). -/
def takeReadRepairs (s : State) : State :=
  if 32 ≤ s.arg 2 then answer .refusedArgument s else completeCommand .done (repairsResults s.repair (s.arg 2)) s

def execReadRepairs (s : State) : Host.Outcome State Fault Refusal := taking .readRepairs takeReadRepairs s

/-! ## CHECK-RANGE -/

/-- Whether a CHECK-RANGE names a legal range (R113). -/
def State.rangeOk (s : State) (base length : Nat) : Bool :=
  decide (base % 64 = 0) && decide (length % 64 = 0) && decide (0 < length) && decide (length ≤ 1048576) &&
    decide (base + length ≤ s.usable)

/-- The preparation engine enters CHECKING at the base of a range (R113, R114). -/
def beginCheck (base length : Nat) (s : State) : State :=
  prepHandle
    { s with
      prep := { Prep.initial with
        activity := .checking, position := base / 64
        range := some { base := base, stop := base + length, checked := 0, single := 0, uncorrectable := 0 } }
      engine := { s.engine with work := .checkRange } }

/-- CHECK-RANGE (R113). -/
def takeCheckRange (s : State) : State :=
  if s.rangeOk (s.arg 2) (s.arg 3) then beginCheck (s.arg 2) (s.arg 3) s else answer .refusedArgument s

def execCheckRange (s : State) : Host.Outcome State Fault Refusal := taking .checkRange takeCheckRange s

end Sys2Proof.Machine
end

