-- ==== Sys2Proof/Machine/Migrate.lean ====
section
/-! DEFINITION. The repair unit's commands: the two halves of a migration's locked pair (R60 to R62). -/

namespace Sys2Proof.Machine

/-- The word prepared for the slot (R60). -/
def prepareWord (w : MemWord) : MemWord :=
  match decode w with
  | .clean => w
  | .uncorrectable => w
  | _ => made (offered w)

/-- The places of the uncorrectable words, bit k for place k (R60); the list's head is place `k`. -/
def rawPlaces : List MemWord → Nat → Byte
  | [], _ => 0
  | w :: ws, k => (if decode w = .uncorrectable then 1#8 <<< k else 0) ||| rawPlaces ws (k + 1)

/-- Whether every word that is not clean is uncorrectable and lies at a carried place (R61). -/
def onlyCarried (carried : Byte) : List MemWord → Nat → Bool
  | [], _ => true
  | w :: ws, k =>
    (decide (decode w = .clean) || (decide (decode w = .uncorrectable) && carried.getLsbD k)) &&
      onlyCarried carried ws (k + 1)

/-- Whether the pair of a re-repair ends without its write (R61). -/
def declines (e : RepairEntry) (ws : List MemWord) : Bool :=
  decide (e.carried ≠ 0) && decide (rawPlaces ws 0 ≠ 0) && onlyCarried e.carried ws 0

/-- The re-repair ends without its write (R61). -/
def declineRepair (e : RepairEntry) (s : State) : State :=
  let s := { s with repair := { s.repair with declined := satInc s.repair.declined } }
  endMigration
    { outcome := .carried, group := e.group, newSlot := none, oldSlot := some e.slot, carried := some e.carried,
      reRepairs := some e.reRepairs, free := s.repair.free.length } s

/-- The write half of the pair follows under the same grant (R60, R23). -/
def copyToSlot (m : Migration) (a : Access) (ws : List MemWord) (s : State) : State :=
  { s with
    repair := { s.repair with migration := some { m with carried := rawPlaces ws 0 } }
    port := some { a with purpose := .migrationWrite, loc := .spare m.slot, words := ws.map prepareWord } }

/-- The completion of a migration's read (R60, R61). -/
def migrationReadDone (a : Access) (ws : List MemWord) (s : State) : State :=
  let s := detectAll (detectionsOf .migration s.policyAt a ws) s
  match s.repair.migration with
  | none => finish s
  | some m =>
    match if m.reRepair then s.repairEntry m.group else none with
    | some e => if declines e ws then finish (declineRepair e s) else finish (copyToSlot m a ws s)
    | none => finish (copyToSlot m a ws s)

/-- MIGRATION_READ_COMPLETE (R60, R61). -/
def execMigrationReadComplete (flips : List MemWord) (s : State) : Host.Outcome State Fault Refusal :=
  atRead .migrationRead flips s migrationReadDone

/-- A first repair is complete (R62). -/
def firstRepair (m : Migration) (s : State) : State :=
  let e : RepairEntry :=
    { group := m.group, slot := m.slot, reRepairs := 0, uptime := s.clock.uptime, carried := m.carried }
  let s := { s with repair := { s.repair with
    table := s.repair.table ++ [e], completed := satInc s.repair.completed } }
  endMigration
    { outcome := .done, group := m.group, newSlot := some m.slot, oldSlot := none, carried := some m.carried,
      reRepairs := some 0, free := s.repair.free.length } s

/-- A re-repair is complete (R62). -/
def reRepair (m : Migration) (e : RepairEntry) (s : State) : State :=
  let e' : RepairEntry := { e with slot := m.slot, reRepairs := satInc e.reRepairs, carried := m.carried }
  let s := { s with repair := { s.repair with
    table := s.repair.table.map fun x => if x.group = m.group then e' else x
    spent := s.repair.spent ++ [e.slot]
    reRepaired := satInc s.repair.reRepaired } }
  endMigration
    { outcome := .reRepaired, group := m.group, newSlot := some m.slot, oldSlot := some e.slot,
      carried := some m.carried, reRepairs := some e'.reRepairs, free := s.repair.free.length } s

/-- The completion of a migration's write (R62). -/
def migrationWriteDone (_ : Access) (s : State) : State :=
  match s.repair.migration with
  | none => finish s
  | some m =>
    match s.repairEntry m.group with
    | some e => finish (reRepair m e s)
    | none => finish (firstRepair m s)

/-- MIGRATION_WRITE_COMPLETE (R62). -/
def execMigrationWriteComplete (s : State) : Host.Outcome State Fault Refusal :=
  atWrite .migrationWrite s migrationWriteDone

end Sys2Proof.Machine
end

