-- ==== Sys2Proof/Machine/Reports.lean ====
section
/-! DEFINITION. The taking of the front port's reports: at the restart supervisor (R119 to R125, R151) and at the mailbox
unit, which snoops its ring headers (R178, R186). -/

namespace Sys2Proof.Machine

/-- Whether a report is a write report, an empty write among them (R151). -/
def ReportKind.writeReport : ReportKind → Bool
  | .write => true
  | .emptyWrite => true
  | _ => false

/-- Whether a report is a refused-write report (R16). -/
def ReportKind.refusedReport : ReportKind → Bool
  | .refused _ => true
  | _ => false

/-- A write report: traced, and unless the write was empty matched against the table (R120 to R125, R151, R3). -/
def takeWrite (r : FrontReport) (s : State) : State :=
  let s := traceReport r s
  if r.kind.isWrite then actOn r s else s

/-- WATCH_WRITE_REPORT (R120, R151). -/
def execWatchWriteReport (s : State) : Host.Outcome State Fault Refusal :=
  .next (takeReport ReportKind.writeReport takeWrite s)

/-- WATCH_READ_REPORT (R120). -/
def execWatchReadReport (s : State) : Host.Outcome State Fault Refusal :=
  .next (takeReport ReportKind.isRead actOn s)

/-- REFUSED_WRITE_REPORT (R16, R151). -/
def execRefusedWriteReport (s : State) : Host.Outcome State Fault Refusal :=
  .next (takeReport ReportKind.refusedReport traceReport s)

/-! ## Snooping -/

/-- The value a report gives the word at a front offset, where its bytes include any byte of that word (R178). -/
def FrontReport.wordAt (r : FrontReport) (o : Nat) : Option Nat :=
  if (List.range 8).any fun k => r.concerns (o + k) then some (r.words.getD ((o - r.offset) / 8) 0).toNat else none

/-- A command is in hand from the start of its fetch to the completion of its done write (R178). -/
def EngineState.inHand : EngineState → Bool
  | .idle => false
  | .faulted => false
  | _ => true

/-- The submit copy takes a value. -/
def setSubmit (v : Nat) (s : State) : State := { s with engine := { s.engine with submit := v } }

/-- A submit write with value `v` (R178). -/
def submitWrite (v : Nat) (s : State) : State :=
  let n := s.settings.cmdRingSlots
  let e := s.engine
  let near := decide (v < 2 * n) && decide (indexDistance n e.done v ≤ n)
  if e.state = .faulted then
    if v = e.done then { s with engine := { e with submit := v, state := .idle } } else s
  else if e.faultPending || decide (v = e.submit) then s
  else if e.state.inHand then
    if near && decide (1 ≤ indexDistance n e.done v) then setSubmit v s
    else { s with engine := { e with faultPending := true } }
  else if near then beginFetch (setSubmit v s)
  else { s with engine := { e with state := .faulted } }

/-- A ready write with value `v` (R186). -/
def readyWrite (v : Nat) (s : State) : State :=
  let e := s.events
  match e.state with
  | .faulted => if v = 0 then { s with events := { e with state := .unarmed, consume := e.produce } } else s
  | _ => { s with events := { e with state := if v = 0 then .unarmed else .armed } }

/-- A consume write with value `v` (R186). -/
def consumeWrite (v : Nat) (s : State) : State :=
  let m := s.settings.eventRingEntries
  let e := s.events
  if e.state = .faulted ∨ v = e.consume then s
  else if v < 2 * m ∧ indexDistance m e.consume v ≤ indexDistance m e.consume e.produce then
    { s with events := { e with consume := v } }
  else { s with events := { e with state := .faulted } }

/-- A header word of a ring that exists, and what its value does. -/
def snoopWord (role : RingRole) (place : Nat) (act : Nat → State → State) (r : FrontReport) (s : State) : State :=
  match s.ring role with
  | some w =>
    match r.wordAt (w.base + place) with
    | some v => act v s
    | none => s
  | none => s

/-- A write report at the mailbox unit (R178, R186). -/
def snoop (r : FrontReport) (s : State) : State :=
  snoopWord .eventRing 8 consumeWrite r (snoopWord .eventRing 16 readyWrite r
    (snoopWord .commandRing 0 submitWrite r s))

/-- RING_SNOOP_REPORT (R178): the oldest report is taken; outside RUNNING it is discarded. -/
def execRingSnoopReport (s : State) : Host.Outcome State Fault Refusal :=
  match s.snoopReports with
  | r :: rest =>
    let s := { s with snoopReports := rest }
    .next (if s.ctl.regime = .running then finish (snoop r s) else s)
  | [] => .next s

end Sys2Proof.Machine
end

