-- ==== Sys2Proof/Machine/Scrub.lean ====
section
/-! DEFINITION. The scrubber's commands: the interval, the fix pair and the sweep (R48, R49, R52). -/

namespace Sys2Proof.Machine

/-- SCRUB_INTERVAL_EXPIRY (R49): the timer restarts with the length of R50, the due flag is set, and an IDLE scrubber
chooses its work. -/
def execScrubIntervalExpiry (s : State) : Host.Outcome State Fault Refusal :=
  match s.scrub.timer with
  | .running _ =>
    let s := { s with scrub := { s.scrub with timer := .running s.scrubLength, due := true } }
    .next (finish (if s.scrub.activity = .idle then chooseWork s else s))
  | _ => .next s

/-- The served entry leaves the fix list (R48). -/
def removeServed (s : State) : State :=
  match s.scrub.inHand with
  | some (.fix e) => { s with scrub := { s.scrub with fixList := s.scrub.fixList.erase e } }
  | _ => s

/-- The end of a fix pair (R48). -/
def endFix (s : State) : State := finish (endWork (removeServed s))

/-- The completion of the read half of a fix pair (R48). -/
def fixReadDone (a : Access) (ws : List MemWord) (s : State) : State :=
  let w := ws.headD (made 0)
  match decode w with
  | .clean => endFix s
  | .uncorrectable =>
    endFix (detect { offset := a.offset, loc := a.loc, syndrome := syndrome w, source := .fix,
                     severity := .uncorrectable } s)
  | _ =>
    { s with port := some { a with purpose := .fixWrite, words := [made (offered w)], syndrome := syndrome w } }

/-- FIX_PAIR_READ_COMPLETE (R48). -/
def execFixPairReadComplete (flips : List MemWord) (s : State) : Host.Outcome State Fault Refusal :=
  atRead .fixRead flips s fixReadDone

/-- FIX_REWRITE_COMPLETE (R48, R34). -/
def execFixRewriteComplete (s : State) : Host.Outcome State Fault Refusal :=
  atWrite .fixWrite s fun a s => endFix (rewriteReport a.offset a.loc a.syndrome s)

/-- The number of usable groups (R43). -/
def State.groups (s : State) : Nat := s.usable / 64

/-- The sweep position advances, the count increasing after the last usable group (R52). -/
def advanceSweep (s : State) : State :=
  if s.scrub.position + 1 < s.groups then { s with scrub := { s.scrub with position := s.scrub.position + 1 } }
  else { s with scrub := { s.scrub with position := 0, count := s.scrub.count + 1 } }

/-- The completion of a sweep read (R52). -/
def sweepDone (a : Access) (ws : List MemWord) (s : State) : State :=
  let policy := s.policyAt
  let s := detectAll (detectionsOf .scrub policy a ws) s
  let s := offerFixes (fixesOf policy a ws) s
  finish (endWork (advanceSweep s))

/-- SWEEP_READ_COMPLETE (R52). -/
def execSweepReadComplete (flips : List MemWord) (s : State) : Host.Outcome State Fault Refusal :=
  atRead .sweepRead flips s sweepDone

end Sys2Proof.Machine
end

