-- ==== Sys2Proof/Machine/ThermalWork.lean ====
section
/-! DEFINITION. The thermal unit's shared operations: rounds of polls, the end of a poll, and the conditions it reports
(R90 to R95, R50, R159). -/

namespace Sys2Proof.Machine

/-- Whether channel `k` is polled: its role is not DISABLED (R90). -/
def State.polled (s : State) (k : Nat) : Bool :=
  match s.settings.channels[k]? with
  | some c => decide (c.role ≠ .disabled)
  | none => false

/-- The first polled channel from `k` on (R90). -/
def State.pollFrom (s : State) (k : Nat) : Option Nat := (List.range 4).find? fun j => decide (k ≤ j) && s.polled j

/-- A round begins (R90). -/
def beginRound (s : State) : State := { s with thermal := { s.thermal with polling := s.pollFrom 0 } }

/-- The settings of channel `k` (R89). -/
def State.channelSettings (s : State) (k : Nat) : ChannelSettings := s.settings.channels.getD k (defaultChannel 3)

/-- The state of channel `k`. -/
def State.channel (s : State) (k : Nat) : Channel := s.thermal.channels.getD k Channel.initial

/-- The state of channel `k` replaced. -/
def setChannel (k : Nat) (c : Channel) (s : State) : State :=
  { s with thermal := { s.thermal with channels := s.thermal.channels.set k c } }

/-- A THERMAL notice (R96). -/
def thermalNotice (event : ThermalEvent) (k : Nat) (reading : Option Int) (s : State) : State :=
  queueNotice (.thermal event k (s.channelSettings k).role reading s.ctl.regime) s

/-- A reply to the poll of channel `k` (R91). -/
def channelReply (k : Nat) (t : Int) (s : State) : State :=
  let c := s.channel k
  let s' := setChannel k { c with state := .valid, reading := some t, timeouts := 0 } s
  if c.state = .failed then thermalNotice .sensorRestored k (some t) s' else s'

/-- A timeout of the poll of channel `k` (R91). -/
def channelTimeout (k : Nat) (s : State) : State :=
  let c := s.channel k
  if c.state = .failed then s
  else if c.timeouts + 1 = 3 then
    thermalNotice .sensorFailed k none (setChannel k { c with state := .failed, timeouts := 3 } s)
  else setChannel k { c with timeouts := c.timeouts + 1 } s

/-- The channels with their settings. -/
def State.channelPairs (s : State) : List (ChannelSettings × Channel) := s.settings.channels.zip s.thermal.channels

/-- Whether a channel is BOARD or MEMORY (R92). -/
def ChannelSettings.counts (c : ChannelSettings) : Bool := decide (c.role = .board) || decide (c.role = .memory)

/-- Whether a channel is VALID with a reading that a predicate accepts. -/
def Channel.validWith (c : Channel) (p : Int → Bool) : Bool :=
  match c.state, c.reading with
  | .valid, some t => p t
  | _, _ => false

/-- Release readiness (R92). -/
def State.readinessNow (s : State) : Bool :=
  (s.channelPairs.any fun x => x.1.counts && decide (x.2.state = .valid)) &&
    s.channelPairs.all fun x =>
      !x.1.counts || decide (x.2.state = .failed) || x.2.validWith fun t => decide (x.1.release ≤ t)

/-- The overheat condition (R93). -/
def State.overheatNow (s : State) : Bool :=
  s.channelPairs.any fun x => x.2.validWith fun t => decide (x.1.critical ≤ t)

/-- The resume condition (R94). -/
def State.resumeNow (s : State) : Bool :=
  (s.channelPairs.any fun x => decide (x.2.state = .valid)) &&
    s.channelPairs.all fun x => decide (x.2.state ≠ .valid) || x.2.validWith fun t => decide (t ≤ x.1.resume)

/-- Release readiness is reported if it has changed (R92); HEATING passes on to SOAKING when it holds (R77). -/
def reportReadiness (s : State) : State :=
  let now := s.readinessNow
  if now = s.thermal.readiness then s
  else
    let s := { s with thermal := { s.thermal with readiness := now } }
    if now && decide (s.ctl.regime = .heating) then changeRegime .soaking s else s

/-- The overheat condition is reported while it holds (R93, R83). -/
def reportOverheat (s : State) : State := if s.overheatNow then takeOverheat s else s

/-- The resume condition is reported while it holds; OVERHEAT alone acts on it (R94, R84). -/
def reportResume (s : State) : State :=
  if s.resumeNow && decide (s.ctl.regime = .overheat) then enterHeating s else s

/-- A reading of a counting channel below its release threshold less RELEASE_HYST is reported; an unforced soak is
broken by it (R92, R78). -/
def reportSoakFloor (k : Nat) (t : Int) (s : State) : State :=
  if (s.channelSettings k).counts && decide (t < (s.channelSettings k).release - s.settings.releaseHyst) &&
      decide (s.ctl.regime = .soaking) && !s.ctl.pendingForced then enterHeating s
  else s

/-- The warn-hot arming of the channel whose poll has ended (R95). -/
def armHot (k : Nat) (s : State) : State :=
  let c := s.channel k
  let warn := (s.channelSettings k).warnHot
  if c.hotArmed && c.validWith (fun t => decide (warn ≤ t)) then
    thermalNotice .hot k c.reading (setChannel k { c with hotArmed := false } s)
  else if !c.hotArmed && c.validWith (fun t => decide (t < warn - 4)) then setChannel k { c with hotArmed := true } s
  else s

/-- The cold-scrub condition for the scrubber (R50) and the cold-debounce condition for the keypad scanner (R159). -/
def reportCold (s : State) : State :=
  let cold (role : ChannelRole) (limit : Int) (without : Bool) : Bool :=
    match s.roleReading role with
    | some t => decide (t < limit)
    | none => without
  { s with
    scrub := { s.scrub with cold := cold .memory s.settings.coldScrub false }
    keypad := { s.keypad with coldDebounce := cold .panel s.settings.keyCold true } }

/-- The end of the poll of channel `k`, its reading stored or its timeout counted: the next poll starts, and the
conditions are evaluated in the order of R91. `floor` makes the soak-floor report, which only a reading makes. -/
def pollEnds (k : Nat) (floor : State → State) (s : State) : State :=
  let s := { s with thermal := { s.thermal with polling := s.pollFrom (k + 1) } }
  let s := floor (reportResume (reportOverheat (reportReadiness s)))
  evalHeaters (reportCold (armHot k s))

/-- A poll that ends with a timeout (R91). -/
def pollTimesOut (k : Nat) (s : State) : State := pollEnds k id (channelTimeout k s)

end Sys2Proof.Machine
end

