-- ==== Sys2Proof/Machine/StartUp.lean ====
section
/-! DEFINITION. Part power-on and the reading of the setting image (R71, R75, R192, R193). -/

namespace Sys2Proof.Machine

/-- PART_POWER_ON (R71): every field takes its value at part power-on. The queue of events still to come is no part of
the part and is kept, and the model's own counters of free values go on (assumption log 29). -/
def execPartPowerOn (s : State) : Host.Outcome State Fault Refusal :=
  .next { State.reset with pending := s.pending, memEpoch := s.memEpoch + 1, freeCount := s.freeCount }

/-- The load is complete: the loaded copy with its flags is in place, the tables are loaded, polling and scanning start,
and the regime becomes HEATING (R75, R22, R90, R118, R156, R164, R169, R196). -/
def loadComplete (loaded : Settings) (defaults isPartial : Bool) (s : State) : State :=
  let s := { s with loader := { s.loader with
    state := .loaded, loaded := some loaded, defaultsFlag := defaults, partialFlag := isPartial } }
  let s := loadWindows
    { s with
      watch := { s.watch with entries := loaded.watches, hits := 0 }
      keypad := { s.keypad with
        map := loaded.keys
        chords := loaded.chords.map fun c => { ChordRecord.initial with chord := c }
        scanTimer := .running loaded.scanPeriod }
      thermal := { s.thermal with pollTimer := .running loaded.sensorPeriod } }
  enterHeating (beginRound s)

/-- The load of built-in defaults (R193). -/
def loadDefaults (straps : BitVec 3) (s : State) : State := loadComplete (builtIn straps.toNat) true false s

/-- The checks of an image once its header has arrived (R192, R193, R195). -/
def examineImage (straps : BitVec 3) (s : State) : State :=
  let b := s.loader.buffer
  if b.length < 8 then s
  else if !headerOk b then loadDefaults straps s
  else if b.length < imageLength b then s
  else if !checksumOk b then loadDefaults straps s
  else
    let v := validate b straps.toNat
    loadComplete v.1 false v.2 s

/-- CONFIG_READ_REPLY (R192): the bytes read join the buffer, and the image is examined as far as it has arrived. -/
def execConfigReadReply (data : List Byte) (straps : BitVec 3) (s : State) : Host.Outcome State Fault Refusal :=
  if s.loader.state = .reading then
    .next (finish (examineImage straps
      { s with loader := { s.loader with buffer := (s.loader.buffer ++ data).take 2048 } }))
  else .next s

/-- CONFIG_READ_TIMEOUT (R192): the reading ends, and the built-in defaults are loaded. -/
def execConfigReadTimeout (straps : BitVec 3) (s : State) : Host.Outcome State Fault Refusal :=
  if s.loader.state = .reading then .next (finish (loadDefaults straps s)) else .next s

end Sys2Proof.Machine
end

