-- ==== Sys2Proof/Machine/SystemCommands.lean ====
section
/-! DEFINITION. The commands of the command ring that the mailbox unit, the thermal unit, the restart supervisor, the
board control unit and the keypad scanner own (R185, R102, R127 to R131, R141, R142, R152 to R154, R174, R175). -/

namespace Sys2Proof.Machine

/-- The results of STATUS (R185, R198). -/
def statusResults (s : State) : List Byte :=
  byteField s.ctl.regime.code ++ flagField s.ctl.sessionForced ++ flagField s.ctl.sessionDoubtful ++
    flagField s.loader.defaultsFlag ++ flagField s.loader.partialFlag ++ byteField s.dog.state.code ++
    byteField s.engine.state.code ++ flagField s.engine.faultPending ++ byteField s.events.state.code ++
    byteField s.queue.length ++ [s.missed] ++
    bitsField 4 s.log.corrected ++ bitsField 4 s.log.reported ++ bitsField 4 s.log.uncorrectable ++
    bitsField 4 s.log.overflow ++
    byteField s.repair.table.length ++ byteField s.repair.free.length ++ byteField s.repair.spent.length ++
    le 4 s.scrub.position ++ bitsField 4 s.scrub.count ++
    byteField s.restarts.coldCount ++ byteField s.restarts.escalation.length ++
    bitsField 4 s.clock.uptime ++ bitsField 4 s.clock.session

/-- STATUS (R185). -/
def takeStatus (s : State) : State := completeCommand .done (statusResults s) s

def execStatus (s : State) : Host.Outcome State Fault Refusal := taking .status takeStatus s

/-- One channel of READ-THERMAL (R102). -/
def channelField (x : ChannelSettings × Channel) : List Byte :=
  byteField x.1.role.code ++ byteField x.2.state.code ++ tempField x.2.reading ++ byteField x.2.timeouts ++
    flagField x.2.hotArmed

/-- The active draw (R99). -/
def State.activeDraw (s : State) : Nat :=
  (if s.ctl.power then s.settings.boardDraw else 0) +
    (if s.thermal.boardOutput then s.settings.boardHeaterDraw else 0) +
    (if s.thermal.panelOutput then s.settings.panelHeaterDraw else 0)

/-- The results of READ-THERMAL (R102, R198). -/
def thermalResults (s : State) : List Byte :=
  s.channelPairs.flatMap channelField ++
    flagField s.thermal.boardDemand ++ flagField s.thermal.boardOutput ++
    flagField s.thermal.panelDemand ++ flagField s.thermal.panelOutput ++
    byteField s.activeDraw ++ byteField s.settings.powerBudget ++ byteField s.settings.boardDraw ++
    flagField s.readinessNow ++ flagField s.overheatNow ++ flagField s.resumeNow

/-- READ-THERMAL (R102). -/
def takeReadThermal (s : State) : State := completeCommand .done (thermalResults s) s

def execReadThermal (s : State) : Host.Outcome State Fault Refusal := taking .readThermal takeReadThermal s

/-! ## The watch table -/

/-- Watch entry `i`. -/
def State.watchAt (s : State) (i : Nat) : Option WatchEntry := s.watch.entries.getD i none

/-- The new entry of a SET-WATCH that names legal values (R127, steps 3 to 5). -/
def State.watchArgs (s : State) : Option WatchEntry := do
  let length := s.argByte 4 0
  let access ← WatchAccess.ofCode (s.argByte 4 1)
  let present ← boolOfCode (s.argByte 4 2)
  let role ← WatchRole.ofCode (s.argByte 4 3) (s.argByte 4 4)
  let persistence ← Persistence.ofCode (s.argByte 4 5)
  let enabled ← boolOfCode (s.argByte 4 6)
  if watchFits s.usable (s.arg 3) length && (!present || (decide (length ≤ 8) && decide (access = .write))) then
    some { base := s.arg 3, length := length, access := access,
           dataMatch := if present then
               some { value := lowBytes length (s.recordWord 5), mask := lowBytes length (s.recordWord 6) }
             else none,
           role := role, persistence := persistence, enabled := enabled, suppressed := false }
  else none

/-- Entry `i` replaced: its hit flag clears and it leaves the trip senders (R127, R128). -/
def placeWatch (i : Nat) (e : Option WatchEntry) (s : State) : State :=
  { s with watch := { s.watch with
      entries := s.watch.entries.set i e
      hits := clearBit s.watch.hits i
      senders := s.watch.senders.filter fun k => k ≠ i } }

/-- SET-WATCH (R127). -/
def takeSetWatch (s : State) : State :=
  underLock (fun s =>
    if 8 ≤ s.arg 2 then answer .refusedArgument s
    else
      match s.watchArgs with
      | none => answer .refusedArgument s
      | some e => answer .done (placeWatch (s.arg 2) (some e) s)) s

def execSetWatch (s : State) : Host.Outcome State Fault Refusal := taking .setWatch takeSetWatch s

/-- CLEAR-WATCH (R128). -/
def takeClearWatch (s : State) : State :=
  underLock (fun s =>
    if 8 ≤ s.arg 2 then answer .refusedArgument s else answer .done (placeWatch (s.arg 2) none s)) s

def execClearWatch (s : State) : Host.Outcome State Fault Refusal := taking .clearWatch takeClearWatch s

/-- The fields of a watch entry (R117, R129; assumption logs 18, 19). -/
def watchField (e : Option WatchEntry) : List Byte :=
  match e with
  | some e =>
    flagField false ++ le 4 e.base ++ byteField e.length ++ byteField e.access.code ++
      (match e.dataMatch with
        | some d => flagField true ++ wordBytes d.value ++ wordBytes d.mask
        | none => flagField false ++ List.replicate 16 0xFF) ++
      byteField e.role.code ++ optField 1 e.role.stageNumber ++ byteField e.persistence.code ++
      flagField e.enabled ++ flagField e.suppressed
  | none => flagField true ++ List.replicate 28 0xFF

/-- READ-WATCH (R129). -/
def takeReadWatch (s : State) : State :=
  let i := s.arg 2
  if 8 ≤ i then answer .refusedArgument s
  else
    completeCommand .done
      (watchField (s.watchAt i) ++ flagField (s.watch.hits.getLsbD i) ++ flagField s.watch.lock ++
        bitsField 2 s.watch.violations) s

def execReadWatch (s : State) : Host.Outcome State Fault Refusal := taking .readWatch takeReadWatch s

/-- TAKE-WATCH-HITS (R130). -/
def takeTakeWatchHits (s : State) : State :=
  completeCommand .done ([s.watch.hits] ++ optField 1 s.watch.lastStage) { s with watch := { s.watch with hits := 0 } }

def execTakeWatchHits (s : State) : Host.Outcome State Fault Refusal := taking .takeWatchHits takeTakeWatchHits s

/-- LOCK-WATCH (R131). -/
def takeLockWatch (s : State) : State := answer .done { s with watch := { s.watch with lock := true } }

def execLockWatch (s : State) : Host.Outcome State Fault Refusal := taking .lockWatch takeLockWatch s

/-! ## The watchdog and restarts -/

/-- Whether ARM-WATCHDOG's arguments are legal (R141, step 2). -/
def armArgsOk (period warn minimum : Nat) : Bool :=
  decide (10 ≤ period) && decide (period ≤ 65535) && decide (10 ≤ warn) && decide (warn ≤ 65535) &&
    decide (minimum ≤ period / 2)

/-- ARM-WATCHDOG (R141). -/
def takeArmWatchdog (s : State) : State :=
  underLock (fun s =>
    if !armArgsOk (s.arg 2) (s.arg 3) (s.arg 4) then answer .refusedArgument s
    else if (s.dog.state = .disarmed ∨ s.dog.state = .armed) ∧ s.dog.requestOut = false then
      answer .done (dogArm { s with dog := { s.dog with
        period := BitVec.ofNat 16 (s.arg 2)
        warnWindow := BitVec.ofNat 16 (s.arg 3)
        minInterval := BitVec.ofNat 16 (s.arg 4) } })
    else answer .refusedState s) s

def execArmWatchdog (s : State) : Host.Outcome State Fault Refusal := taking .armWatchdog takeArmWatchdog s

/-- DISARM-WATCHDOG (R142). -/
def takeDisarmWatchdog (s : State) : State :=
  underLock (fun s =>
    if s.settings.noDisarm then answer .refusedState s
    else if (s.dog.state = .armed ∨ s.dog.state = .warned) ∧ s.dog.requestOut = false then
      answer .done { s with dog := { s.dog with state := .disarmed, timer := .stopped } }
    else answer .refusedState s) s

def execDisarmWatchdog (s : State) : Host.Outcome State Fault Refusal := taking .disarmWatchdog takeDisarmWatchdog s

/-- RESTART (R152). -/
def takeRestartCommand (s : State) : State :=
  match s.arg 2 with
  | 0 => answer .done (sendRequest .command false none s)
  | 1 => answer .done (sendRequest .command true none s)
  | _ => answer .refusedArgument s

def execRestart (s : State) : Host.Outcome State Fault Refusal := taking .restart takeRestartCommand s

/-- One record of READ-RESTART (R146, R153; assumption log 18). A record whose frozen trace has been dropped says so in
the byte that tells whether it carries one; that the entry count after it is then 0 is the model's choice (assumption
log 33). -/
def recordField (r : Option RestartRecord) : List Byte :=
  match r with
  | some r =>
    flagField true ++ bitsField 2 r.number ++ byteField r.cause.code ++
      optField 1 (r.requested.map RestartKind.code) ++ byteField r.kind.code ++ bitsField 4 r.uptime ++
      bitsField 4 r.session ++ optField 1 r.lastStage ++ [r.warnings] ++ bitsField 2 r.uncorrectable ++ [r.hits] ++
      flagField r.trace.isSome ++ byteField (r.trace.getD []).length
  | none => flagField false ++ List.replicate 20 0xFF

/-- READ-RESTART (R153). -/
def takeReadRestart (s : State) : State :=
  if 8 ≤ s.arg 2 then answer .refusedArgument s
  else
    completeCommand .done
      (recordField s.restarts.history[s.arg 2]? ++ byteField s.restarts.history.length ++
        bitsField 2 s.restarts.total ++ byteField s.restarts.coldCount ++
        byteField s.restarts.escalation.length) s

def execReadRestart (s : State) : Host.Outcome State Fault Refusal := taking .readRestart takeReadRestart s

/-- One entry of READ-TRACE (R151, R154; assumption log 18). -/
def traceField (e : Option TraceEntry) : List Byte :=
  match e with
  | some e => le 4 e.offset ++ byteField e.count ++ byteField e.outcome.code ++ optField 1 e.window
  | none => List.replicate 7 0xFF

/-- The frozen trace of the newest record (R151, R154); with no record it has no entries (the model's choice, assumption
log 33). -/
def Restarts.frozen (r : Restarts) : List TraceEntry := (r.history.getLast?.bind (·.trace)).getD []

/-- The results of READ-TRACE from index `i` (R154). -/
def traceResults (r : Restarts) (i : Nat) : List Byte :=
  optField 2 (r.history.getLast?.map (·.number.toNat)) ++ byteField r.frozen.length ++
    byteField ((r.frozen.drop i).take 4).length ++
    (List.range 4).flatMap fun k => traceField r.frozen[i + k]?

/-- READ-TRACE (R154). -/
def takeReadTrace (s : State) : State :=
  if 16 ≤ s.arg 2 then answer .refusedArgument s else completeCommand .done (traceResults s.restarts (s.arg 2)) s

def execReadTrace (s : State) : Host.Outcome State Fault Refusal := taking .readTrace takeReadTrace s

/-! ## The keypad -/

/-- The key map entry a SET-KEY names, if its arguments are legal (R174). -/
def State.keyArgs (s : State) : Option KeyEntry := do
  let repeats ← boolOfCode (s.arg 4)
  let chordOnly ← boolOfCode (s.arg 5)
  if s.arg 2 < 64 ∧ s.arg 3 ≤ 255 then
    some { code := BitVec.ofNat 8 (s.arg 3), repeats := repeats, chordOnly := chordOnly }
  else none

/-- A key map entry replaced; a position that is no longer reportable is no longer announced (R174). -/
def placeKey (p : Nat) (e : KeyEntry) (s : State) : State :=
  let s := { s with keypad := { s.keypad with map := s.keypad.map.set p e } }
  if s.reportable p then s else setKeyPos p { s.key p with announced := false } s

/-- SET-KEY (R174). -/
def takeSetKey (s : State) : State :=
  match s.keyArgs with
  | some e => answer .done (placeKey (s.arg 2) e s)
  | none => answer .refusedArgument s

def execSetKey (s : State) : Host.Outcome State Fault Refusal := taking .setKey takeSetKey s

/-- The position states, two to a byte (R175, R198). -/
def stateBytes (s : State) : List Byte :=
  (List.range 32).map fun k =>
    BitVec.ofNat 8 ((s.key (2 * k)).state.code + 16 * (s.key (2 * k + 1)).state.code)

/-- The stuck mask, bit p for position p (R163, R198). -/
def stuckMask (s : State) : List Byte :=
  (List.range 8).map fun k =>
    (List.range 8).foldl (fun b j => if (s.key (8 * k + j)).state.masked then b ||| (1#8 <<< j) else b) 0

/-- A chord's working state: bits 0 to 3 as R198 names them; that bits 4 to 7 are 0 is the model's choice (assumption
log 38). -/
def chordByte (c : ChordRecord) : Byte :=
  BitVec.ofNat 8 ((if c.chord.enabled then 1 else 0) + (if c.counting then 2 else 0) + (if c.spent then 4 else 0) +
    (if c.awaited then 8 else 0))

/-- The stuck counts of 32 positions from `p` on (R175). -/
def stuckCounts (s : State) (p : Nat) : List Byte := (List.range 32).map fun k => (s.key (p + k)).stuckCount

/-- READ-KEYS (R175). -/
def takeReadKeys (s : State) : State :=
  match s.arg 2 with
  | 0 =>
    completeCommand .done
      (stateBytes s ++ stuckMask s ++ flagField s.keypad.coldDebounce ++
        (List.range 4).map fun i => chordByte (s.chord i)) s
  | 1 => completeCommand .done (stuckCounts s 0) s
  | 2 => completeCommand .done (stuckCounts s 32) s
  | _ => answer .refusedArgument s

def execReadKeys (s : State) : Host.Outcome State Fault Refusal := taking .readKeys takeReadKeys s

end Sys2Proof.Machine
end

