-- ==== Sys2Proof/Machine/Thermal.lean ====
section
/-! DEFINITION. The thermal unit's commands: the poll timer, a sensor's reply and a timeout (R90 to R99). -/

namespace Sys2Proof.Machine

/-- POLL_TIMER_EXPIRY (R90): the timer restarts and a round begins (assumption log 25). -/
def execPollTimerExpiry (s : State) : Host.Outcome State Fault Refusal :=
  match s.thermal.pollTimer with
  | .running _ =>
    .next (beginRound { s with thermal := { s.thermal with pollTimer := .running s.settings.sensorPeriod } })
  | _ => .next s

/-- Whether a reading lies within −55.0 °C to +125.0 °C (R90). -/
def readingInRange (t : Int) : Bool := decide (-110 ≤ t) && decide (t ≤ 250)

/-- A reply to the poll of channel `k` ends it: a reading within range is stored, any other is taken as a timeout
(R90, R91). -/
def takeReply (k : Nat) (t : Int) (s : State) : State :=
  if readingInRange t then pollEnds k (reportSoakFloor k t) (channelReply k t s) else pollTimesOut k s

/-- SENSOR_REPLY (R91): a reply is taken from the channel being polled alone (R90). -/
def execSensorReply (channel : Nat) (reading : BitVec 16) (s : State) : Host.Outcome State Fault Refusal :=
  if s.thermal.polling = some channel then .next (finish (takeReply channel reading.toInt s)) else .next s

/-- SENSOR_TIMEOUT (R91). -/
def execSensorTimeout (s : State) : Host.Outcome State Fault Refusal :=
  match s.thermal.polling with
  | some k => .next (finish (pollTimesOut k s))
  | none => .next s

end Sys2Proof.Machine
end

