-- ==== Sys2Proof/Machine/Dispatch.lean ====
section
/-! DEFINITION. One arm for each command. -/

namespace Sys2Proof.Machine

/-- The effect of a command on everything but the queue. -/
def exec (i : Instr) (s : State) : Host.Outcome State Fault Refusal :=
  match i with
  | .partPowerOn => Sys2Proof.Machine.execPartPowerOn s
  | .configReadReply data straps => Sys2Proof.Machine.execConfigReadReply data straps s
  | .configReadTimeout straps => Sys2Proof.Machine.execConfigReadTimeout straps s
  | .read offset mask => Sys2Proof.Machine.execRead offset mask s
  | .write offset mask data => Sys2Proof.Machine.execWrite offset mask data s
  | .lineRead offset => Sys2Proof.Machine.execLineRead offset s
  | .lineWrite offset data => Sys2Proof.Machine.execLineWrite offset data s
  | .frontReadAccessComplete flips => Sys2Proof.Machine.execFrontReadAccessComplete flips s
  | .frontMergeReadComplete flips => Sys2Proof.Machine.execFrontMergeReadComplete flips s
  | .frontWriteAccessComplete => Sys2Proof.Machine.execFrontWriteAccessComplete s
  | .watchWriteReport => Sys2Proof.Machine.execWatchWriteReport s
  | .watchReadReport => Sys2Proof.Machine.execWatchReadReport s
  | .refusedWriteReport => Sys2Proof.Machine.execRefusedWriteReport s
  | .ringSnoopReport => Sys2Proof.Machine.execRingSnoopReport s
  | .scrubIntervalExpiry => Sys2Proof.Machine.execScrubIntervalExpiry s
  | .fixPairReadComplete flips => Sys2Proof.Machine.execFixPairReadComplete flips s
  | .fixRewriteComplete => Sys2Proof.Machine.execFixRewriteComplete s
  | .sweepReadComplete flips => Sys2Proof.Machine.execSweepReadComplete flips s
  | .migrationReadComplete flips => Sys2Proof.Machine.execMigrationReadComplete flips s
  | .migrationWriteComplete => Sys2Proof.Machine.execMigrationWriteComplete s
  | .patternWriteComplete => Sys2Proof.Machine.execPatternWriteComplete s
  | .readBackComplete flips engineFirst => Sys2Proof.Machine.execReadBackComplete flips engineFirst s
  | .zeroWriteComplete => Sys2Proof.Machine.execZeroWriteComplete s
  | .prepRetryExpiry => Sys2Proof.Machine.execPrepRetryExpiry s
  | .checkRangeReadComplete flips => Sys2Proof.Machine.execCheckRangeReadComplete flips s
  | .pollTimerExpiry => Sys2Proof.Machine.execPollTimerExpiry s
  | .sensorReply channel reading => Sys2Proof.Machine.execSensorReply channel reading s
  | .sensorTimeout => Sys2Proof.Machine.execSensorTimeout s
  | .heatLimitExpiry => Sys2Proof.Machine.execHeatLimitExpiry s
  | .soakTimerExpiry => Sys2Proof.Machine.execSoakTimerExpiry s
  | .pulseTimerExpiry => Sys2Proof.Machine.execPulseTimerExpiry s
  | .offTimerExpiry => Sys2Proof.Machine.execOffTimerExpiry s
  | .ringHeaderWriteComplete => Sys2Proof.Machine.execRingHeaderWriteComplete s
  | .resetInputLevelChange active => Sys2Proof.Machine.execResetInputLevelChange active s
  | .resetInputEvent => Sys2Proof.Machine.execResetInputEvent s
  | .restartRequest which => Sys2Proof.Machine.execRestartRequest which s
  | .holdRelease which => Sys2Proof.Machine.execHoldRelease which s
  | .chordOutcome which => Sys2Proof.Machine.execChordOutcome which s
  | .bootLimitExpiry => Sys2Proof.Machine.execBootLimitExpiry s
  | .periodExpiry => Sys2Proof.Machine.execPeriodExpiry s
  | .warnWindowExpiry => Sys2Proof.Machine.execWarnWindowExpiry s
  | .scanSample contacts => Sys2Proof.Machine.execScanSample contacts s
  | .lampBlinkToggle => Sys2Proof.Machine.execLampBlinkToggle s
  | .commandFetchComplete flips => Sys2Proof.Machine.execCommandFetchComplete flips s
  | .completionWriteComplete => Sys2Proof.Machine.execCompletionWriteComplete s
  | .doneWriteComplete => Sys2Proof.Machine.execDoneWriteComplete s
  | .cmdWaitExpiry => Sys2Proof.Machine.execCmdWaitExpiry s
  | .diagWordReadComplete flips => Sys2Proof.Machine.execDiagWordReadComplete flips s
  | .diagWordWriteComplete => Sys2Proof.Machine.execDiagWordWriteComplete s
  | .eventEntryWordWriteComplete => Sys2Proof.Machine.execEventEntryWordWriteComplete s
  | .produceWriteComplete => Sys2Proof.Machine.execProduceWriteComplete s
  | .status => Sys2Proof.Machine.execStatus s
  | .setWindow => Sys2Proof.Machine.execSetWindow s
  | .clearWindow => Sys2Proof.Machine.execClearWindow s
  | .readWindow => Sys2Proof.Machine.execReadWindow s
  | .takeError => Sys2Proof.Machine.execTakeError s
  | .diagRead => Sys2Proof.Machine.execDiagRead s
  | .diagWrite => Sys2Proof.Machine.execDiagWrite s
  | .repairGroup => Sys2Proof.Machine.execRepairGroup s
  | .readRepairs => Sys2Proof.Machine.execReadRepairs s
  | .readThermal => Sys2Proof.Machine.execReadThermal s
  | .checkRange => Sys2Proof.Machine.execCheckRange s
  | .setWatch => Sys2Proof.Machine.execSetWatch s
  | .clearWatch => Sys2Proof.Machine.execClearWatch s
  | .readWatch => Sys2Proof.Machine.execReadWatch s
  | .takeWatchHits => Sys2Proof.Machine.execTakeWatchHits s
  | .lockWatch => Sys2Proof.Machine.execLockWatch s
  | .armWatchdog => Sys2Proof.Machine.execArmWatchdog s
  | .disarmWatchdog => Sys2Proof.Machine.execDisarmWatchdog s
  | .restart => Sys2Proof.Machine.execRestart s
  | .readRestart => Sys2Proof.Machine.execReadRestart s
  | .readTrace => Sys2Proof.Machine.execReadTrace s
  | .setKey => Sys2Proof.Machine.execSetKey s
  | .readKeys => Sys2Proof.Machine.execReadKeys s
  | .uptimeTick => Sys2Proof.Machine.execUptimeTick s
  | .sessionTimeTick => Sys2Proof.Machine.execSessionTimeTick s

end Sys2Proof.Machine
end

