-- ==== Sys2Proof/Safety.lean ====
section
/-! DEFINITION. The laws of the part: what the spec says holds at any time, each as a predicate on the state that every
step is meant to keep. -/

namespace Sys2Proof.Machine

/-- The law of the regime (R71): processor reset is asserted in every regime other than RUNNING, and board power is
on exactly in PREPARING, RELEASING, RUNNING and RESTARTING. -/
def State.regimeLaw (s : State) : Prop :=
  (s.ctl.processorReset = true ↔ s.ctl.regime ≠ .running) ∧
    (s.ctl.power = true ↔
      s.ctl.regime = .preparing ∨ s.ctl.regime = .releasing ∨ s.ctl.regime = .running ∨ s.ctl.regime = .restarting)

/-- While board power is off the contents are not valid, the port is free, and no work on the contents is held (R23,
R45, R64, R73). -/
def State.powerOffLaw (s : State) : Prop :=
  s.ctl.power = false →
    s.ctl.memValid = false ∧ s.port = none ∧ s.repair.migration = none ∧ s.repair.reservation = none ∧
      s.repair.requests = [] ∧ s.scrub.fixList = [] ∧ s.scrub.activity = .paused

/-- Whether a waiting request is for another group than the reserved one. -/
def clearOf (reserved : Option Nat) (w : Option Waiting) : Prop :=
  ∀ x, w = some x → reserved ≠ some (groupOf x.access.offset)

/-- The law of the reservation (R57): while a group is reserved, no front, mailbox, preparation or scrubber request
for it waits at the arbiter, so none is granted. -/
def State.reservationLaw (s : State) : Prop :=
  clearOf s.repair.reservation s.arbiter.front ∧ clearOf s.repair.reservation s.arbiter.mailbox ∧
    clearOf s.repair.reservation s.arbiter.prep ∧ clearOf s.repair.reservation s.arbiter.scrub

/-- The law of the watchdog (R135): it is SUSPENDED, its timer stopped and request out clear, whenever the regime is
other than RUNNING. -/
def State.dogLaw (s : State) : Prop :=
  s.ctl.regime ≠ .running → s.dog.state = .suspended ∧ s.dog.timer = .stopped ∧ s.dog.requestOut = false

/-- The law of the queue (R189): at most 32 entries, and no KEY entry while the regime is other than RUNNING. -/
def State.queueLaw (s : State) : Prop :=
  s.queue.length ≤ 32 ∧ (s.ctl.regime ≠ .running → ∀ n ∈ s.queue, n.body.isKey = false)

/-- What the error log tells errors apart by (R28). -/
def LogEntry.errorKey (e : LogEntry) : Nat × Location × Byte := (e.offset, e.loc, e.syndrome)

/-- The law of the log (R28): at most 8 entries, no two with the same offset, location and syndrome. -/
def State.logLaw (s : State) : Prop :=
  s.log.entries.length ≤ 8 ∧ (s.log.entries.map LogEntry.errorKey).Nodup

/-- The law of the budget (R99, R100): BOARD_DRAW fits the budget; the draw of the heaters that are on, with BOARD_DRAW
while board power is on, never exceeds it; no heater is on in LOADING or OVERHEAT. -/
def State.budgetLaw (s : State) : Prop :=
  s.settings.boardDraw ≤ s.settings.powerBudget ∧ s.activeDraw ≤ s.settings.powerBudget ∧
    (s.ctl.regime = .loading ∨ s.ctl.regime = .overheat →
      s.thermal.boardOutput = false ∧ s.thermal.panelOutput = false)

/-- The law of the repair table (R54, R55, R59): no two entries share a group or a slot, slots are 0 to 31, none of them
is spent, and the slot a migration has chosen is free. -/
def State.tableLaw (s : State) : Prop :=
  (s.repair.table.map (·.group)).Nodup ∧ (s.repair.table.map (·.slot)).Nodup ∧
    (∀ e ∈ s.repair.table, e.slot < 32 ∧ e.slot ∉ s.repair.spent) ∧
    (∀ m, s.repair.migration = some m → m.slot ∈ s.repair.free)

/-- The law of the keypad (R165, R168, R174): a position is announced only in RUNNING, only in DOWN or in RELEASING from
DOWN, and only while it is reportable, so never with CHORD-ONLY. -/
def State.keypadLaw (s : State) : Prop :=
  ∀ (p : Nat) (k : KeyPosition), s.keypad.positions[p]? = some k → k.announced = true →
    s.ctl.regime = .running ∧ (k.state = .down ∨ k.state = .releasing .down) ∧ s.reportable p = true

/-- Until the setting image is loaded, the regime is LOADING with no loaded copy (R71, R75, R196), and the escalation
state is as at part power-on (R147). -/
def State.unloadedLaw (s : State) : Prop :=
  s.loader.state ≠ .loaded →
    s.ctl.regime = .loading ∧ s.loader.loaded = none ∧ s.restarts.coldCount = 0 ∧ s.restarts.escalation = []

/-- The law of the history (R150): at most 8 records, the total is never less than their number, and the consecutive
cold count never exceeds COLD_LIMIT. With it the bounds of R147, at most ESCALATE_COUNT − 1 times in the escalation
record, and of R151, at most 16 trace entries and a frozen trace in the newest record alone. -/
def State.historyLaw (s : State) : Prop :=
  s.restarts.history.length ≤ 8 ∧ s.restarts.history.length ≤ s.restarts.total.toNat ∧
    s.restarts.coldCount ≤ s.settings.coldLimit ∧
    s.restarts.escalation.length ≤ s.settings.escalateCount - 1 ∧ s.unloadedLaw ∧
    s.trace.length ≤ 16 ∧ ∀ r ∈ s.restarts.history.dropLast, r.trace = none

/-- Two windows whose ranges share no offset. -/
def Window.apart (v w : Window) : Prop := v.base + v.size ≤ w.base ∨ w.base + w.size ≤ v.base

/-- A window whose fields are legal by themselves (R17). -/
def Window.legal (usable : Nat) (w : Window) : Prop :=
  (∃ k, w.size = 2 ^ k) ∧ 4096 ≤ w.size ∧ w.base % w.size = 0 ∧ w.base + w.size ≤ usable ∧
    (w.shielded = true → w.checkPolicy = .correct)

/-- The law of the window table (R17): 16 entries, each window legal, no two windows overlap, and each ring role is held
at most once. -/
def legalWindows (usable : Nat) (ws : List (Option Window)) : Prop :=
  ws.length = 16 ∧ (∀ w, some w ∈ ws → w.legal usable) ∧
    ∀ (i j : Nat) (v w : Window), i < j → ws[i]? = some (some v) → ws[j]? = some (some w) →
      v.apart w ∧ (v.ringRole = w.ringRole → v.ringRole = .none)

/-- The law of the window table, of the table in force and of the loaded copy's (R17, R22). -/
def State.windowsLaw (s : State) : Prop :=
  legalWindows s.usable s.windows ∧ legalWindows s.usable s.settings.windows

/-! ## What the commands are about -/

/-- The write access whose completion a command is (R23). -/
def completesWrite : Instr → Option Purpose
  | .frontWriteAccessComplete => some .frontWrite
  | .fixRewriteComplete => some .fixWrite
  | .migrationWriteComplete => some .migrationWrite
  | .patternWriteComplete => some .patternWrite
  | .zeroWriteComplete => some .zeroWrite
  | .ringHeaderWriteComplete => some .headerWrite
  | .completionWriteComplete => some .completionWrite
  | .doneWriteComplete => some .doneWrite
  | .diagWordWriteComplete => some .diagWrite
  | .eventEntryWordWriteComplete => some .entryWrite
  | .produceWriteComplete => some .produceWrite
  | _ => none

/-- The read access whose completion a command is, with the bits that have failed in the words read (R23). -/
def completesRead : Instr → Option (Purpose × List MemWord)
  | .frontReadAccessComplete flips => some (.frontRead, flips)
  | .frontMergeReadComplete flips => some (.frontMergeRead, flips)
  | .fixPairReadComplete flips => some (.fixRead, flips)
  | .sweepReadComplete flips => some (.sweepRead, flips)
  | .migrationReadComplete flips => some (.migrationRead, flips)
  | .readBackComplete flips _ => some (.readBack, flips)
  | .checkRangeReadComplete flips => some (.checkRead, flips)
  | .commandFetchComplete flips => some (.fetch, flips)
  | .diagWordReadComplete flips => some (.diagRead, flips)
  | _ => none

/-- The command of the command ring that an event is the taking of (R180, R198). -/
def commandOf : Instr → Option CommandCode
  | .status => some .status
  | .setWindow => some .setWindow
  | .clearWindow => some .clearWindow
  | .readWindow => some .readWindow
  | .takeError => some .takeError
  | .diagRead => some .diagRead
  | .diagWrite => some .diagWrite
  | .repairGroup => some .repairGroup
  | .readRepairs => some .readRepairs
  | .readThermal => some .readThermal
  | .checkRange => some .checkRange
  | .setWatch => some .setWatch
  | .clearWatch => some .clearWatch
  | .readWatch => some .readWatch
  | .takeWatchHits => some .takeWatchHits
  | .lockWatch => some .lockWatch
  | .armWatchdog => some .armWatchdog
  | .disarmWatchdog => some .disarmWatchdog
  | .restart => some .restart
  | .readRestart => some .readRestart
  | .readTrace => some .readTrace
  | .setKey => some .setKey
  | .readKeys => some .readKeys
  | _ => none

/-- A command of the command ring is handed over: the engine executes a record of its code (R180). -/
def State.handed (s : State) (c : CommandCode) : Prop := s.engine.state = .executing ∧ s.engine.work = .handed c

/-- Whether a write at an offset meets a part-owned header word of its window, in the terms of R8: the done index word of
the command ring header, the produce index word of the event ring header. -/
def meetsPartOwned (s : State) (o : Nat) (line : Bool) : Prop :=
  ∃ k w, s.windowAt o = some (k, w) ∧
    ((w.ringRole = .commandRing ∧ (if line then o = groupOf (w.base + 8) else o = w.base + 8)) ∨
      (w.ringRole = .eventRing ∧ (if line then o = groupOf w.base else o = w.base)))

/-- The place of a requester in the order of priority, 0 the highest (R24). -/
def Requester.rank : Requester → Nat
  | .repair => 0
  | .front => 1
  | .mailbox => 2
  | .prep => 3
  | .scrub => 4

end Sys2Proof.Machine
end

