-- ==== Sys2Proof/Certificates/Slice0/Obligations.lean ====
section
/-! DEFINITION. The statements about the part, for the provers. -/

open Sys2Proof Sys2Proof.Machine

/-! ## The block and its queue -/

/-- A step takes the command at the front of the queue and runs it on the state with the queue's rest; with an empty
queue the block idles (the model's choice, assumption log 1). -/
def Obligations.StepTakesFront : Prop :=
  (∀ (s : State) (c : Instr) (rest : List Instr), s.pending = c :: rest →
    step s = exec c { s with pending := rest }) ∧
  (∀ s : State, s.pending = [] → step s = .next s)

/-- PART_POWER_ON puts the part into its state right after part power-on whatever the state was, and that state has the
values that the spec gives it. That the queue of commands and the model's own two counters of free values do not return
to their reset values is the model's choice (assumption log 29). -/
def Obligations.PartPowerOn : Prop :=
  (∀ s : State, exec .partPowerOn s = .next { State.reset with
    pending := s.pending, memEpoch := s.memEpoch + 1, freeCount := s.freeCount }) ∧
  (let r := State.reset
   r.ctl.regime = .loading ∧ r.ctl.power = false ∧ r.ctl.processorReset = true ∧ r.ctl.memValid = false ∧
   r.ctl.heatLimit = .stopped ∧ r.ctl.soak = .stopped ∧ r.ctl.off = .stopped ∧ r.ctl.pulse = .stopped ∧
   r.ctl.sessionForced = false ∧ r.ctl.sessionDoubtful = false ∧
   r.clock.uptime = 0 ∧ r.clock.session = 0 ∧ r.lamp.error = false ∧ r.lamp.pattern = .slow ∧ r.lamp.lit = true ∧
   r.restarts = { history := [], total := 0, escalation := [], coldCount := 0 } ∧
   r.front = none ∧ r.windows = List.replicate 16 none ∧ r.port = none ∧
   (∀ q, r.arbiter.get q = none) ∧
   r.log = { entries := [], corrected := 0, reported := 0, uncorrectable := 0, overflow := 0, session := 0 } ∧
   r.scrub = { activity := .paused, fixList := [], position := 0, count := 0, due := false, timer := .stopped,
               inHand := none, cold := false } ∧
   r.repair.table = [] ∧ r.repair.spent = [] ∧ r.repair.requests = [] ∧ r.repair.migration = none ∧
   r.repair.reservation = none ∧ r.repair.completed = 0 ∧ r.repair.reRepaired = 0 ∧ r.repair.refused = 0 ∧
   r.repair.declined = 0 ∧ r.repair.dropped = 0 ∧ r.repair.abandoned = 0 ∧
   r.prep = { activity := .idle, pass := 0, position := 0, step := .patternWrite, wait := .groupWait,
              corrected := 0, uncorrectable := 0, retry := .stopped, range := none } ∧
   r.thermal.channels = List.replicate 4 { state := .unknown, reading := none, timeouts := 0, hotArmed := true } ∧
   r.thermal.pollTimer = .stopped ∧ r.thermal.boardDemand = false ∧ r.thermal.panelDemand = false ∧
   r.thermal.boardOutput = false ∧ r.thermal.panelOutput = false ∧
   r.watch = { entries := List.replicate 8 none, hits := 0, lastStage := none, senders := [], lock := false,
               violations := 0 } ∧
   r.dog.state = .suspended ∧ r.dog.timer = .stopped ∧ r.dog.reference = 0 ∧ r.dog.warnings = 0 ∧
   r.dog.requestOut = false ∧ r.trace = [] ∧
   (∀ p < 64, r.key p = { state := .up, countdown := 0, held := 0, repeatTime := 0, repeats := 0, announced := false,
                           stuckCount := 0 } ∧
              r.keyMap p = { code := 255, repeats := false, chordOnly := false }) ∧
   (∀ i < 4, (r.chord i).chord.enabled = false ∧ (r.chord i).counting = false ∧ (r.chord i).counter = 0 ∧
              (r.chord i).spent = false ∧ (r.chord i).awaited = false) ∧
   r.keypad.coldDebounce = true ∧ r.keypad.scanTimer = .stopped ∧
   r.engine.state = .idle ∧ r.engine.submit = 0 ∧ r.engine.done = 0 ∧
   r.events = { state := .unarmed, produce := 0, consume := 0 } ∧ r.attn = false ∧ r.queue = [] ∧ r.missed = 0 ∧
   r.loader = { state := .reading, buffer := [], loaded := none, defaultsFlag := false, partialFlag := false })

/-- The state at reset satisfies every law that the statements below say each step keeps. -/
def Obligations.ResetLawful : Prop :=
  State.reset.regimeLaw ∧ State.reset.powerOffLaw ∧ Memory.wf State.reset.mem = true ∧ State.reset.reservationLaw ∧
    State.reset.dogLaw ∧ State.reset.queueLaw ∧ State.reset.keypadLaw ∧ State.reset.logLaw ∧ State.reset.budgetLaw ∧
    State.reset.tableLaw ∧ State.reset.historyLaw ∧ State.reset.windowsLaw

/-! ## The memory port -/

/-- The completion of an access at the port. A write completion stores exactly the words of its access, from its address
on, so that every stored word reads back and every word outside reads as before; a read completion leaves memory as the
read leaves it, which is unchanged where no stored bit has failed. What a read gives: word k is the word stored at the
access's address plus 8·k, or the free value of a word that nothing has stored (assumption log 3), with the bits that
have failed inverted (an operand of the event, assumption log 4); memory then holds it so where bits have failed, and
reads as before everywhere else. An access outside the working memory stops the model (assumption log 16), and a
completion with no such access at the port changes nothing (assumption log 1). -/
def Obligations.AccessCompletes : Prop :=
  (∀ (c : Instr) (p : Purpose) (s : State) (a : Access), completesWrite c = some p → s.port = some a → a.purpose = p →
    (s.inMemory a = true → ∃ t, exec c s = .next t ∧
      (∀ x, x < s.accessAddress a ∨ s.accessAddress a + 8 * a.words.length ≤ x →
        Memory.read t.mem x = Memory.read s.mem x) ∧
      (∀ k < a.words.length, Memory.read t.mem (s.accessAddress a + 8 * k) = a.words[k]?)) ∧
    (s.inMemory a = false → exec c s = .fault .addressOutsideMemory)) ∧
  (∀ (c : Instr) (p : Purpose) (flips : List MemWord) (s : State) (a : Access),
    completesRead c = some (p, flips) → s.port = some a → a.purpose = p →
    (s.inMemory a = true → ∃ t, exec c s = .next t ∧
      t.mem = (readWords s.memEpoch flips (s.accessAddress a) a.count s.mem).2 ∧ (flips = [] → t.mem = s.mem)) ∧
    (s.inMemory a = false → exec c s = .fault .addressOutsideMemory)) ∧
  (∀ (c : Instr) (p : Purpose) (s : State), (completesWrite c = some p ∨ ∃ flips, completesRead c = some (p, flips)) →
    (∀ a, s.port = some a → a.purpose ≠ p) → exec c s = .next s) ∧
  (∀ (epoch : Nat) (flips : List MemWord) (a n : Nat) (m : Memory),
    let r := readWords epoch flips a n m
    let failed (k : Nat) : MemWord := flips.getD k { data := 0, check := 0 }
    let stored (k : Nat) : MemWord := (Memory.read m (a + 8 * k)).getD (undefinedAt epoch (a + 8 * k))
    r.1.length = n ∧
    (∀ k < n, r.1[k]? = some { data := (stored k).data ^^^ (failed k).data
                               check := (stored k).check ^^^ (failed k).check }) ∧
    (∀ k < n, failed k ≠ { data := 0, check := 0 } → Memory.read r.2 (a + 8 * k) = r.1[k]?) ∧
    (∀ x, (∀ k < n, x = a + 8 * k → failed k = { data := 0, check := 0 }) →
      Memory.read r.2 x = Memory.read m x))

/-- What the commands leave alone. No command changes the queue of the commands that wait, PART_POWER_ON included (the
model's choice, assumption log 29). Every command that completes no access leaves the contents of memory as they were,
unless it switches board power off or is part power-on, and then nothing defined is left (that the loss of board power
loses all contents is deduced, assumption log 5). -/
def Obligations.CommandsKeep : Prop :=
  (∀ (c : Instr) (s t : State), exec c s = .next t → t.pending = s.pending) ∧
  (∀ (c : Instr) (s t : State), completesWrite c = none → completesRead c = none → exec c s = .next t →
    t.mem = s.mem ∨ (t.mem = [] ∧ t.ctl.power = false))

/-- The arbiter's choice and its grant: a waiting request with a pass-over count of 16 or more goes first, the highest
count before the others and priority between equals; else the highest priority wins. The grant takes the request to the
port, clears it at the arbiter and adds one to every other waiting count; with the port busy or board power off, or
nothing waiting, there is none. At the block it goes to, the grant makes the migration COPY (R60), puts the front
transaction at step 7 (R3), records the user of the MAILBOX grant (R183), makes the preparation engine's wait ACCESS
(R106), and makes the scrubber's activity SWEEP-READ with the due flag cleared (R51), or else FIX-PAIR (R48); it changes
nothing else. The end of a step that can place a request or free the port: the mailbox unit's placing,
then one grant (that nothing comes between the two is deduced, assumption log 28). -/
def Obligations.ArbiterGrants : Prop :=
  (∀ (a : Arbiter) (r : Requester) (w : Waiting), a.pick = some (r, w) →
    a.get r = some w ∧
    (∀ r' w', a.get r' = some w' → 16 ≤ w'.passed → 16 ≤ w.passed) ∧
    (16 ≤ w.passed → ∀ r' w', a.get r' = some w' →
      w'.passed < w.passed ∨ (w'.passed = w.passed ∧ r.rank ≤ r'.rank)) ∧
    (w.passed < 16 → ∀ r' w', a.get r' = some w' → r.rank ≤ r'.rank)) ∧
  (∀ a : Arbiter, a.pick = none → ∀ r, a.get r = none) ∧
  (∀ (s : State) (r : Requester) (w : Waiting), s.port = none → s.ctl.power = true → s.arbiter.pick = some (r, w) →
    let g : State := { s with port := some w.access, arbiter := (grant s).arbiter }
    (grant s).port = some w.access ∧ (grant s).arbiter.get r = none ∧
    (∀ r', r' ≠ r → (grant s).arbiter.get r' = (s.arbiter.get r').map fun x => { x with passed := x.passed + 1 }) ∧
    (r = .repair → grant s =
      { g with repair := { s.repair with migration := s.repair.migration.map fun m => { m with copying := true } } }) ∧
    (r = .front → grant s = { g with front := s.front.map fun x => { x with phase := .access } }) ∧
    (r = .mailbox → grant s = { g with lastUser := w.access.purpose.user }) ∧
    (r = .prep → grant s = { g with prep := { s.prep with wait := .access } }) ∧
    (r = .scrub → w.access.purpose = .sweepRead →
      grant s = { g with scrub := { s.scrub with activity := .sweepRead, due := false } }) ∧
    (r = .scrub → w.access.purpose ≠ .sweepRead →
      grant s = { g with scrub := { s.scrub with activity := .fixPair } })) ∧
  (∀ s : State, s.port.isSome = true ∨ s.ctl.power = false ∨ s.arbiter.pick = none → grant s = s) ∧
  (∀ s : State, finish s = grant (mailboxPlace s))

/-! ## Start-up -/

/-- The config link (R192, R193): a request left without an answer loads the built-in defaults with MEMSIZE from the
straps; bytes that do not yet complete the header or the image wait in the buffer; a header or a sum that is wrong loads
the defaults; a whole image that passes is validated and loaded. A header is acceptable when its length is even and from
808 to 2,048 and its layout version is 2; the sum is the ones'-complement sum of the image's 16-bit units, and must be
0xFFFF. The straps give 4, 8, 16, 32 and 64 MiB for 0 to 4, and 4 MiB above (R194). The built-in defaults: every setting
at its default (R200), no window and no watch entry, the default channels (R89) and key map (R164), no chord enabled.
Only a part that is still reading takes a reply or a timeout; that any other is left unchanged by them is the model's
choice (assumption log 1), as is that a reply's bytes may come in any pieces (assumption log 7). -/
def Obligations.ConfigLink : Prop :=
  (∀ (s : State) (straps : BitVec 3), s.loader.state = .reading →
    exec (.configReadTimeout straps) s = .next (finish (loadComplete (builtIn straps.toNat) true false s))) ∧
  (∀ (s : State) (data : List Byte) (straps : BitVec 3), s.loader.state = .reading →
    let b := (s.loader.buffer ++ data).take 2048
    let s' : State := { s with loader := { s.loader with buffer := b } }
    (b.length < 8 ∨ (headerOk b = true ∧ b.length < imageLength b) →
      exec (.configReadReply data straps) s = .next (finish s')) ∧
    (8 ≤ b.length → headerOk b = false ∨ (imageLength b ≤ b.length ∧ checksumOk b = false) →
      exec (.configReadReply data straps) s = .next (finish (loadComplete (builtIn straps.toNat) true false s'))) ∧
    (8 ≤ b.length → headerOk b = true → imageLength b ≤ b.length → checksumOk b = true →
      exec (.configReadReply data straps) s =
        .next (finish (loadComplete (validate b straps.toNat).1 false (validate b straps.toNat).2 s')))) ∧
  (∀ (s : State) (data : List Byte) (straps : BitVec 3), s.loader.state ≠ .reading →
    exec (.configReadTimeout straps) s = .next s ∧ exec (.configReadReply data straps) s = .next s) ∧
  (∀ b : List Byte,
    let byte (o : Nat) : Nat := (b.getD o 0).toNat
    let length := byte 0 + 256 * byte 1
    let units := (List.range (length / 2)).map fun k => byte (2 * k) + 256 * byte (2 * k + 1)
    let sum := units.foldl (fun acc u => if 65536 ≤ acc + u then acc + u - 65535 else acc + u) 0
    imageLength b = length ∧
    (headerOk b = true ↔ length % 2 = 0 ∧ 808 ≤ length ∧ length ≤ 2048 ∧ byte 2 = 2 ∧ byte 3 = 0) ∧
    (headerOk b = true → length ≤ b.length → (checksumOk b = true ↔ sum = 0xFFFF))) ∧
  (List.range 8).map memSizeOfCode = [4, 8, 16, 32, 64, 4, 4, 4].map (· * 1048576) ∧
  (∀ straps : Nat,
    let v := builtIn straps
    let channel (role : ChannelRole) : ChannelSettings :=
      { role := role, release := 0, target := 10, warnHot := 140, critical := 170, resume := 120 }
    v.memSize = memSizeOfCode straps ∧
    [v.repairThreshold, v.scrubInterval, v.sensorPeriod, v.heatLimit, v.offTime, v.soakTime, v.restartPulse,
     v.powerBudget, v.boardDraw, v.boardHeaterDraw, v.panelHeaterDraw, v.prepPasses, v.prepCorrectedLimit,
     v.prepRetryDelay] = [3, 1000, 500, 30, 5, 120, 100, 60, 25, 30, 15, 2, 8, 30] ∧
    [v.bootLimit, v.period, v.warnWindow, v.minInterval, v.bootStage, v.escalateCount, v.escalateSpan, v.coldLimit] =
      [120, 1000, 500, 0, 1, 3, 10, 2] ∧
    [v.rows, v.cols, v.scanPeriod, v.debounce, v.debounceCold, v.stuckTime, v.cmdRingSlots, v.eventRingEntries,
     v.repeatDelay, v.repeatInterval, v.cmdWaitLimit] = [4, 4, 8, 3, 8, 60, 16, 64, 500, 100, 100] ∧
    [v.coldScrub, v.maintainTemp, v.keyCold, v.releaseHyst] = [-20, 10, -30, 6] ∧
    v.autoArm = false ∧ v.noDisarm = false ∧ v.lockTrip = false ∧
    v.channels = [channel .board, channel .memory, channel .panel, channel .disabled] ∧
    v.windows = List.replicate 16 none ∧ v.watches = List.replicate 8 none ∧
    v.keys = ((List.range 64).map fun p =>
      { code := if p / 8 < 4 ∧ p % 8 < 4 then BitVec.ofNat 8 p else 255, repeats := false, chordOnly := false }) ∧
    v.chords.length = 4 ∧ ∀ c ∈ v.chords, c.enabled = false)

/-- The end of LOADING (R75, R22, R90, R118, R156, R164, R169, R196): the loaded copy and its flags are in place, the
tables are those of the copy, polling and scanning have started, and the regime is HEATING. -/
def Obligations.LoadingEnds : Prop :=
  ∀ (s : State) (loaded : Settings) (defaults isPartial : Bool), s.ctl.regime = .loading → s.thermal.readiness = false →
    let t := loadComplete loaded defaults isPartial s
    t.loader.state = .loaded ∧ t.loader.loaded = some loaded ∧ t.loader.defaultsFlag = defaults ∧
    t.loader.partialFlag = isPartial ∧ t.windows = loaded.windows ∧ t.watch.entries = loaded.watches ∧
    t.watch.hits = 0 ∧ t.keypad.map = loaded.keys ∧ t.keypad.chords.map (·.chord) = loaded.chords ∧
    t.keypad.scanTimer = .running loaded.scanPeriod ∧ t.thermal.pollTimer = .running loaded.sensorPeriod ∧
    t.thermal.polling = (List.range 4).find? (fun k =>
      match loaded.channels[k]? with
      | some c => decide (c.role ≠ .disabled)
      | none => false) ∧
    t.ctl.regime = .heating ∧ t.ctl.processorReset = true ∧ t.ctl.power = false ∧
    t.ctl.heatLimit = .running loaded.heatLimit ∧ t.ctl.pendingForced = false ∧ t.ctl.pendingDoubtful = false

/-- Whatever bytes an accepted image holds, the loaded copy obeys the spec's rules: the power settings fit, MIN_INTERVAL
is at most half of PERIOD, every window is legal and none overlap, a kept ring fits in its window, and every channel
that is not DISABLED has thresholds in their order. And it holds what the image gives (R195, R200): each global field,
at its offset, is the image's value where that lies in the field's range, and else its default, with PARTIAL set;
MIN_INTERVAL, POWER_BUDGET, BOARD_DRAW and the ring sizes by their own rules; the channels, windows, watch entries, key
map entries and chords are those of their places in the image. A window is kept exactly where it is legal and agrees
with those kept before it. PARTIAL is clear exactly where every field, threshold and entry is legal and no window or
watch entry was dropped. (A window whose yes/no byte is neither 0 nor 1 is dropped: deduced, assumption log 23; disabled
chords are checked like enabled ones: deduced, assumption log 24.) -/
def Obligations.LoadedCopyLegal : Prop :=
  (∀ (b : List Byte) (straps : Nat),
    let v := (validate b straps).1
    v.boardDraw ≤ v.powerBudget ∧ v.minInterval ≤ v.period / 2 ∧ legalWindows (v.memSize - 2048) v.windows ∧
    (∀ w, ringIn v.windows .commandRing = some w → 64 * (1 + v.cmdRingSlots) ≤ w.size) ∧
    (∀ w, ringIn v.windows .eventRing = some w → 64 + 32 * v.eventRingEntries ≤ w.size) ∧
    (∀ c ∈ v.channels, c.role ≠ .disabled →
      c.release ≤ c.critical ∧ c.target ≤ c.critical ∧ c.warnHot ≤ c.critical ∧ c.resume < c.critical)) ∧
  (∀ (b : List Byte) (straps : Nat),
    let v := (validate b straps).1
    let isPartial := (validate b straps).2
    let u8 (o : Nat) : Nat := (b.getD o 0).toNat
    let u16 (o : Nat) : Nat := u8 o + 256 * u8 (o + 1)
    let temp (o : Nat) : Int := (BitVec.ofNat 16 (u16 o)).toInt
    -- the image's value, the least and the greatest value, the default, and the loaded value
    let fields : List (Nat × Nat × Nat × Nat × Nat) :=
      [(u8 9, 2, 15, 3, v.repairThreshold), (u16 10, 50, 65535, 1000, v.scrubInterval),
       (u16 14, 100, 1000, 500, v.sensorPeriod), (u8 16, 1, 120, 30, v.heatLimit), (u8 17, 1, 30, 5, v.offTime),
       (u16 18, 1, 600, 120, v.soakTime), (u16 20, 10, 1000, 100, v.restartPulse),
       (u8 22, 1, 40, 6, v.releaseHyst.toNat), (u8 27, 1, 255, 30, v.boardHeaterDraw),
       (u8 28, 1, 255, 15, v.panelHeaterDraw), (u8 29, 1, 4, 2, v.prepPasses), (u8 30, 0, 255, 8, v.prepCorrectedLimit),
       (u16 32, 1, 600, 30, v.prepRetryDelay), (u16 34, 1, 600, 120, v.bootLimit)] ++
      [(u16 36, 10, 65535, 1000, v.period), (u16 38, 10, 65535, 500, v.warnWindow), (u8 42, 0, 1, 0, v.autoArm.toNat),
       (u8 43, 0, 1, 0, v.noDisarm.toNat), (u8 44, 0, 1, 0, v.lockTrip.toNat), (u8 45, 1, 15, 1, v.bootStage),
       (u8 46, 2, 8, 3, v.escalateCount), (u8 47, 1, 60, 10, v.escalateSpan), (u8 48, 1, 8, 2, v.coldLimit),
       (u8 49, 1, 8, 4, v.rows), (u8 50, 1, 8, 4, v.cols), (u8 51, 2, 16, 8, v.scanPeriod),
       (u8 52, 2, 15, 3, v.debounce), (u8 53, 2, 15, 8, v.debounceCold), (u8 56, 5, 255, 60, v.stuckTime),
       (u16 60, 100, 2000, 500, v.repeatDelay), (u16 62, 20, 1000, 100, v.repeatInterval),
       (u16 64, 10, 1000, 100, v.cmdWaitLimit)]
    let temps : List (Int × Int × Int) :=
      [(temp 12, -20, v.coldScrub), (temp 24, 10, v.maintainTemp), (temp 54, -30, v.keyCold)]
    let budget := if 1 ≤ u8 23 then u8 23 else 60
    let draw := if 1 ≤ u8 26 then u8 26 else 25
    let small (role : RingRole) (bytes : Nat) : Prop := ∃ w, ringIn v.windows role = some w ∧ w.size < bytes
    let slots := if u8 57 ∈ [8, 16, 32, 64] then u8 57 else 16
    let entries := if u16 58 ∈ [16, 32, 64, 128, 256] then u16 58 else 64
    (∀ f ∈ fields,
      (f.2.1 ≤ f.1 ∧ f.1 ≤ f.2.2.1 → f.2.2.2.2 = f.1) ∧
      (¬ (f.2.1 ≤ f.1 ∧ f.1 ≤ f.2.2.1) → f.2.2.2.2 = f.2.2.2.1 ∧ isPartial = true)) ∧
    (∀ f ∈ temps,
      (-110 ≤ f.1 ∧ f.1 ≤ 250 → f.2.2 = f.1) ∧ (¬ (-110 ≤ f.1 ∧ f.1 ≤ 250) → f.2.2 = f.2.1 ∧ isPartial = true)) ∧
    (u8 8 ≤ 4 → v.memSize = memSizeOfCode (u8 8)) ∧ (4 < u8 8 → v.memSize = memSizeOfCode straps) ∧
    (4 < u8 8 → u8 8 ≠ 255 → isPartial = true) ∧
    (u16 40 ≤ v.period / 2 → v.minInterval = u16 40) ∧
    (v.period / 2 < u16 40 → v.minInterval = 0 ∧ isPartial = true) ∧
    (draw ≤ budget → v.powerBudget = budget ∧ v.boardDraw = draw) ∧
    (budget < draw → v.powerBudget = 60 ∧ v.boardDraw = (if draw ≤ 60 then draw else 25) ∧ isPartial = true) ∧
    (u8 23 = 0 ∨ u8 26 = 0 ∨ u8 57 ∉ [8, 16, 32, 64] ∨ u16 58 ∉ [16, 32, 64, 128, 256] → isPartial = true) ∧
    (¬ small .commandRing (64 * (1 + slots)) → v.cmdRingSlots = slots) ∧
    (small .commandRing (64 * (1 + slots)) → v.cmdRingSlots = 16 ∧ isPartial = true) ∧
    (¬ small .eventRing (64 + 32 * entries) → v.eventRingEntries = entries) ∧
    (small .eventRing (64 + 32 * entries) → v.eventRingEntries = 64 ∧ isPartial = true) ∧
    -- PARTIAL, with threshold `j` of channel `k`: release, target, warn hot, critical and resume
    (let threshold (k j : Nat) : Int := temp (74 + 16 * k + 2 * j)
     let channelLegal (k : Nat) : Prop := u8 (72 + 16 * k) ≤ 4 ∧
      (∀ j < 5, -110 ≤ threshold k j ∧ threshold k j ≤ 250) ∧
      (u8 (72 + 16 * k) = 0 ∨ (threshold k 0 ≤ threshold k 3 ∧ threshold k 1 ≤ threshold k 3 ∧
        threshold k 2 ≤ threshold k 3 ∧ threshold k 4 < threshold k 3))
     let members (k : Nat) : List Nat := (List.range (u8 (778 + 8 * k))).map fun j => u8 (779 + 8 * k + j)
     let chordLegal (k : Nat) : Prop := u8 (776 + 8 * k) ≤ 1 ∧ u8 (777 + 8 * k) ≤ 3 ∧
      (u8 (778 + 8 * k) = 2 ∨ u8 (778 + 8 * k) = 3) ∧ (members k).Nodup ∧
      (∀ p ∈ members k, p / 8 < v.rows ∧ p % 8 < v.cols) ∧ 5 ≤ u16 (782 + 8 * k) ∧ u16 (782 + 8 * k) ≤ 100
     let double (k : Nat) : Prop := u8 (776 + 8 * k) = 1 ∧ ∃ j < k, ∃ x, v.chords[j]? = some x ∧ x.enabled = true ∧
      ∀ p, p ∈ x.members ↔ p ∈ members k
     isPartial = false ↔
      (∀ f ∈ fields, f.2.1 ≤ f.1 ∧ f.1 ≤ f.2.2.1) ∧ (∀ f ∈ temps, -110 ≤ f.1 ∧ f.1 ≤ 250) ∧
      (u8 8 ≤ 4 ∨ u8 8 = 255) ∧ u16 40 ≤ v.period / 2 ∧ 1 ≤ u8 23 ∧ 1 ≤ u8 26 ∧ u8 26 ≤ u8 23 ∧
      u8 57 ∈ [8, 16, 32, 64] ∧ u16 58 ∈ [16, 32, 64, 128, 256] ∧
      ¬ small .commandRing (64 * (1 + slots)) ∧ ¬ small .eventRing (64 + 32 * entries) ∧
      (∀ k < 4, channelLegal k) ∧
      (∀ k < 16, v.windows[k]? = some none → u16 (140 + 16 * k) + 65536 * u16 (142 + 16 * k) = 0) ∧
      (∀ k < 8, v.watches[k]? = some none → u8 (396 + 32 * k) = 0) ∧
      (∀ p < 64, u8 (649 + 2 * p) ≤ 3) ∧ (∀ k < 4, chordLegal k ∧ ¬ double k))) ∧
  (∀ (b : List Byte) (straps : Nat),
    let v := (validate b straps).1
    let isPartial := (validate b straps).2
    let u8 (o : Nat) : Nat := (b.getD o 0).toNat
    let u16 (o : Nat) : Nat := u8 o + 256 * u8 (o + 1)
    let u32 (o : Nat) : Nat := u16 o + 65536 * u16 (o + 2)
    let within (t d : Int) : Int := if -110 ≤ t ∧ t ≤ 250 then t else d
    let temp (o : Nat) (d : Int) : Int := within (BitVec.ofNat 16 (u16 o)).toInt d
    v.channels.length = 4 ∧ v.windows.length = 16 ∧ v.watches.length = 8 ∧ v.keys.length = 64 ∧ v.chords.length = 4 ∧
    (∀ (k : Nat) (c : ChannelSettings), v.channels[k]? = some c →
      let o := 72 + 16 * k
      let image : ChannelSettings :=
        { role := c.role, release := temp (o + 2) 0, target := temp (o + 4) 10, warnHot := temp (o + 6) 140,
          critical := temp (o + 8) 170, resume := temp (o + 10) 120 }
      let ordered : Prop := image.release ≤ image.critical ∧ image.target ≤ image.critical ∧
        image.warnHot ≤ image.critical ∧ image.resume < image.critical
      (u8 o ≤ 4 → c.role.code = u8 o) ∧ (4 < u8 o → c.role = defaultRole k ∧ isPartial = true) ∧
      (c.role = .disabled ∨ ordered → c = image) ∧
      (c.role ≠ .disabled → ¬ ordered → c = { defaultChannel k with role := c.role } ∧ isPartial = true)) ∧
    (∀ (k : Nat) (e : Option Window), v.windows[k]? = some e →
      let o := 136 + 16 * k
      let legal : Prop := (∃ n, u32 (o + 4) = 2 ^ n) ∧ 4096 ≤ u32 (o + 4) ∧ u32 o % u32 (o + 4) = 0 ∧
        u32 o + u32 (o + 4) ≤ v.memSize - 2048 ∧ u8 (o + 8) ≤ 2 ∧ u8 (o + 9) ≤ 1 ∧ u8 (o + 10) ≤ 2 ∧
        u8 (o + 11) ≤ 1 ∧ u8 (o + 12) ≤ 1 ∧ ¬ (u8 (o + 12) = 1 ∧ u8 (o + 9) = 1)
      let agrees : Prop := ∀ j < k, ∀ x, v.windows[j]? = some (some x) →
        (x.base + x.size ≤ u32 o ∨ u32 o + u32 (o + 4) ≤ x.base) ∧
        (u8 (o + 10) = 0 ∨ x.ringRole.code ≠ u8 (o + 10))
      (legal ∧ agrees → ∃ w, e = some w ∧ w.base = u32 o ∧ w.size = u32 (o + 4) ∧ w.writePolicy.code = u8 (o + 8) ∧
        w.checkPolicy.code = u8 (o + 9) ∧ w.ringRole.code = u8 (o + 10) ∧
        w.poisonRestart.toNat = u8 (o + 11) ∧ w.shielded.toNat = u8 (o + 12)) ∧
      (¬ (legal ∧ agrees) → e = none ∧ (u32 (o + 4) ≠ 0 → isPartial = true))) ∧
    (∀ (k : Nat) (e : Option WatchEntry), v.watches[k]? = some e →
      let o := 392 + 32 * k
      let length := u8 (o + 4)
      let legal : Prop := length ∈ [1, 2, 4, 8, 16, 32, 64] ∧ u32 o % length = 0 ∧ u32 o + length ≤ v.memSize - 2048 ∧
        u8 (o + 5) ≤ 2 ∧ u8 (o + 6) ≤ 1 ∧ u8 (o + 7) ≤ 3 ∧ (u8 (o + 7) = 1 → 1 ≤ u8 (o + 8) ∧ u8 (o + 8) ≤ 15) ∧
        u8 (o + 9) ≤ 1 ∧ (u8 (o + 6) = 1 → length ≤ 8 ∧ u8 (o + 5) = 0)
      (legal → ∃ w, e = some w ∧ w.base = u32 o ∧ w.length = length ∧ w.access.code = u8 (o + 5) ∧
        w.role.code = u8 (o + 7) ∧ (u8 (o + 7) = 1 → w.role = .stage (u8 (o + 8))) ∧ w.persistence = .standing ∧
        w.enabled.toNat = u8 (o + 9) ∧ w.suppressed = false ∧ (u8 (o + 6) = 0 → w.dataMatch = none) ∧
        (u8 (o + 6) = 1 → ∃ d, w.dataMatch = some d ∧ ∀ j < 8,
          (wordByte d.value j).toNat = (if j < length then u8 (o + 16 + j) else 0) ∧
          (wordByte d.mask j).toNat = (if j < length then u8 (o + 24 + j) else 0))) ∧
      (¬ legal → e = none ∧ (length ≠ 0 → isPartial = true))) ∧
    (∀ (p : Nat) (e : KeyEntry), v.keys[p]? = some e →
      let flags := u8 (649 + 2 * p)
      (flags ≤ 3 → e.code.toNat = u8 (648 + 2 * p) ∧ (e.repeats = true ↔ flags = 1 ∨ flags = 3) ∧
        (e.chordOnly = true ↔ flags = 2 ∨ flags = 3)) ∧
      (3 < flags → e.repeats = false ∧ e.chordOnly = false ∧ isPartial = true ∧
        e.code.toNat = if p / 8 < 4 ∧ p % 8 < 4 then p else 255)) ∧
    (∀ (k : Nat) (c : Chord), v.chords[k]? = some c →
      let o := 776 + 8 * k
      let members := (List.range (u8 (o + 2))).map fun j => u8 (o + 3 + j)
      let legal : Prop := u8 o ≤ 1 ∧ u8 (o + 1) ≤ 3 ∧ (u8 (o + 2) = 2 ∨ u8 (o + 2) = 3) ∧ members.Nodup ∧
        (∀ p ∈ members, p / 8 < v.rows ∧ p % 8 < v.cols) ∧ 5 ≤ u16 (o + 6) ∧ u16 (o + 6) ≤ 100
      let double : Prop := u8 o = 1 ∧ ∃ j < k, ∃ x, v.chords[j]? = some x ∧ x.enabled = true ∧
        ∀ p, p ∈ x.members ↔ p ∈ members
      (legal → c.members = members ∧ c.hold = 100 * u16 (o + 6) ∧ c.action.code = u8 (o + 1)) ∧
      (legal → ¬ double → c.enabled.toNat = u8 o) ∧ (legal → double → c.enabled = false ∧ isPartial = true) ∧
      (¬ legal → c.enabled = false ∧ isPartial = true)))

/-! ## The front port -/

/-- R4: a transaction at or above the usable size is refused with OUT-OF-RANGE. Neither the window table nor the repair
unit enters into the outcome, whatever they hold. A READ or LINE-READ gives no report; a write's report goes to the
restart supervisor alone, matches no watch entry, and is traced with its outcome and no window. The usable size is a
whole number of groups. (That a transaction is taken only in RUNNING is the model's, assumption log 13.) -/
def Obligations.FrontOutOfRange : Prop :=
  (∀ s : State, s.ctl.regime = .running → s.front = none →
    (∀ (o : BitVec 32) (mask : Byte), s.usable ≤ wordOffset o.toNat →
      exec (.read o mask) s = .next { s with frontResponse := some (.refused .outOfRange) }) ∧
    (∀ o : BitVec 32, s.usable ≤ groupOf o.toNat →
      exec (.lineRead o) s = .next { s with frontResponse := some (.refused .outOfRange) }) ∧
    (∀ (o : BitVec 32) (mask : Byte) (d : Word), s.usable ≤ wordOffset o.toNat →
      exec (.write o mask d) s = .next { s with
        frontResponse := some (.refused .outOfRange)
        watchReports := s.watchReports ++ [{ kind := .refused .outOfRange, line := false, offset := wordOffset o.toNat,
                                             mask := mask, words := [], window := none }] }) ∧
    (∀ (o : BitVec 32) (d : BitVec 512), s.usable ≤ groupOf o.toNat →
      exec (.lineWrite o d) s = .next { s with
        frontResponse := some (.refused .outOfRange)
        watchReports := s.watchReports ++ [{ kind := .refused .outOfRange, line := true, offset := groupOf o.toNat,
                                             mask := 0xFF, words := [], window := none }] })) ∧
  (∀ (e : WatchEntry) (r : FrontReport), r.kind = .refused .outOfRange → e.matched r = false) ∧
  (∀ (s : State) (r : FrontReport) (rest : List FrontReport), s.ctl.regime = .running → s.watchReports = r :: rest →
    r.kind = .refused .outOfRange →
    exec .refusedWriteReport s = .next { s with
      watchReports := rest
      trace := s.trace.drop (s.trace.length - 15) ++
        [{ offset := r.offset, count := if r.line then 64 else maskCount r.mask, outcome := .refused .outOfRange,
           window := r.window }] }) ∧
  (∀ code o : Nat, (memSizeOfCode code - 2048) % 64 = 0 ∧
    (groupOf o < memSizeOfCode code - 2048 ↔ groupOf o + 64 ≤ memSizeOfCode code - 2048))

/-- A READ or LINE-READ in range (R1, R3, R5, R6, R9): on a reserved group it waits with no request; else it is
classified and its access is asked for at the location the redirect gives. The redirect of every access (R7, R56): a
group that has a repair entry is accessed at the entry's slot, MEMSIZE − 2048 + 64·n for slot n, each word at its place
in the group, and any other group at its own offset. The classification (R6): the fields of the window that holds the
offset, or ALLOW, CORRECT and no ring role in none. -/
def Obligations.FrontReads : Prop :=
  (∀ s : State, s.ctl.regime = .running → s.front = none →
    (∀ (o : BitVec 32) (mask : Byte),
      let a := wordOffset o.toNat
      a < s.usable →
      (s.repair.reservation = some (groupOf a) →
        exec (.read o mask) s = .next { s with
          front := some { kind := .read, offset := a, mask := mask, words := [], phase := .reserveWait,
                          classification := none } }) ∧
      (s.repair.reservation ≠ some (groupOf a) →
        exec (.read o mask) s = .next (finish (place (s.accessAt .front .frontRead false a [])
          { s with front := some { kind := .read, offset := a, mask := mask, words := [], phase := .requested,
                                   classification := some (s.classify a) } })))) ∧
    (∀ o : BitVec 32,
      let a := groupOf o.toNat
      a < s.usable →
      (s.repair.reservation = some (groupOf a) →
        exec (.lineRead o) s = .next { s with
          front := some { kind := .lineRead, offset := a, mask := 0xFF, words := [], phase := .reserveWait,
                          classification := none } }) ∧
      (s.repair.reservation ≠ some (groupOf a) →
        exec (.lineRead o) s = .next (finish (place (s.accessAt .front .frontRead true a [])
          { s with front := some { kind := .lineRead, offset := a, mask := 0xFF, words := [], phase := .requested,
                                   classification := some (s.classify a) } }))))) ∧
  (∀ (s : State) (r : Requester) (p : Purpose) (line : Bool) (o : Nat) (ws : List MemWord),
    let a := s.accessAt r p line o ws
    a.requester = r ∧ a.purpose = p ∧ a.line = line ∧ a.offset = o ∧ a.words = ws ∧ a.discarded = false ∧
    (∀ (older newer : List RepairEntry) (e : RepairEntry), s.repair.table = older ++ e :: newer →
      e.group = groupOf o → (∀ x ∈ older, x.group ≠ groupOf o) →
      a.loc = .spare e.slot ∧
      s.accessAddress a = s.settings.memSize - 2048 + 64 * e.slot + (o - groupOf o)) ∧
    ((∀ e ∈ s.repair.table, e.group ≠ groupOf o) → a.loc = .home ∧ s.accessAddress a = o)) ∧
  (∀ (s : State) (o : Nat),
    let holds (w : Window) : Prop := w.base ≤ o ∧ o < w.base + w.size
    (∀ (k : Nat) (w : Window), s.windows[k]? = some (some w) → holds w →
      (∀ j < k, ∀ v, s.windows[j]? = some (some v) → ¬ holds v) →
      s.policyAt o = w.checkPolicy ∧
      s.classify o = { window := some k, writePolicy := w.writePolicy, checkPolicy := w.checkPolicy,
                       ringRole := w.ringRole, poisonRestart := w.poisonRestart }) ∧
    ((∀ w, some w ∈ s.windows → ¬ holds w) →
      s.policyAt o = .correct ∧
      s.classify o = { window := none, writePolicy := .allow, checkPolicy := .correct, ringRole := .none,
                       poisonRestart := false }))

/-- A WRITE or LINE-WRITE in range that step 5 passes (R1, R3, R5, R8, R9): on a reserved group it waits; a whole-word
write, a partial write and a line write ask for their access, the words to be stored made with check bits; an empty
write makes no access, is answered DONE and is reported for the trace. -/
def Obligations.FrontWrites : Prop :=
  ∀ s : State, s.ctl.regime = .running → s.front = none →
    (∀ (o : BitVec 32) (mask : Byte) (d : Word),
      let a := wordOffset o.toNat
      a < s.usable →
      (s.repair.reservation = some (groupOf a) →
        exec (.write o mask d) s = .next { s with
          front := some { kind := .write, offset := a, mask := mask, words := [d], phase := .reserveWait,
                          classification := none } }) ∧
      (s.repair.reservation ≠ some (groupOf a) → (s.classify a).writePolicy = .allow →
        (mask = 0 →
          exec (.write o mask d) s = .next (finish { s with
            frontResponse := some .done
            watchReports := s.watchReports ++ [{ kind := .emptyWrite, line := false, offset := a, mask := mask,
                                                 words := [], window := (s.classify a).window }] })) ∧
        (mask ≠ 0 → ¬ meetsPartOwned s a false →
          exec (.write o mask d) s = .next (finish (place
            (if mask = 0xFF then s.accessAt .front .frontWrite false a [made d]
              else s.accessAt .front .frontMergeRead false a [])
            { s with front := some { kind := .write, offset := a, mask := mask, words := [d], phase := .requested,
                                     classification := some (s.classify a) } }))))) ∧
    (∀ (o : BitVec 32) (d : BitVec 512),
      let a := groupOf o.toNat
      a < s.usable →
      (s.repair.reservation = some (groupOf a) →
        exec (.lineWrite o d) s = .next { s with
          front := some { kind := .lineWrite, offset := a, mask := 0xFF, words := lineWords d, phase := .reserveWait,
                          classification := none } }) ∧
      (s.repair.reservation ≠ some (groupOf a) → (s.classify a).writePolicy = .allow → ¬ meetsPartOwned s a true →
        exec (.lineWrite o d) s = .next (finish (place
          (s.accessAt .front .frontWrite true a ((lineWords d).map made))
          { s with front := some { kind := .lineWrite, offset := a, mask := 0xFF, words := lineWords d,
                                   phase := .requested, classification := some (s.classify a) } }))))

/-- A write that step 5 refuses (R8, R16): by its window's policy, or for a byte of a part-owned header word. It is
answered REFUSED with POLICY, reported for the trace, makes no access, and with REFUSE-TRIP sends one GUARD-TRIP
request, once even where both checks refuse it. -/
def Obligations.FrontWriteRefused : Prop :=
  ∀ s : State, s.ctl.regime = .running → s.front = none →
    (∀ (o : BitVec 32) (mask : Byte) (d : Word),
      let a := wordOffset o.toNat
      a < s.usable → s.repair.reservation ≠ some (groupOf a) →
      ((s.classify a).writePolicy ≠ .allow ∨ (mask ≠ 0 ∧ meetsPartOwned s a false)) →
      exec (.write o mask d) s = .next (finish { s with
        frontResponse := some (.refused .policy)
        watchReports := s.watchReports ++ [{ kind := .refused .policy, line := false, offset := a, mask := mask,
                                             words := [], window := (s.classify a).window }]
        requests := if (s.classify a).writePolicy = .refuseTrip then
            s.requests ++ [{ cause := .guardTrip, cold := false, chord := none }] else s.requests })) ∧
    (∀ (o : BitVec 32) (d : BitVec 512),
      let a := groupOf o.toNat
      a < s.usable → s.repair.reservation ≠ some (groupOf a) →
      ((s.classify a).writePolicy ≠ .allow ∨ meetsPartOwned s a true) →
      exec (.lineWrite o d) s = .next (finish { s with
        frontResponse := some (.refused .policy)
        watchReports := s.watchReports ++ [{ kind := .refused .policy, line := true, offset := a, mask := 0xFF,
                                             words := [], window := (s.classify a).window }]
        requests := if (s.classify a).writePolicy = .refuseTrip then
            s.requests ++ [{ cause := .guardTrip, cold := false, chord := none }] else s.requests }))

/-- The completion of a front read (R10, R11, R14, R15): each word is formed by its outcome and the transaction's check
policy; words that are not clean go to the error log and single errors under CORRECT to the fix list; the response and
the read report are given; a poisoned word under poison restart sends one POISON request. A discarded read gives neither
response, report nor request; that its transaction stays in the front port, its access marked discarded, until the
access ends is deduced (assumption log 14). The detections of any read's words (R27): one for each word that is not
clean, in ascending order of offset, with its front offset, the access's location, its syndrome, the source, and its
severity by the check policy of its offset; the words offered to the fix list are those with a single error under
CORRECT (R10, R52, R114). The error log takes the detections one after another, first to last. -/
def Obligations.FrontReadCompletes : Prop :=
  (∀ (s : State) (flips : List MemWord) (a : Access) (t : FrontTxn) (c : Classification),
    s.port = some a → a.purpose = .frontRead → s.inMemory a = true → s.front = some t → t.classification = some c →
    let r := readWords s.memEpoch flips (s.accessAddress a) a.count s.mem
    let s1 := offerFixes (fixesOf (fun _ => c.checkPolicy) a r.1)
      (detectAll (detectionsOf .frontRead (fun _ => c.checkPolicy) a r.1) { s with port := none, mem := r.2 })
    let words := r.1.map (formed c.checkPolicy)
    exec (.frontReadAccessComplete flips) s = .next (finish
      (if a.discarded then { s1 with front := none }
        else { s1 with
          front := none
          frontResponse := some (.data words)
          watchReports := s1.watchReports ++ [{ kind := .read, line := t.kind.isLine, offset := t.offset,
                                                mask := t.mask, words := [], window := c.window }]
          requests := if c.poisonRestart = true ∧ ∃ x ∈ words, x.2 = true then
              s1.requests ++ [{ cause := .poison, cold := false, chord := none }] else s1.requests }))) ∧
  (∀ (source : Source) (policy : Nat → CheckPolicy) (a : Access) (ws : List MemWord),
    let word (k : Nat) : MemWord := ws.getD k (made 0)
    let place (k : Nat) : Nat := a.offset + 8 * k
    detectionsOf source policy a ws = ((List.range ws.length).filter fun k => decide (decode (word k) ≠ .clean)).map
      (fun k =>
        { offset := place k, loc := a.loc, syndrome := (word k).check ^^^ checkBits (word k).data, source := source,
          severity := if decode (word k) = .uncorrectable then .uncorrectable
            else if policy (place k) = .report then .reported else .corrected }) ∧
    fixesOf policy a ws = ((List.range ws.length).filter fun k =>
        decide (decode (word k) ≠ .clean ∧ decode (word k) ≠ .uncorrectable ∧ policy (place k) = .correct)).map
      (fun k => { offset := place k, loc := a.loc })) ∧
  (∀ (d : Detection) (ds : List Detection) (s : State),
    detectAll [] s = s ∧ detectAll (d :: ds) s = detectAll ds (detect d s))

/-- The completion of the read half of a partial write (R13, R14, R16): its detection goes to the error log with source
FRONT-MERGE and no fix request; an uncorrectable word ends the pair with REFUSED MERGE-FAILED and the report for the
trace, and is not written; any other word is merged, byte by byte, into the word as the check unit offers it, and the
write of the merged word follows under the same grant. That a discarded transaction stays in the front port, its access
marked discarded, until the access ends is deduced (assumption log 14). -/
def Obligations.FrontMergeReadCompletes : Prop :=
  ∀ (s : State) (flips : List MemWord) (a : Access) (t : FrontTxn) (c : Classification) (d : Word),
    s.port = some a → a.purpose = .frontMergeRead → a.line = false → s.inMemory a = true → s.front = some t →
    t.kind = .write → t.words = [d] → t.classification = some c →
    let r := readWord s.memEpoch (flips.headD noFlip) (s.accessAddress a) s.mem
    let s1 := detectAll (detectionsOf .frontMerge (fun _ => c.checkPolicy) a [r.1]) { s with port := none, mem := r.2 }
    (decode r.1 = .uncorrectable →
      exec (.frontMergeReadComplete flips) s = .next (finish
        (if a.discarded then { s1 with front := none }
          else { s1 with
            front := none
            frontResponse := some (.refused .mergeFailed)
            watchReports := s1.watchReports ++ [{ kind := .refused .mergeFailed, line := false, offset := t.offset,
                                                  mask := t.mask, words := [], window := c.window }] }))) ∧
    (decode r.1 ≠ .uncorrectable →
      exec (.frontMergeReadComplete flips) s = .next (finish
        { s1 with port := some { a with
            purpose := .frontWrite, words := [made (merge t.mask d (offered r.1))] } })) ∧
    (∀ (mask : Byte) (new old : Word) (k : Nat), k < 8 →
      wordByte (merge mask new old) k = if mask.getLsbD k then wordByte new k else wordByte old k)

/-- The completion of a front write (R12, R14, R15): the words are in memory, the places they cover are no longer
carried, DONE is given, and the words as they now stand are reported to the restart supervisor and to the mailbox unit;
a discarded write gives neither, and its transaction stays in the front port, its access marked discarded, until the
access ends (deduced, assumption log 14). The carried places (R63): a write at HOME and a write of raw check bits, which
is a DIAG-WRITE, or a migration's own write, change nothing; any other write at a slot takes the places it covers, and
no other, from the carried places of that slot's entry, and leaves every other entry and all else as it was. -/
def Obligations.FrontWriteCompletes : Prop :=
  (∀ (s : State) (a : Access) (t : FrontTxn) (c : Classification),
    s.port = some a → a.purpose = .frontWrite → s.inMemory a = true → s.front = some t → t.classification = some c →
    let s1 := clearCarried a { s with port := none, mem := writeWords a.words (s.accessAddress a) s.mem }
    let r : FrontReport := { kind := .write, line := t.kind.isLine, offset := t.offset, mask := t.mask,
                             words := a.words.map (·.data), window := c.window }
    exec .frontWriteAccessComplete s = .next (finish
      (if a.discarded then { s1 with front := none }
        else { s1 with
          front := none
          frontResponse := some .done
          watchReports := s1.watchReports ++ [r]
          snoopReports := s1.snoopReports ++ [r] }))) ∧
  (∀ (s : State) (a : Access),
    let covered (k : Nat) : Prop := a.line = true ∨ k = a.offset % 64 / 8
    let checksMade : Prop := a.purpose ≠ .diagWrite ∧ a.purpose ≠ .migrationWrite
    let t := clearCarried a s
    (a.loc = .home ∨ ¬ checksMade → t = s) ∧
    (∀ n, a.loc = .spare n → checksMade →
      t = { s with repair := { s.repair with table := t.repair.table } } ∧
      t.repair.table.length = s.repair.table.length ∧
      ∀ (i : Nat) (e : RepairEntry), s.repair.table[i]? = some e →
        ∃ left : Byte, t.repair.table[i]? = some { e with carried := left } ∧ (e.slot ≠ n → left = e.carried) ∧
          (e.slot = n → ∀ k < 8, left.getLsbD k = true ↔ e.carried.getLsbD k = true ∧ ¬ covered k)))

/-! ## The check unit and the error log -/

/-- The check code (R25, R26): a word stored with made check bits decodes clean; one flipped bit is named and corrected;
two flipped bits are always uncorrectable; of the 256 syndromes 1 is clean, 8 name a check bit, 64 a data bit and 183
are uncorrectable. A DATA response's word follows from the outcome and the check policy, with its poison mark (R10). -/
def Obligations.CheckCode : Prop :=
  (∀ w : Word, decode (made w) = .clean ∧ offered (made w) = w) ∧ checkBits 0 = 0 ∧
  (∀ (w : Word) (j : Nat), j < 64 →
    decode { made w with data := w ^^^ (1#64 <<< j) } = .dataBit j ∧
    offered { made w with data := w ^^^ (1#64 <<< j) } = w) ∧
  (∀ (w : Word) (i : Nat), i < 8 →
    decode { made w with check := checkBits w ^^^ (1#8 <<< i) } = .checkBit i ∧
    offered { made w with check := checkBits w ^^^ (1#8 <<< i) } = w) ∧
  (∀ (w : Word) (i j : Nat), i < j → j < 64 →
    decode { made w with data := w ^^^ (1#64 <<< i) ^^^ (1#64 <<< j) } = .uncorrectable) ∧
  (∀ (w : Word) (i j : Nat), i < 64 → j < 8 →
    decode { data := w ^^^ (1#64 <<< i), check := checkBits w ^^^ (1#8 <<< j) } = .uncorrectable) ∧
  (∀ (w : Word) (i j : Nat), i < j → j < 8 →
    decode { made w with check := checkBits w ^^^ (1#8 <<< i) ^^^ (1#8 <<< j) } = .uncorrectable) ∧
  (let all := (List.range 256).map (BitVec.ofNat 8)
   (all.filter fun x => decide (outcomeOf x = .clean)).length = 1 ∧
   (all.filter fun x => (List.range 8).any fun i => decide (outcomeOf x = .checkBit i)).length = 8 ∧
   (all.filter fun x => (List.range 64).any fun j => decide (outcomeOf x = .dataBit j)).length = 64 ∧
   (all.filter fun x => decide (outcomeOf x = .uncorrectable)).length = 183) ∧
  (∀ w : MemWord,
    (decode w = .clean → ∀ p, formed p w = (w.data, false)) ∧
    (∀ i, decode w = .checkBit i → formed .correct w = (w.data, false) ∧ formed .report w = (w.data, true)) ∧
    (∀ j, decode w = .dataBit j →
      formed .correct w = (w.data ^^^ (1#64 <<< j), false) ∧ formed .report w = (w.data, true)) ∧
    (decode w = .uncorrectable → ∀ p, formed p w = (w.data, true)))

/-- What a detection does to the error log (R28 to R33, R35). It counts in its severity's total whatever becomes of it.
Where an entry has its offset, location and syndrome, it coalesces: nothing more with the rewritten flag clear, else the
repeat count rises, saturating, and the flag clears. Else it is appended while there is room; in a full log an
UNCORRECTABLE or REPORTED one displaces the oldest CORRECTED entry; any other is refused and counts as overflow. A
repair request for the word's group is sent for an UNCORRECTABLE entry as it is entered, and where coalescing brings a
repeat count to REPAIR_THRESHOLD in an entry that has sent none, whose flag is then set (R32); an UNCORRECTABLE or
REPORTED entry queues one ERROR notice, after its repair request (R33). A repair request (R58) is dropped and counted
while board power is off, absorbed where the group is pending, dropped and counted where the list holds 4, and else
appended, and the next migration starts if one can. -/
def Obligations.DetectionLogged : Prop :=
  (∀ (d : Detection) (s : State),
    let t := detect d s
    let fresh : LogEntry :=
      { offset := d.offset, loc := d.loc, syndrome := d.syndrome, severity := d.severity, source := d.source,
        repeats := 1, rewritten := false, repairRequested := decide (d.severity = .uncorrectable),
        uptime := s.clock.uptime, temperature := s.roleReading .memory, regime := s.ctl.regime }
    let same := s.log.entries.find? fun e => decide (e.offset = d.offset ∧ e.loc = d.loc ∧ e.syndrome = d.syndrome)
    t.log.corrected = (if d.severity = .corrected then satInc s.log.corrected else s.log.corrected) ∧
    t.log.reported = (if d.severity = .reported then satInc s.log.reported else s.log.reported) ∧
    t.log.uncorrectable = (if d.severity = .uncorrectable then satInc s.log.uncorrectable else s.log.uncorrectable) ∧
    t.log.session = (if d.severity = .uncorrectable ∧ s.ctl.regime = .running then satInc s.log.session
      else s.log.session) ∧
    (d.severity = .uncorrectable ∧ s.ctl.regime = .running → t.lamp.error = true) ∧
    (∀ e, same = some e → e.rewritten = false → t.log.entries = s.log.entries ∧ t.queue = s.queue ∧
      t.repair = s.repair ∧ t.log.overflow = s.log.overflow) ∧
    (∀ e, same = some e → e.rewritten = true → t.log.overflow = s.log.overflow ∧
      t.log.entries.length = s.log.entries.length ∧
      ∃ e' ∈ t.log.entries, e'.errorKey = e.errorKey ∧ e'.repeats = satInc e.repeats ∧ e'.rewritten = false ∧
        e'.severity = e.severity ∧ e'.source = e.source ∧ e'.uptime = e.uptime ∧ e'.temperature = e.temperature ∧
        e'.regime = e.regime) ∧
    (same = none → s.log.entries.length < 8 → t.log.entries = s.log.entries ++ [fresh] ∧
      t.log.overflow = s.log.overflow) ∧
    (same = none → 8 ≤ s.log.entries.length →
      (d.severity = .corrected ∨ (∀ e ∈ s.log.entries, e.severity ≠ .corrected) →
        t.log.entries = s.log.entries ∧ t.log.overflow = satInc s.log.overflow ∧ t.queue = s.queue ∧
        t.repair = s.repair) ∧
      (d.severity ≠ .corrected → ∀ (older newer : List LogEntry) (e : LogEntry),
        s.log.entries = older ++ e :: newer → e.severity = .corrected → (∀ x ∈ older, x.severity ≠ .corrected) →
        t.log.entries = older ++ newer ++ [fresh] ∧ t.log.overflow = s.log.overflow))) ∧
  (∀ (d : Detection) (s : State),
    let t := detect d s
    let fresh : LogEntry :=
      { offset := d.offset, loc := d.loc, syndrome := d.syndrome, severity := d.severity, source := d.source,
        repeats := 1, rewritten := false, repairRequested := decide (d.severity = .uncorrectable),
        uptime := s.clock.uptime, temperature := s.roleReading .memory, regime := s.ctl.regime }
    let same (e : LogEntry) : Prop := e.offset = d.offset ∧ e.loc = d.loc ∧ e.syndrome = d.syndrome
    let seen : Prop := d.severity = .uncorrectable ∧ s.ctl.regime = .running
    let logged (entries : List LogEntry) : State := { s with
      log := { entries := entries, overflow := s.log.overflow
               corrected := if d.severity = .corrected then satInc s.log.corrected else s.log.corrected
               reported := if d.severity = .reported then satInc s.log.reported else s.log.reported
               uncorrectable := if d.severity = .uncorrectable then satInc s.log.uncorrectable
                 else s.log.uncorrectable
               session := if seen then satInc s.log.session else s.log.session }
      lamp := if seen then (lampUpdate { s with lamp := { s.lamp with error := true } }).lamp else s.lamp }
    let notice (x : State) : State := queueNotice
      (.error d.offset d.loc d.syndrome d.severity d.source (decide (d.severity = .uncorrectable))) x
    let entered (older : List LogEntry) : Prop :=
      (d.severity = .corrected → t = logged (older ++ [fresh])) ∧
      (d.severity = .reported → t = notice (logged (older ++ [fresh]))) ∧
      (d.severity = .uncorrectable → t = notice (offerRepair (groupOf d.offset) (logged (older ++ [fresh]))))
    ((∀ e ∈ s.log.entries, ¬ same e) →
      (s.log.entries.length < 8 → entered s.log.entries) ∧
      (8 ≤ s.log.entries.length → d.severity ≠ .corrected → ∀ (older newer : List LogEntry) (e : LogEntry),
        s.log.entries = older ++ e :: newer → e.severity = .corrected → (∀ x ∈ older, x.severity ≠ .corrected) →
        entered (older ++ newer))) ∧
    (∀ (older newer : List LogEntry) (e : LogEntry), s.log.entries = older ++ e :: newer → same e →
      (∀ x ∈ older, ¬ same x) → e.rewritten = true →
      let n := satInc e.repeats
      let reached : Prop := n ≠ e.repeats ∧ n.toNat = s.settings.repairThreshold ∧ e.repairRequested = false
      let counted : LogEntry := { e with repeats := n, rewritten := false }
      (reached → t = offerRepair (groupOf d.offset)
        (logged (older ++ { counted with repairRequested := true } :: newer))) ∧
      (¬ reached → t = logged (older ++ counted :: newer)))) ∧
  (∀ (g : Nat) (s : State),
    let pending : Prop := g ∈ s.repair.requests ∨ ∃ m, s.repair.migration = some m ∧ m.group = g
    let dropped : State := { s with repair := { s.repair with dropped := satInc s.repair.dropped } }
    (s.ctl.power = false → offerRepair g s = dropped) ∧
    (s.ctl.power = true → pending → offerRepair g s = s) ∧
    (s.ctl.power = true → ¬ pending → 4 ≤ s.repair.requests.length → offerRepair g s = dropped) ∧
    (s.ctl.power = true → ¬ pending → s.repair.requests.length < 4 → offerRepair g s =
      nextMigration { s with repair := { s.repair with requests := s.repair.requests ++ [g] } }))

/-! ## Reports: the restart supervisor and the mailbox unit -/

/-- The taking of a report by the restart supervisor (R16, R119, R151): in RUNNING a write report is traced and acted
on, an empty write is traced alone, a read report is acted on and not traced, a refused write is traced alone; in any
other regime the report is discarded. The trace keeps the last 16. -/
def Obligations.ReportsTaken : Prop :=
  ∀ (s : State) (r : FrontReport) (rest : List FrontReport), s.watchReports = r :: rest →
    let s0 : State := { s with watchReports := rest }
    let traced (outcome : TraceOutcome) : State := { s0 with
      trace := s.trace.drop (s.trace.length - 15) ++
        [{ offset := r.offset, count := if r.line then 64 else maskCount r.mask, outcome := outcome, window := r.window }] }
    (s.ctl.regime = .running →
      (r.kind = .write → exec .watchWriteReport s = .next (actOn r (traced .done))) ∧
      (r.kind = .emptyWrite → exec .watchWriteReport s = .next (traced .done)) ∧
      (r.kind = .read → exec .watchReadReport s = .next (actOn r s0)) ∧
      (∀ why, r.kind = .refused why → exec .refusedWriteReport s = .next (traced (.refused why)))) ∧
    (s.ctl.regime ≠ .running →
      (r.kind = .write ∨ r.kind = .emptyWrite → exec .watchWriteReport s = .next s0) ∧
      (r.kind = .read → exec .watchReadReport s = .next s0) ∧
      (∀ why, r.kind = .refused why → exec .refusedWriteReport s = .next s0))

/-- When a report matches an entry (R120, R121): by access and overlap without a data match; with one, by a write that
covers the whole range and agrees with the value in every bit of the mask. -/
def Obligations.ReportMatches : Prop :=
  (∀ (r : FrontReport) (b : Nat), r.concerns b = true ↔
    (if r.line then r.offset ≤ b ∧ b < r.offset + 64
      else r.offset ≤ b ∧ b < r.offset + 8 ∧ r.mask.getLsbD (b - r.offset) = true)) ∧
  (∀ (e : WatchEntry) (r : FrontReport), e.dataMatch = none → (e.matched r = true ↔
    ((r.kind = .write ∧ e.access ≠ .read) ∨ (r.kind = .read ∧ e.access ≠ .write)) ∧
      ∃ b, e.base ≤ b ∧ b < e.base + e.length ∧ r.concerns b = true)) ∧
  (∀ (e : WatchEntry) (r : FrontReport) (d : DataMatch), e.dataMatch = some d → e.access = .write →
    (e.matched r = true ↔ r.kind = .write ∧
      ∀ k < e.length, r.concerns (e.base + k) = true ∧
        ∀ j < 8, (wordByte d.mask k).getLsbD j = true →
          (r.byteAt (e.base + k)).getLsbD j = (wordByte d.value k).getLsbD j))

/-- What the matches of one report do (R122 to R125, R139): every matched entry's hit flag is set, enabled or not; the
last stage reached becomes the highest stage of the enabled STAGE entries matched; one TRIP-WATCH request is sent if an
enabled, unsuppressed TRIP entry matched, and just those entries join the trip senders; a boot-stage hit clears the
consecutive cold count and every suppressed flag, and nothing else of the entries or of the restart records; without one
both stay as they were. The watchdog takes one watch signal, whose kick is whether an enabled KICK entry matched and
whose boot stage is whether an enabled STAGE entry of BOOT_STAGE did (R123); what a signal does is WatchSignals. Nothing
else changes, the watch lock and the count of violations included. -/
def Obligations.ReportActs : Prop :=
  ∀ (r : FrontReport) (s : State), s.watch.entries.length = 8 →
    let t := actOn r s
    let hit (k : Nat) (e : WatchEntry) : Prop := s.watch.entries[k]? = some (some e) ∧ e.matched r = true
    let stage (n : Nat) : Prop := ∃ k e, hit k e ∧ e.enabled = true ∧ e.role = .stage n
    let trip (k : Nat) : Prop := ∃ e, hit k e ∧ e.enabled = true ∧ e.role = .trip ∧ e.suppressed = false
    (∀ k < 8, t.watch.hits.getLsbD k = true ↔ s.watch.hits.getLsbD k = true ∨ ∃ e, hit k e) ∧
    ((∀ n, ¬ stage n) → t.watch.lastStage = s.watch.lastStage) ∧
    (∀ n, stage n → (∀ m, stage m → m ≤ n) → t.watch.lastStage = some n) ∧
    (∀ k, k ∈ t.watch.senders ↔ k ∈ s.watch.senders ∨ trip k) ∧
    ((∀ k, ¬ trip k) → t.watch.senders = s.watch.senders) ∧
    t.watch.lock = s.watch.lock ∧ t.watch.violations = s.watch.violations ∧
    ((∃ k, trip k) → ∃ more, t.requests = s.requests ++ { cause := .tripWatch, cold := false, chord := none } :: more) ∧
    ((∀ k, ¬ trip k) → ∀ q ∈ t.requests, q ∈ s.requests ∨ q.cause = .earlyKick) ∧
    (stage s.settings.bootStage → t.restarts = { s.restarts with coldCount := 0 } ∧
      t.watch.entries = s.watch.entries.map fun entry => entry.map fun e => { e with suppressed := false }) ∧
    (¬ stage s.settings.bootStage → t.watch.entries = s.watch.entries ∧ t.restarts = s.restarts) ∧
    (∀ kick boot : Bool, (kick = true ↔ ∃ k e, hit k e ∧ e.enabled = true ∧ e.role = .kick) →
      (boot = true ↔ stage s.settings.bootStage) →
      let signalled := dogSignal kick boot s
      t.dog = signalled.dog ∧
      (∀ sent, signalled.requests = s.requests ++ sent →
        ((∃ k, trip k) → t.requests = s.requests ++ { cause := .tripWatch, cold := false, chord := none } :: sent) ∧
        ((∀ k, ¬ trip k) → t.requests = s.requests ++ sent))) ∧
    t = { s with watch := t.watch, restarts := t.restarts, dog := t.dog, requests := t.requests }

/-- A watch signal at the watchdog (R136 to R139): a boot-stage hit arms it in BOOTING and nothing else does; a kick in
ARMED restarts the period, or is early and sends EARLY-KICK; a kick in WARNED arms it with no early test; with request
out set, in DISARMED and in SUSPENDED a signal has no effect. -/
def Obligations.WatchSignals : Prop :=
  ∀ (kick boot : Bool) (s : State),
    let armed : State := { s with dog := { s.dog with
      state := .armed, timer := .period s.dog.period.toNat, reference := s.clock.session } }
    let early : Prop := s.dog.minInterval ≠ 0 ∧
      s.clock.session.toNat - s.dog.reference.toNat < s.dog.minInterval.toNat
    (s.dog.requestOut = true → dogSignal kick boot s = s) ∧
    (s.dog.state = .disarmed ∨ s.dog.state = .suspended → dogSignal kick boot s = s) ∧
    (s.dog.requestOut = false →
      (s.dog.state = .booting → boot = true → dogSignal kick boot s = armed) ∧
      (s.dog.state = .booting → boot = false → dogSignal kick boot s = s) ∧
      (s.dog.state = .armed → kick = true → early → dogSignal kick boot s = { s with
        dog := { s.dog with requestOut := true, timer := .stopped }
        requests := s.requests ++ [{ cause := .earlyKick, cold := false, chord := none }] }) ∧
      (s.dog.state = .armed → kick = true → ¬ early → dogSignal kick boot s = armed) ∧
      (s.dog.state = .armed → kick = false → dogSignal kick boot s = s) ∧
      (s.dog.state = .warned → kick = true → dogSignal kick boot s = armed) ∧
      (s.dog.state = .warned → kick = false → dogSignal kick boot s = s))

/-- The snooping of a write report (R178, R186): in RUNNING a report acts through the header words of the rings that
exist whose bytes it includes, in any other regime it is discarded; and what a submit write, a ready write and a consume
write with value V do. -/
def Obligations.RingSnoops : Prop :=
  (∀ (s : State) (r : FrontReport) (rest : List FrontReport), s.snoopReports = r :: rest →
    (s.ctl.regime = .running →
      exec .ringSnoopReport s = .next (finish (snoop r { s with snoopReports := rest }))) ∧
    (s.ctl.regime ≠ .running → exec .ringSnoopReport s = .next { s with snoopReports := rest })) ∧
  (∀ (s : State) (r : FrontReport),
    let touches (role : RingRole) (place : Nat) (v : Nat) : Prop := ∃ w, s.ring role = some w ∧
      (∃ k < 8, r.concerns (w.base + place + k) = true) ∧
      v = (r.words.getD ((w.base + place - r.offset) / 8) 0).toNat
    ((∀ v, ¬ touches .commandRing 0 v) → (∀ v, ¬ touches .eventRing 16 v) → (∀ v, ¬ touches .eventRing 8 v) →
      snoop r s = s) ∧
    (∀ v, touches .commandRing 0 v → (∀ v, ¬ touches .eventRing 16 v) → (∀ v, ¬ touches .eventRing 8 v) →
      snoop r s = submitWrite v s) ∧
    (∀ v, (∀ v, ¬ touches .commandRing 0 v) → touches .eventRing 16 v → (∀ v, ¬ touches .eventRing 8 v) →
      snoop r s = readyWrite v s) ∧
    (∀ v, (∀ v, ¬ touches .commandRing 0 v) → (∀ v, ¬ touches .eventRing 16 v) → touches .eventRing 8 v →
      snoop r s = consumeWrite v s)) ∧
  (∀ (v : Nat) (s : State),
    let n := s.settings.cmdRingSlots
    let inHand : Prop := s.engine.state ≠ .idle ∧ s.engine.state ≠ .faulted
    let far : Nat := indexDistance n s.engine.done v
    (s.engine.state = .faulted → v = s.engine.done →
      submitWrite v s = { s with engine := { s.engine with submit := v, state := .idle } }) ∧
    (s.engine.state = .faulted → v ≠ s.engine.done → submitWrite v s = s) ∧
    (s.engine.state ≠ .faulted → s.engine.faultPending = true ∨ v = s.engine.submit → submitWrite v s = s) ∧
    (s.engine.faultPending = false → v ≠ s.engine.submit → s.ctl.regime = .running →
      (s.engine.state = .idle → v < 2 * n ∧ far ≤ n →
        submitWrite v s = { s with engine :=
          if v = s.engine.done then { s.engine with submit := v }
          else { s.engine with submit := v, state := .fetching, work := .none, record := [] } }) ∧
      (s.engine.state = .idle → ¬ (v < 2 * n ∧ far ≤ n) →
        submitWrite v s = { s with engine := { s.engine with state := .faulted } }) ∧
      (inHand → v < 2 * n ∧ 1 ≤ far ∧ far ≤ n →
        submitWrite v s = { s with engine := { s.engine with submit := v } }) ∧
      (inHand → ¬ (v < 2 * n ∧ 1 ≤ far ∧ far ≤ n) →
        submitWrite v s = { s with engine := { s.engine with faultPending := true } }))) ∧
  (∀ (v : Nat) (s : State),
    let m := s.settings.eventRingEntries
    let e := s.events
    let valid : Prop := v < 2 * m ∧ indexDistance m e.consume v ≤ indexDistance m e.consume e.produce
    (e.state ≠ .faulted → v ≠ 0 → readyWrite v s = { s with events := { e with state := .armed } }) ∧
    (e.state ≠ .faulted → v = 0 → readyWrite v s = { s with events := { e with state := .unarmed } }) ∧
    (e.state = .faulted → v ≠ 0 → readyWrite v s = s) ∧
    (e.state = .faulted → v = 0 →
      readyWrite v s = { s with events := { e with state := .unarmed, consume := e.produce } }) ∧
    (e.state = .faulted ∨ v = e.consume → consumeWrite v s = s) ∧
    (e.state ≠ .faulted → v ≠ e.consume → valid →
      consumeWrite v s = { s with events := { e with consume := v } }) ∧
    (e.state ≠ .faulted → v ≠ e.consume → ¬ valid →
      consumeWrite v s = { s with events := { e with state := .faulted } }))

/-! ## The scrubber -/

/-- The scrub interval and the choice of work (R47, R49 to R51): an expiry restarts the timer at the length of that
moment, a quarter of SCRUB_INTERVAL under the cold-scrub condition, and sets the due flag; an IDLE scrubber then
chooses. The oldest fix entry that is not in a REPORT window goes first, entries found there leaving the list; else the
sweep group if one is due; else the scrubber is IDLE. Work in a reserved group waits, other work asks for the port. A
fix request (R46) is dropped while memory is not valid, where its offset and location are on the list, and where the
list holds 8; else it is appended, and an IDLE scrubber takes it at once. The requests of one access are taken first to
last. That the expiry of a timer that is not running leaves the state unchanged is the model's choice (assumption log
1). -/
def Obligations.ScrubChooses : Prop :=
  (∀ (s : State) (n : Nat), s.scrub.timer = .running n →
    let s' : State := { s with scrub := { s.scrub with
      timer := .running (if s.scrub.cold then s.settings.scrubInterval / 4 else s.settings.scrubInterval), due := true } }
    exec .scrubIntervalExpiry s = .next (finish (if s.scrub.activity = .idle then chooseWork s' else s'))) ∧
  (∀ s : State, (∀ n, s.scrub.timer ≠ .running n) → exec .scrubIntervalExpiry s = .next s) ∧
  (∀ (s : State) (dropped rest : List FixEntry) (e : FixEntry), s.scrub.fixList = dropped ++ e :: rest →
    (∀ x ∈ dropped, s.policyAt x.offset = .report) → s.policyAt e.offset = .correct →
    (s.repair.reservation = some (groupOf e.offset) → chooseWork s = { s with scrub := { s.scrub with
      fixList := e :: rest, inHand := some (.fix e), activity := .groupWait } }) ∧
    (s.repair.reservation ≠ some (groupOf e.offset) →
      chooseWork s = place (s.accessAt .scrub .fixRead false e.offset []) { s with scrub := { s.scrub with
        fixList := e :: rest, inHand := some (.fix e), activity := .portWait } })) ∧
  (∀ s : State, (∀ x ∈ s.scrub.fixList, s.policyAt x.offset = .report) →
    (s.scrub.due = true → s.repair.reservation = some (groupOf (64 * s.scrub.position)) →
      chooseWork s = { s with scrub := { s.scrub with
        fixList := [], inHand := some (.sweep s.scrub.position), activity := .groupWait } }) ∧
    (s.scrub.due = true → s.repair.reservation ≠ some (groupOf (64 * s.scrub.position)) →
      chooseWork s = place (s.accessAt .scrub .sweepRead true (64 * s.scrub.position) []) { s with
        scrub := { s.scrub with fixList := [], inHand := some (.sweep s.scrub.position), activity := .portWait } }) ∧
    (s.scrub.due = false → chooseWork s = { s with scrub := { s.scrub with
      fixList := [], inHand := none, activity := .idle } })) ∧
  (∀ (s : State) (o : Nat) (loc : Location),
    let e : FixEntry := { offset := o, loc := loc }
    let appended : State := { s with scrub := { s.scrub with fixList := s.scrub.fixList ++ [e] } }
    (s.ctl.memValid = false ∨ e ∈ s.scrub.fixList ∨ 8 ≤ s.scrub.fixList.length → offerFix o loc s = s) ∧
    (s.ctl.memValid = true → e ∉ s.scrub.fixList → s.scrub.fixList.length < 8 →
      (s.scrub.activity = .idle → offerFix o loc s = chooseWork appended) ∧
      (s.scrub.activity ≠ .idle → offerFix o loc s = appended))) ∧
  (∀ (e : FixEntry) (es : List FixEntry) (s : State),
    offerFixes [] s = s ∧ offerFixes (e :: es) s = offerFixes es (offerFix e.offset e.loc s))

/-- A fix pair (R48, R34): a clean word ends the pair; an uncorrectable one makes a detection of source FIX and ends it;
a single error is written back, corrected, with made check bits, under the same grant, and when that write completes the
log's entry of the same offset, location and syndrome is marked rewritten. At the end the served entry has left the
list, and the scrubber chooses again if it still runs. A sweep read (R52): the words that are not clean make detections
of source SCRUB by the check policy of their windows, single errors under CORRECT are offered to the fix list, and the
sweep position advances, to 0 with the sweep count one more after the last usable group. -/
def Obligations.ScrubAccesses : Prop :=
  (∀ (s : State) (flips : List MemWord) (a : Access) (e : FixEntry), s.port = some a → a.purpose = .fixRead →
    a.line = false → s.inMemory a = true → s.scrub.inHand = some (.fix e) →
    let r := readWord s.memEpoch (flips.headD noFlip) (s.accessAddress a) s.mem
    let s1 : State := { s with port := none, mem := r.2 }
    let served (x : State) : State := finish (endWork { x with scrub := { x.scrub with
      fixList := x.scrub.fixList.erase e } })
    (decode r.1 = .clean → exec (.fixPairReadComplete flips) s = .next (served s1)) ∧
    (decode r.1 = .uncorrectable → exec (.fixPairReadComplete flips) s = .next (served (detect
      { offset := a.offset, loc := a.loc, syndrome := syndrome r.1, source := .fix, severity := .uncorrectable } s1))) ∧
    (decode r.1 ≠ .clean → decode r.1 ≠ .uncorrectable → exec (.fixPairReadComplete flips) s = .next { s1 with
      port := some { a with purpose := .fixWrite, words := [made (offered r.1)], syndrome := syndrome r.1 } })) ∧
  (∀ (s : State) (a : Access) (e : FixEntry), s.port = some a → a.purpose = .fixWrite → s.inMemory a = true →
    s.scrub.inHand = some (.fix e) →
    let s1 := clearCarried a { s with port := none, mem := writeWords a.words (s.accessAddress a) s.mem }
    exec .fixRewriteComplete s = .next (finish (endWork { s1 with
      log := { s1.log with entries := s1.log.entries.map fun x =>
        if x.offset = a.offset ∧ x.loc = a.loc ∧ x.syndrome = a.syndrome then { x with rewritten := true } else x }
      scrub := { s1.scrub with fixList := s1.scrub.fixList.erase e } }))) ∧
  (∀ s : State,
    (s.ctl.memValid = true → s.ctl.regime = .running ∨ s.ctl.regime = .restarting →
      endWork s = chooseWork { s with scrub := { s.scrub with inHand := none } }) ∧
    (s.ctl.memValid = false ∨ (s.ctl.regime ≠ .running ∧ s.ctl.regime ≠ .restarting) →
      endWork s = { s with scrub := { s.scrub with inHand := none, activity := .paused } })) ∧
  (∀ (s : State) (flips : List MemWord) (a : Access), s.port = some a → a.purpose = .sweepRead → s.inMemory a = true →
    let r := readWords s.memEpoch flips (s.accessAddress a) a.count s.mem
    let s1 := offerFixes (fixesOf s.policyAt a r.1)
      (detectAll (detectionsOf .scrub s.policyAt a r.1) { s with port := none, mem := r.2 })
    exec (.sweepReadComplete flips) s = .next (finish (endWork { s1 with scrub :=
      if s.scrub.position + 1 < s.usable / 64 then { s1.scrub with position := s.scrub.position + 1 }
      else { s1.scrub with position := 0, count := s.scrub.count + 1 } })))

/-! ## Repair -/

/-- The read half of a migration's pair (R60, R61): the detections have source MIGRATION and no word is offered to the
fix list; single errors are prepared corrected with made check bits, clean and uncorrectable words as read, and the
places of the uncorrectable ones are carried; the write to the chosen slot follows under the same grant. A re-repair
whose only trouble lies at places already carried ends instead: the declined total rises and the outcome is CARRIED. -/
def Obligations.MigrationReads : Prop :=
  (∀ (s : State) (flips : List MemWord) (a : Access) (m : Migration), s.port = some a → a.purpose = .migrationRead →
    s.inMemory a = true → s.repair.migration = some m →
    let r := readWords s.memEpoch flips (s.accessAddress a) a.count s.mem
    let s1 := detectAll (detectionsOf .migration s.policyAt a r.1) { s with port := none, mem := r.2 }
    let raw (k : Nat) : Prop := ∃ w, r.1[k]? = some w ∧ decode w = .uncorrectable
    let declined (e : RepairEntry) : Prop := e.carried ≠ 0 ∧ (∃ k, raw k) ∧
      ∀ (k : Nat) (w : MemWord), r.1[k]? = some w → decode w ≠ .clean →
        decode w = .uncorrectable ∧ e.carried.getLsbD k = true
    let goesOn : Prop := ∃ t, exec (.migrationReadComplete flips) s = .next (finish t) ∧
      (∃ b, t = { s1 with
          port := some b, repair := { s1.repair with migration := some { m with carried := rawPlaces r.1 0 } } } ∧
        b = { a with purpose := .migrationWrite, loc := .spare m.slot, words := r.1.map prepareWord })
    (m.reRepair = false → goesOn) ∧
    (∀ e, m.reRepair = true → s.repairEntry m.group = some e → ¬ declined e → goesOn) ∧
    (∀ e, m.reRepair = true → s.repairEntry m.group = some e → declined e →
      exec (.migrationReadComplete flips) s = .next (finish (endMigration
        { outcome := .carried, group := e.group, newSlot := none, oldSlot := some e.slot, carried := some e.carried,
          reRepairs := some e.reRepairs, free := s.repair.free.length }
        { s1 with repair := { s1.repair with declined := satInc s1.repair.declined } })))) ∧
  (∀ w : MemWord,
    (decode w = .clean ∨ decode w = .uncorrectable → prepareWord w = w) ∧
    (decode w ≠ .clean → decode w ≠ .uncorrectable → prepareWord w = made (offered w))) ∧
  (∀ (ws : List MemWord) (k : Nat), ws.length = 8 → k < 8 →
    ((rawPlaces ws 0).getLsbD k = true ↔ ∃ w, ws[k]? = some w ∧ decode w = .uncorrectable))

/-- The write half (R62): a first repair appends its entry with the uptime now; a re-repair moves the group's entry to
the chosen slot, and its old slot is spent. The reservation is released, the outcome is reported, and the next migration
starts: that is the end of a migration, whose parts are stated too. The outcome queues its REPAIR notice (R66), and a
REPAIR-GROUP that waits on the group completes DONE with it (R69). Setting the reservation (R57) makes every block that
has a request for the group at the arbiter withdraw it and wait: the front port (R5), the scrubber (R47, R51), the
preparation engine (R107), whose CHECK-RANGE enters WAITING (R115), the mailbox unit (R179), whose DIAG command enters
WAITING unless its access is at the port (R39; before its request is placed too, assumption log 27). At the release each
waiting block goes on: a transaction that waited at step 2 does what it would do if it were presented now, one whose
request was withdrawn asks again at the location of now, a DIAG command and a CHECK-RANGE return to EXECUTING, the
preparation engine handles its group again, and the scrubber asks for its work. That the blocks act in this order within
the step is the model's (assumption log 32). -/
def Obligations.MigrationWrites : Prop :=
  (∀ (s : State) (a : Access) (m : Migration), s.port = some a → a.purpose = .migrationWrite → s.inMemory a = true →
    s.repair.migration = some m →
    let s1 : State := clearCarried a { s with port := none, mem := writeWords a.words (s.accessAddress a) s.mem }
    (s.repairEntry m.group = none →
      let added : Repair := { s1.repair with
        table := s1.repair.table ++ [{ group := m.group, slot := m.slot, reRepairs := 0, uptime := s.clock.uptime,
                                       carried := m.carried }]
        completed := satInc s.repair.completed }
      exec .migrationWriteComplete s = .next (finish (endMigration
        { outcome := .done, group := m.group, newSlot := some m.slot, oldSlot := none, carried := some m.carried,
          reRepairs := some 0, free := added.free.length } { s1 with repair := added }))) ∧
    (∀ e, s.repairEntry m.group = some e →
      let moved : Repair := { s1.repair with
        table := s1.repair.table.map fun x => if x.group = m.group then
          { e with slot := m.slot, reRepairs := satInc e.reRepairs, carried := m.carried } else x
        spent := s1.repair.spent ++ [e.slot]
        reRepaired := satInc s.repair.reRepaired }
      exec .migrationWriteComplete s = .next (finish (endMigration
        { outcome := .reRepaired, group := m.group, newSlot := some m.slot, oldSlot := some e.slot,
          carried := some m.carried, reRepairs := some (satInc e.reRepairs), free := moved.free.length }
        { s1 with repair := moved })))) ∧
  (∀ (n : RepairNotice) (s : State), s.repair.requests = [] →
    let t := endMigration n s
    t.repair = { s.repair with migration := none, reservation := none } ∧ t.mem = s.mem ∧ t.log = s.log ∧
    (s.queue.length < 32 → t.queue = s.queue ++ [{ session := s.clock.session, body := .repair n }])) ∧
  (∀ (n : RepairNotice) (s : State),
    let byte (v : Option Nat) : Byte := match v with
      | some v => BitVec.ofNat 8 v
      | none => 0xFF
    let waits : Prop := s.engine.state = .waiting ∧ ∃ placed, s.engine.work = .repairGroup n.group placed
    endMigration n s = nextMigration (reportOutcome n (releaseReservation n.group
      { s with repair := { s.repair with migration := none } })) ∧
    (¬ waits → reportOutcome n s = queueNotice (.repair n) s) ∧
    (waits → reportOutcome n s = completeCommand .done ([BitVec.ofNat 8 n.outcome.code] ++ le 4 n.group ++
      [byte n.newSlot, byte n.oldSlot, n.carried.getD 0] ++
      (match n.reRepairs with
        | some v => le 2 v.toNat
        | none => [0xFF, 0xFF]) ++ [BitVec.ofNat 8 n.free]) (queueNotice (.repair n) s))) ∧
  (∀ (g : Nat) (s : State),
    let t := setReservation g s
    let asks (w : Option Waiting) : Prop := ∃ x, w = some x ∧ groupOf x.access.offset = g
    let diagHere : Prop := ∃ a, s.port = some a ∧ (a.purpose = .diagRead ∨ a.purpose = .diagWrite) ∧ a.discarded = false
    let diagWaits : Prop := s.engine.state = .executing ∧ ¬ diagHere ∧
      ∃ o, groupOf o = g ∧ (s.engine.work = .diagRead o ∨ ∃ w, s.engine.work = .diagWrite o w)
    let checkWaits : Prop := asks s.arbiter.prep ∧ s.prep.activity = .checking
    t = { s with repair := { s.repair with reservation := some g }, arbiter := t.arbiter, front := t.front,
                 scrub := t.scrub, prep := t.prep, engine := t.engine } ∧
    t.arbiter.repair = s.arbiter.repair ∧
    (asks s.arbiter.front → t.arbiter.front = none ∧ t.front = s.front.map fun x => { x with phase := .redirectWait }) ∧
    (¬ asks s.arbiter.front → t.arbiter.front = s.arbiter.front ∧ t.front = s.front) ∧
    (asks s.arbiter.scrub → t.arbiter.scrub = none ∧ t.scrub = { s.scrub with activity := .groupWait }) ∧
    (¬ asks s.arbiter.scrub → t.arbiter.scrub = s.arbiter.scrub ∧ t.scrub = s.scrub) ∧
    (asks s.arbiter.prep → t.arbiter.prep = none ∧ t.prep = { s.prep with wait := .groupWait }) ∧
    (¬ asks s.arbiter.prep → t.arbiter.prep = s.arbiter.prep ∧ t.prep = s.prep) ∧
    (asks s.arbiter.mailbox → t.arbiter.mailbox = none) ∧
    (¬ asks s.arbiter.mailbox → t.arbiter.mailbox = s.arbiter.mailbox) ∧
    (diagWaits ∨ checkWaits → t.engine =
      { s.engine with state := .waiting, waitTimer := .running s.settings.cmdWaitLimit }) ∧
    (¬ diagWaits → ¬ checkWaits → t.engine = s.engine)) ∧
  (∀ (g : Nat) (s : State),
    releaseReservation g s = scrubRelease g (prepRelease g (diagRelease g (frontRelease g
      { s with repair := { s.repair with reservation := none } })))) ∧
  (∀ (g : Nat) (s : State),
    ((∀ t, s.front = some t → groupOf t.offset = g → t.phase = .requested ∨ t.phase = .access) →
      frontRelease g s = s) ∧
    (∀ t, s.front = some t → groupOf t.offset = g → t.phase = .redirectWait →
      frontRelease g s = place
        (match t.kind with
          | .read => s.accessAt .front .frontRead false t.offset []
          | .lineRead => s.accessAt .front .frontRead true t.offset []
          | .write =>
            if t.mask = 0xFF then s.accessAt .front .frontWrite false t.offset (t.words.map made)
            else s.accessAt .front .frontMergeRead false t.offset []
          | .lineWrite => s.accessAt .front .frontWrite true t.offset (t.words.map made))
        { s with front := some { t with phase := .requested } }) ∧
    (∀ (c : Instr) (o : BitVec 32) (t : FrontTxn), s.front = some t → groupOf t.offset = g → t.offset < s.usable →
      s.ctl.regime = .running → s.repair.reservation = none →
      let waiting (kind : TxnKind) (offset : Nat) (mask : Byte) (words : List Word) : FrontTxn :=
        { kind := kind, offset := offset, mask := mask, words := words, phase := .reserveWait, classification := none }
      (∃ mask, c = .read o mask ∧ t = waiting .read (wordOffset o.toNat) mask []) ∨
        (∃ mask d, c = .write o mask d ∧ t = waiting .write (wordOffset o.toNat) mask [d]) ∨
        (c = .lineRead o ∧ t = waiting .lineRead (groupOf o.toNat) 0xFF []) ∨
        (∃ d, c = .lineWrite o d ∧ t = waiting .lineWrite (groupOf o.toNat) 0xFF (lineWords d)) →
      exec c { s with front := none } = .next (finish (frontRelease g s)))) ∧
  (∀ (g : Nat) (s : State),
    let diagWaits : Prop := s.engine.state = .waiting ∧
      ∃ o, groupOf o = g ∧ (s.engine.work = .diagRead o ∨ ∃ w, s.engine.work = .diagWrite o w)
    let executing : State := { s with engine := { s.engine with state := .executing, waitTimer := .stopped } }
    let prepWaits : Prop := s.prep.wait = .groupWait ∧ 64 * s.prep.position = g
    let scrubWaits (o : Nat) : Prop := s.scrub.activity = .groupWait ∧ groupOf o = g
    let asking : State := { s with scrub := { s.scrub with activity := .portWait } }
    (diagWaits → diagRelease g s = executing) ∧ (¬ diagWaits → diagRelease g s = s) ∧
    (prepWaits → s.prep.activity = .passing → prepRelease g s = prepHandle s) ∧
    (prepWaits → s.prep.activity = .checking → prepRelease g s = prepHandle executing) ∧
    (¬ prepWaits ∨ (s.prep.activity ≠ .passing ∧ s.prep.activity ≠ .checking) → prepRelease g s = s) ∧
    (∀ e, s.scrub.inHand = some (.fix e) → scrubWaits e.offset → s.repair.reservation ≠ some g →
      scrubRelease g s = place (s.accessAt .scrub .fixRead false e.offset []) asking) ∧
    (∀ k, s.scrub.inHand = some (.sweep k) → scrubWaits (64 * k) → s.repair.reservation ≠ some g →
      scrubRelease g s = place (s.accessAt .scrub .sweepRead true (64 * k) []) asking) ∧
    ((∀ e, s.scrub.inHand = some (.fix e) → ¬ scrubWaits e.offset) →
      (∀ k, s.scrub.inHand = some (.sweep k) → ¬ scrubWaits (64 * k)) → scrubRelease g s = s))

/-! ## Preparation -/

/-- R104: the pattern word of a word's front offset in each pass, made with check bits, by the front offset wherever the
group's location is; every usable offset fits in 32 bits; and the zero word. -/
def Obligations.PatternWords : Prop :=
  (∀ (pass w : Nat), w < 2 ^ 32 →
    (pass = 1 ∨ pass = 3 → (patternWord pass w).extractLsb' 0 32 = BitVec.ofNat 32 w ∧
      (patternWord pass w).extractLsb' 32 32 = ~~~ BitVec.ofNat 32 w) ∧
    (pass = 2 ∨ pass = 4 → (patternWord pass w).extractLsb' 0 32 = ~~~ BitVec.ofNat 32 w ∧
      (patternWord pass w).extractLsb' 32 32 = BitVec.ofNat 32 w)) ∧
  (∀ s : State, s.prep.activity = .passing → s.prep.step = .patternWrite →
    s.prepAccess.words = (List.range 8).map fun k => made (patternWord s.prep.pass (64 * s.prep.position + 8 * k))) ∧
  (∀ code : Nat, memSizeOfCode code ≤ 64 * 1048576 ∧ 64 * 1048576 < 2 ^ 32) ∧
  patternWord 1 0x2C58 = 0xFFFFD3A700002C58 ∧ patternWord 2 0x2C58 = 0x00002C58FFFFD3A7 ∧
  made 0 = { data := 0, check := 0 }

/-- The first two steps of a group (R106 to R108). A pattern write goes on to the read-back. A read-back compares every
word with the pattern of its pass: a clean or corrected word that equals it is good, a single error then counting as
corrected; any other word counts as uncorrectable; and the zero write follows. Word k of the group is compared with the
pattern word of its own offset, and the findings make their detections in ascending order of offset. The detections, of
source PREP, come before the engine's next request, or after it where the operand says so (assumption log 15). A step
whose group is reserved waits, and a CHECK-RANGE that has to wait, at its first group or at a later one, enters WAITING
with the wait limit begun (R107, R115). -/
def Obligations.PrepReadsBack : Prop :=
  (∀ (s : State) (a : Access), s.port = some a → a.purpose = .patternWrite → s.inMemory a = true →
    let s1 := clearCarried a { s with port := none, mem := writeWords a.words (s.accessAddress a) s.mem }
    exec .patternWriteComplete s = .next (finish (prepHandle { s1 with prep := { s1.prep with step := .readBack } }))) ∧
  (∀ (s : State) (flips : List MemWord) (first : Bool) (a : Access), s.port = some a → a.purpose = .readBack →
    s.inMemory a = true →
    let r := readWords s.memEpoch flips (s.accessAddress a) a.count s.mem
    let fs := findings s.prep.pass a.offset r.1
    let ds := readBackDetections s.policyAt a r.1 fs
    let s1 : State := { s with
      port := none, mem := r.2
      prep := { s.prep with
        corrected := satAdd s.prep.corrected (fs.count .single)
        uncorrectable := satAdd s.prep.uncorrectable (fs.count .bad) } }
    let next (x : State) : State := prepHandle { x with prep := { x.prep with step := .zeroWrite } }
    exec (.readBackComplete flips first) s =
      .next (finish (if first then detectAll ds (grant (next s1)) else next (detectAll ds s1)))) ∧
  (∀ (pattern : Word) (w : MemWord),
    (compareWord pattern w = .good ↔ decode w = .clean ∧ w.data = pattern) ∧
    (compareWord pattern w = .single ↔ decode w ≠ .clean ∧ decode w ≠ .uncorrectable ∧ offered w = pattern)) ∧
  (∀ (policy : Nat → CheckPolicy) (a : Access) (o : Nat) (w : MemWord),
    findingDetection policy a (o, w) .good = none ∧
    (findingDetection policy a (o, w) .bad = some { offset := o, loc := a.loc, syndrome := syndrome w, source := .prep,
                                                     severity := .uncorrectable }) ∧
    (decode w ≠ .uncorrectable → findingDetection policy a (o, w) .single = some
      { offset := o, loc := a.loc, syndrome := syndrome w, source := .prep,
        severity := if policy o = .report then .reported else .corrected })) ∧
  (∀ (pass g : Nat) (ws : List MemWord) (k : Nat), (findings pass g ws)[k]? =
    if k < 8 then (ws[k]?).map (compareWord (patternWord pass (g + 8 * k))) else none) ∧
  (∀ (policy : Nat → CheckPolicy) (a : Access) (pass : Nat) (ws : List MemWord), ws.length ≤ 8 →
    let word (k : Nat) : MemWord := ws.getD k (made 0)
    let place (k : Nat) : Nat := a.offset + 8 * k
    readBackDetections policy a ws (findings pass a.offset ws) = (List.range ws.length).filterMap fun k =>
      findingDetection policy a (place k, word k) (compareWord (patternWord pass (place k)) (word k))) ∧
  (∀ s : State,
    (s.repair.reservation = some (64 * s.prep.position) → s.prep.activity ≠ .checking →
      prepHandle s = { s with prep := { s.prep with wait := .groupWait } }) ∧
    (s.repair.reservation = some (64 * s.prep.position) → s.prep.activity = .checking →
      prepHandle s = { s with
        prep := { s.prep with wait := .groupWait }
        engine := { s.engine with state := .waiting, waitTimer := .running s.settings.cmdWaitLimit } }) ∧
    (s.repair.reservation ≠ some (64 * s.prep.position) →
      prepHandle s = place s.prepAccess { s with prep := { s.prep with wait := .portWait } }))

/-- The zero write, the end of a pass and the retry (R106, R109, R110, R72, R80, R81): the next group follows; after the
last usable group the memory-valid flag is set and the pass is judged: GOOD and a last pass that is not good finish, the
latter DOUBTFUL, and the board goes to its release; any other pass waits for the retry timer, whose expiry begins the
next pass at group 0 with its counts 0. The access of each step (R106): a line write of the pattern words, a line read
of the same group, a line write of 8 zero words, and for a CHECK-RANGE a line read (R114). That the idle engine's
position, step and wait return to their values at part power-on is the model's choice (assumption log 31), that they
stay in RETRY-WAIT as the last zero write left them is too (assumption log 37), and so is that the expiry of a retry
timer that is not running leaves the state unchanged (assumption log 1). -/
def Obligations.PrepPassEnds : Prop :=
  (∀ (s : State) (a : Access), s.port = some a → a.purpose = .zeroWrite → s.inMemory a = true →
    s.ctl.regime = .preparing →
    let s1 := clearCarried a { s with port := none, mem := writeWords a.words (s.accessAddress a) s.mem }
    let s2 : State := { s1 with ctl := { s1.ctl with memValid := true } }
    let good : Prop := s.prep.uncorrectable = 0 ∧ s.prep.corrected.toNat ≤ s.settings.prepCorrectedLimit
    let idle : Prep := { activity := .idle, pass := 0, position := 0, step := .patternWrite, wait := .groupWait,
                         corrected := 0, uncorrectable := 0, retry := .stopped, range := none }
    (64 * (s.prep.position + 1) < s.usable →
      exec .zeroWriteComplete s = .next (finish (prepHandle { s1 with
        prep := { s.prep with position := s.prep.position + 1, step := .patternWrite } }))) ∧
    (s.usable ≤ 64 * (s.prep.position + 1) →
      (good → exec .zeroWriteComplete s = .next (finish (enterReleasing { s2 with prep := idle }))) ∧
      (¬ good → s.prep.pass < s.settings.prepPasses →
        exec .zeroWriteComplete s = .next (finish { s2 with
          prep := { s.prep with activity := .retryWait, retry := .running s.settings.prepRetryDelay } })) ∧
      (¬ good → s.settings.prepPasses ≤ s.prep.pass →
        exec .zeroWriteComplete s = .next (finish (enterReleasing
          { s2 with prep := idle, ctl := { s2.ctl with pendingDoubtful := true } }))))) ∧
  (∀ (s : State) (n : Nat), s.prep.retry = .running n →
    exec .prepRetryExpiry s = .next (finish (prepHandle { s with prep :=
      { s.prep with activity := .passing, pass := s.prep.pass + 1, position := 0, step := .patternWrite,
                    corrected := 0, uncorrectable := 0, retry := .stopped, range := none } }))) ∧
  (∀ s : State, (∀ n, s.prep.retry ≠ .running n) → exec .prepRetryExpiry s = .next s) ∧
  (∀ s : State,
    let g := 64 * s.prep.position
    (s.prep.activity ≠ .checking →
      (s.prep.step = .patternWrite → s.prepAccess = s.accessAt .prep .patternWrite true g
        ((List.range 8).map fun k => made (patternWord s.prep.pass (g + 8 * k)))) ∧
      (s.prep.step = .readBack → s.prepAccess = s.accessAt .prep .readBack true g []) ∧
      (s.prep.step = .zeroWrite →
        s.prepAccess = s.accessAt .prep .zeroWrite true g (List.replicate 8 { data := 0, check := 0 }))) ∧
    (s.prep.activity = .checking → s.prepAccess = s.accessAt .prep .checkRead true g []))

/-- A read of CHECK-RANGE (R114 to R116): its findings go to the error log with source PREP and to the fix list, its
counts rise, and it goes on to the next group or completes DONE with the base, the length and the three counts. One that
was abandoned while its read was at the port, whatever the engine holds by then, gives its findings and nothing more
(R116). That at the completion all of the engine's fields return to their values at part power-on is the model's choice
(assumption log 31). -/
def Obligations.CheckRangeReads : Prop :=
  (∀ (s : State) (flips : List MemWord) (a : Access), s.port = some a → a.purpose = .checkRead → s.inMemory a = true →
    a.discarded = true →
    let r := readWords s.memEpoch flips (s.accessAddress a) a.count s.mem
    exec (.checkRangeReadComplete flips) s = .next (finish (offerFixes (fixesOf s.policyAt a r.1)
      (detectAll (detectionsOf .prep s.policyAt a r.1) { s with port := none, mem := r.2 })))) ∧
  (∀ (s : State) (flips : List MemWord) (a : Access) (g : CheckRange), s.port = some a → a.purpose = .checkRead →
    s.inMemory a = true → s.prep.range = some g →
    let r := readWords s.memEpoch flips (s.accessAddress a) a.count s.mem
    let s1 := offerFixes (fixesOf s.policyAt a r.1)
      (detectAll (detectionsOf .prep s.policyAt a r.1) { s with port := none, mem := r.2 })
    let g' : CheckRange := { g with
      checked := g.checked + 1
      single := g.single + (r.1.filter fun w => (decode w).single).length
      uncorrectable := g.uncorrectable + (r.1.filter fun w => decide (decode w = .uncorrectable)).length }
    (a.discarded = true → exec (.checkRangeReadComplete flips) s = .next (finish s1)) ∧
    (a.discarded = false → 64 * (s.prep.position + 1) < g.stop →
      exec (.checkRangeReadComplete flips) s = .next (finish (prepHandle { s1 with
        prep := { s1.prep with position := s.prep.position + 1, range := some g' } }))) ∧
    (a.discarded = false → g.stop ≤ 64 * (s.prep.position + 1) →
      exec (.checkRangeReadComplete flips) s = .next (finish (completeCommand .done
        (le 4 g'.base ++ le 4 (g'.stop - g'.base) ++ le 2 g'.checked ++ le 4 g'.single ++ le 4 g'.uncorrectable)
        { s1 with prep := Prep.initial }))))

/-! ## The thermal unit and the regime -/

/-- The polling (R90, R91): the poll timer restarts and begins a round; a reply within range from the channel being
polled makes it VALID with its reading and no timeouts; a reply out of range and a timeout count, the third making the
channel FAILED, which a further timeout leaves as it is; the next poll of the round starts. A reply from any other
channel is not taken. The third timeout queues SENSOR-FAILED with no reading, the reply of a FAILED channel
SENSOR-RESTORED with it (R91, R96). At the end of a poll the conditions are evaluated in the order of R91: readiness,
overheat, resume and soak floor (OverheatExcludesResume states them); the HOT notice, at warn-hot with the arming flag
set, which then clears, and is set again below warn-hot less 2.0 °C (R95); the cold-scrub condition by the MEMORY
channel (R50) and the cold-debounce condition by the PANEL channel (R159), "the channel" of a role being its
lowest-numbered VALID one (R89); then the heaters. (That the expiry begins the round even while one is under way is the
model's, assumption log 25; that the expiry of a poll timer that is not running, and a timeout with no poll under way,
leave the state unchanged is the model's, assumption log 1.) -/
def Obligations.Polls : Prop :=
  (∀ (s : State) (n : Nat), s.thermal.pollTimer = .running n →
    exec .pollTimerExpiry s = .next { s with thermal := { s.thermal with
      pollTimer := .running s.settings.sensorPeriod
      polling := (List.range 4).find? s.polled } }) ∧
  (∀ s : State, (∀ n, s.thermal.pollTimer ≠ .running n) → exec .pollTimerExpiry s = .next s) ∧
  (∀ (s : State) (k : Nat) (v : BitVec 16), s.thermal.polling = some k → k < s.thermal.channels.length →
    (-110 ≤ v.toInt → v.toInt ≤ 250 → ∃ t, exec (.sensorReply k v) s = .next t ∧
      (t.channel k).state = .valid ∧ (t.channel k).reading = some v.toInt ∧ (t.channel k).timeouts = 0 ∧
      t.thermal.polling = (List.range 4).find? (fun j => decide (k < j) && s.polled j) ∧
      (∀ j, j ≠ k → t.channel j = s.channel j)) ∧
    (v.toInt < -110 ∨ 250 < v.toInt → exec (.sensorReply k v) s = exec .sensorTimeout s) ∧
    (∃ t, exec .sensorTimeout s = .next t ∧
      t.thermal.polling = (List.range 4).find? (fun j => decide (k < j) && s.polled j) ∧
      (∀ j, j ≠ k → t.channel j = s.channel j) ∧ (t.channel k).reading = (s.channel k).reading ∧
      ((s.channel k).state = .failed → (t.channel k).state = .failed ∧
        (t.channel k).timeouts = (s.channel k).timeouts) ∧
      ((s.channel k).state ≠ .failed → (s.channel k).timeouts + 1 = 3 →
        (t.channel k).state = .failed ∧ (t.channel k).timeouts = 3) ∧
      ((s.channel k).state ≠ .failed → (s.channel k).timeouts + 1 ≠ 3 →
        (t.channel k).state = (s.channel k).state ∧ (t.channel k).timeouts = (s.channel k).timeouts + 1))) ∧
  (∀ (s : State) (k : Nat) (v : BitVec 16), s.thermal.polling ≠ some k → exec (.sensorReply k v) s = .next s) ∧
  (∀ s : State, s.thermal.polling = none → exec .sensorTimeout s = .next s) ∧
  (∀ (s : State) (k : Nat) (v : BitVec 16), s.thermal.polling = some k →
    let evaluated (floor : State → State) (x : State) : State :=
      let x := { x with thermal := { x.thermal with
        polling := (List.range 4).find? fun j => decide (k < j) && x.polled j } }
      evalHeaters (reportCold (armHot k (floor (reportResume (reportOverheat (reportReadiness x))))))
    (-110 ≤ v.toInt → v.toInt ≤ 250 → exec (.sensorReply k v) s =
      .next (finish (evaluated (reportSoakFloor k v.toInt) (channelReply k v.toInt s)))) ∧
    exec .sensorTimeout s = .next (finish (evaluated id (channelTimeout k s)))) ∧
  (∀ (s : State) (k : Nat) (cfg : ChannelSettings), s.settings.channels[k]? = some cfg →
    let c := s.channel k
    let put (x : Channel) : State := { s with thermal := { s.thermal with channels := s.thermal.channels.set k x } }
    let notice (event : ThermalEvent) (reading : Option Int) (x : State) : State :=
      queueNotice (.thermal event k cfg.role reading s.ctl.regime) x
    (∀ v, let valid := put { c with state := .valid, reading := some v, timeouts := 0 }
      channelReply k v s = if c.state = .failed then notice .sensorRestored (some v) valid else valid) ∧
    channelTimeout k s = (if c.state = .failed then s
      else if c.timeouts = 2 then notice .sensorFailed none (put { c with state := .failed, timeouts := 3 })
      else put { c with timeouts := c.timeouts + 1 }) ∧
    (∀ v, c.state = .valid → c.reading = some v →
      (c.hotArmed = true → cfg.warnHot ≤ v → armHot k s = notice .hot (some v) (put { c with hotArmed := false })) ∧
      (c.hotArmed = true → v < cfg.warnHot → armHot k s = s) ∧
      (c.hotArmed = false → v < cfg.warnHot - 4 → armHot k s = put { c with hotArmed := true }) ∧
      (c.hotArmed = false → cfg.warnHot - 4 ≤ v → armHot k s = s)) ∧
    (c.state ≠ .valid → armHot k s = s)) ∧
  (∀ s : State,
    (∃ cold coldDebounce, reportCold s = { s with
      scrub := { s.scrub with cold := cold }, keypad := { s.keypad with coldDebounce := coldDebounce } }) ∧
    (s.roleReading .memory = none → (reportCold s).scrub.cold = false) ∧
    (∀ v, s.roleReading .memory = some v → ((reportCold s).scrub.cold = true ↔ v < s.settings.coldScrub)) ∧
    (s.roleReading .panel = none → (reportCold s).keypad.coldDebounce = true) ∧
    (∀ v, s.roleReading .panel = some v → ((reportCold s).keypad.coldDebounce = true ↔ v < s.settings.keyCold))) ∧
  (∀ (s : State) (role : ChannelRole),
    let fits (k : Nat) : Prop := k < 4 ∧ ∃ cfg c, s.settings.channels[k]? = some cfg ∧
      s.thermal.channels[k]? = some c ∧ cfg.role = role ∧ c.state = .valid
    (∀ k, s.roleChannel role = some k ↔ fits k ∧ ∀ j < k, ¬ fits j) ∧
    (∀ k c, s.roleChannel role = some k → s.thermal.channels[k]? = some c → s.roleReading role = c.reading) ∧
    (s.roleChannel role = none → s.roleReading role = none))

/-- The overheat and the resume condition never hold together while every channel's resume threshold is below its
critical threshold (R93, R94); and each condition is what its rule says, release readiness among them (R92). What the
board control unit does with the reports: a change of readiness is recorded, and takes HEATING to SOAKING (R77); an
overheat is taken outside LOADING, HALTED and OVERHEAT, with board power off, the heaters off, the window table kept,
and in RUNNING and RESTARTING a THERMAL record and no change of the escalation state (R83; that one in OFF-CYCLE makes
no record is deduced, assumption log 35; that memory's contents are lost is deduced, assumption log 5). Board power
lost, the scrubber is paused with its memory state discarded (R45) and the repair unit's pending work is dropped, the
abandoned total one more where a migration was in progress (R64); an overheat in PREPARING abandons the pass (R112; the
idle engine's values are the model's choice, assumption log 31); one in RUNNING has the blocks leave it as a restart
does (R116, R126, R184, R191). A resume begins a cold start in OVERHEAT alone (R84); a reading below the soak floor
breaks an unforced soak alone (R78). The heater demands by regime, channel and 1.0 °C of hysteresis (R97, R98), and
their admission within the budget in rank order (R99), also before board power comes on (R79). -/
def Obligations.OverheatExcludesResume : Prop :=
  (∀ s : State, s.overheatNow = true ↔ ∃ x ∈ s.channelPairs, x.2.state = .valid ∧
    ∃ v, x.2.reading = some v ∧ x.1.critical ≤ v) ∧
  (∀ s : State, s.resumeNow = true ↔ (∃ x ∈ s.channelPairs, x.2.state = .valid) ∧
    ∀ x ∈ s.channelPairs, x.2.state = .valid → ∃ v, x.2.reading = some v ∧ v ≤ x.1.resume) ∧
  (∀ s : State, (∀ x ∈ s.channelPairs, x.2.state = .valid → x.1.resume < x.1.critical) →
    ¬ (s.overheatNow = true ∧ s.resumeNow = true)) ∧
  (∀ s : State,
    let counts (x : ChannelSettings × Channel) : Prop := x.1.role = .board ∨ x.1.role = .memory
    s.channelPairs = s.settings.channels.zip s.thermal.channels ∧
    (s.readinessNow = true ↔ (∃ x ∈ s.channelPairs, counts x ∧ x.2.state = .valid) ∧
      ∀ x ∈ s.channelPairs, counts x → x.2.state ≠ .failed →
        x.2.state = .valid ∧ ∃ v, x.2.reading = some v ∧ x.1.release ≤ v)) ∧
  (∀ s : State,
    let told : State := { s with thermal := { s.thermal with readiness := s.readinessNow } }
    (s.readinessNow = s.thermal.readiness → reportReadiness s = s) ∧
    (s.readinessNow ≠ s.thermal.readiness → s.readinessNow = true → s.ctl.regime = .heating →
      let t := reportReadiness s
      t.ctl.regime = .soaking ∧ t.ctl.soak = .running s.settings.soakTime ∧ t.thermal.readiness = true ∧
      t.ctl.pendingForced = s.ctl.pendingForced ∧
      (∀ n, s.ctl.heatLimit = .running n → t.ctl.heatLimit = .held n)) ∧
    (s.readinessNow ≠ s.thermal.readiness → ¬ (s.readinessNow = true ∧ s.ctl.regime = .heating) →
      reportReadiness s = told)) ∧
  (∀ s : State,
    let inert : Prop := s.ctl.regime = .loading ∨ s.ctl.regime = .halted ∨ s.ctl.regime = .overheat
    let records : Prop := s.ctl.regime = .running ∨ s.ctl.regime = .restarting
    let older := s.restarts.history.map fun x => { x with trace := none }
    let r : RestartRecord :=
      { number := satInc s.restarts.total, cause := .thermal, requested := none, kind := .thermal,
        uptime := s.clock.uptime, session := s.clock.session, lastStage := s.watch.lastStage,
        warnings := s.dog.warnings, uncorrectable := s.log.session, hits := s.watch.hits, trace := some s.trace }
    let t := reportOverheat s
    (s.overheatNow = false ∨ inert → t = s) ∧
    (s.overheatNow = true → ¬ inert →
      t.ctl.regime = .overheat ∧ t.ctl.power = false ∧ t.ctl.processorReset = true ∧ t.ctl.heatLimit = .stopped ∧
      t.ctl.soak = .stopped ∧ t.ctl.off = .stopped ∧ t.ctl.pulse = .stopped ∧ t.windows = s.windows ∧
      t.thermal.boardOutput = false ∧ t.thermal.panelOutput = false ∧
      (s.ctl.regime.powered = true → t.ctl.memValid = false ∧ t.mem = [] ∧ t.port = none ∧ t.front = none ∧
        t.headers = [] ∧ t.arbiter.front = none ∧ t.arbiter.mailbox = none ∧ t.arbiter.repair = none ∧
        t.arbiter.scrub = none ∧
        t.scrub = { s.scrub with
          activity := .paused, fixList := [], position := 0, due := false, timer := .stopped, inHand := none } ∧
        t.repair = { s.repair with
          migration := none, reservation := none, requests := []
          abandoned := if s.repair.migration.isSome then satInc s.repair.abandoned else s.repair.abandoned }) ∧
      (s.ctl.regime = .preparing ∨ (s.ctl.regime = .running ∧ s.prep.activity = .checking) →
        t.arbiter.prep = none ∧
        t.prep = { activity := .idle, pass := 0, position := 0, step := .patternWrite, wait := .groupWait,
                   corrected := 0, uncorrectable := 0, retry := .stopped, range := none }) ∧
      (s.ctl.regime = .running →
        t.posting = none ∧ t.queue = (s.queue.filter fun n => decide (n.body.isKey = false)) ∧
        t.missed = satAdd s.missed (s.queue.filter fun n => n.body.isKey).length ∧
        t.engine = { s.engine with
          state := if s.engine.state = .faulted then .faulted else .idle
          faultPending := false, work := .none, waitTimer := .stopped } ∧
        t.watchReports = [] ∧ t.snoopReports = [] ∧ t.dog.state = .suspended ∧ t.watch.lock = false ∧
        (∀ k : Nat, t.watch.entries[k]? = (s.watch.entries[k]?).map fun entry => entry.bind fun e =>
          if e.persistence = .session then none else some e)) ∧
      (records → t.restarts = { s.restarts with history := older.drop (older.length - 7) ++ [r]
                                                total := satInc s.restarts.total } ∧ t.trace = []) ∧
      (¬ records → t.restarts = s.restarts ∧ t.trace = s.trace))) ∧
  (∀ s : State,
    let t := reportResume s
    (s.resumeNow = false ∨ s.ctl.regime ≠ .overheat → t = s) ∧
    (s.resumeNow = true → s.ctl.regime = .overheat →
      t.ctl.regime = (if s.thermal.readiness then .soaking else .heating) ∧ t.ctl.pendingForced = false ∧
      t.ctl.pendingDoubtful = false ∧ t.ctl.power = false ∧
      t.ctl.heatLimit =
        (if s.thermal.readiness then .held s.settings.heatLimit else .running s.settings.heatLimit))) ∧
  (∀ (s : State) (k : Nat) (v : Int) (cfg : ChannelSettings), s.settings.channels[k]? = some cfg →
    let t := reportSoakFloor k v s
    let breaks : Prop := (cfg.role = .board ∨ cfg.role = .memory) ∧ v < cfg.release - s.settings.releaseHyst ∧
      s.ctl.regime = .soaking ∧ s.ctl.pendingForced = false
    (¬ breaks → t = s) ∧
    (breaks → s.thermal.readiness = false →
      t.ctl.regime = .heating ∧ t.ctl.soak = .stopped ∧ t.ctl.pendingForced = false ∧
      t.ctl.pendingDoubtful = s.ctl.pendingDoubtful ∧
      (∀ n, s.ctl.heatLimit = .held n → t.ctl.heatLimit = .running n))) ∧
  (∀ s : State,
    let t := evalHeaters s
    let r := s.ctl.regime
    let cold : Prop := r = .heating ∨ r = .soaking ∨ r = .preparing ∨ r = .releasing
    let warm : Prop := r = .running ∨ r = .restarting
    let follows (target v : Int) (was now : Bool) : Prop :=
      (target ≤ v → now = false) ∧ (v ≤ target - 2 → now = true) ∧ (target - 2 < v → v < target → now = was)
    let board (k : Nat) : Prop := s.roleChannel .board = some k ∨
      (s.roleChannel .board = none ∧ s.roleChannel .memory = some k)
    (∀ k v cfg, board k → s.reading k = some v → s.settings.channels[k]? = some cfg →
      (cold → follows cfg.target v s.thermal.boardDemand t.thermal.boardDemand) ∧
      (warm → follows s.settings.maintainTemp v s.thermal.boardDemand t.thermal.boardDemand)) ∧
    ((∀ k, ¬ board k) → (cold → t.thermal.boardDemand = true) ∧ (warm → t.thermal.boardDemand = false)) ∧
    (¬ cold → ¬ warm → t.thermal.boardDemand = false) ∧
    (r = .loading ∨ r = .overheat ∨ s.roleChannel .panel = none → t.thermal.panelDemand = false) ∧
    (∀ k v cfg, r ≠ .loading → r ≠ .overheat → s.roleChannel .panel = some k → s.reading k = some v →
      s.settings.channels[k]? = some cfg → follows cfg.target v s.thermal.panelDemand t.thermal.panelDemand) ∧
    t = admitHeaters s.ctl.power { s with thermal := { s.thermal with
      boardDemand := t.thermal.boardDemand, panelDemand := t.thermal.panelDemand } }) ∧
  (∀ (s : State) (counted : Bool),
    let t := admitHeaters counted s
    let room := if counted then s.settings.powerBudget - s.settings.boardDraw else s.settings.powerBudget
    let r := s.ctl.regime
    let boardFirst : Prop := r = .heating ∨ r = .soaking ∨ r = .preparing ∨ r = .releasing
    let left (on : Bool) (draw : Nat) : Nat := if on then room - draw else room
    t = { s with thermal := { s.thermal with
      boardOutput := t.thermal.boardOutput, panelOutput := t.thermal.panelOutput } } ∧
    (boardFirst →
      (t.thermal.boardOutput = true ↔ s.thermal.boardDemand = true ∧ s.settings.boardHeaterDraw ≤ room) ∧
      (t.thermal.panelOutput = true ↔ s.thermal.panelDemand = true ∧
        s.settings.panelHeaterDraw ≤ left t.thermal.boardOutput s.settings.boardHeaterDraw)) ∧
    (¬ boardFirst →
      (t.thermal.panelOutput = true ↔ s.thermal.panelDemand = true ∧ s.settings.panelHeaterDraw ≤ room) ∧
      (t.thermal.boardOutput = true ↔ s.thermal.boardDemand = true ∧
        s.settings.boardHeaterDraw ≤ left t.thermal.panelOutput s.settings.panelHeaterDraw))) ∧
  (∀ (s : State) (n : Nat), s.ctl.soak = .running n → s.ctl.regime = .soaking →
    exec .soakTimerExpiry s = .next (finish (changeRegime .preparing (admitHeaters true s))))

/-- The regime timers and the ring header writes (R74, R77 to R79, R81, R85, R177). The heat limit leads from HEATING to
SOAKING with FORCED pending; the soak timer to PREPARING with board power on, reset asserted, and pass 1 begun at group
0 (R105); the pulse timer from RESTARTING to RELEASING, or straight to RUNNING where no ring exists, the lamp's error
state clear and the table of repairs kept; the off timer from OFF-CYCLE to a cold start (R76). A header write leaves the
others to be made; after the last, the regime is RUNNING, reset is deasserted, session time is 0 and the session flags
take the pending ones, the session count of errors is 0 (R35), no stage is reached (R123), the watchdog takes its
working values and its first state (R135), and the write trace is empty (R151). At the release (R177) the delivered but
unconsumed entries, by the distance of R176, are added to the missed count, and a header is to be written for each ring
that exists, the command ring's first: a line write of 8 zero words at group 0 of the ring's window, which is the
mailbox unit's next request. At every change of regime the scrubber runs, with memory valid in RUNNING and RESTARTING,
or pauses (R44): from PAUSED its interval starts afresh and it takes the oldest fix entry that is not in a REPORT
window; a pause ends its waits and stops its timer, but leaves a granted access to complete, its work in hand till then
(deduced, assumption log 36); news that cancels such a pause starts the timer at once (the model's choice, assumption
log 34). With board power lost its memory state is discarded (R45), and the repair unit's, the abandoned total one more
where a migration was in progress (R64; the contents of memory: deduced, assumption log 5). A pass is abandoned when
PREPARING is left (R112; its idle values are the model's choice, assumption log 31). -/
def Obligations.RegimeTimers : Prop :=
  (∀ (s : State) (n : Nat), s.ctl.heatLimit = .running n → s.ctl.regime = .heating →
    ∃ t, exec .heatLimitExpiry s = .next t ∧ t.ctl.regime = .soaking ∧ t.ctl.pendingForced = true ∧
      t.ctl.soak = .running s.settings.soakTime ∧ t.ctl.heatLimit = .stopped ∧ t.ctl.power = false ∧
      t.ctl.processorReset = true ∧ t.ctl.pendingDoubtful = s.ctl.pendingDoubtful ∧ t.ctl.memValid = s.ctl.memValid) ∧
  (∀ (s : State) (n : Nat), s.ctl.soak = .running n → s.ctl.regime = .soaking →
    ∃ t, exec .soakTimerExpiry s = .next t ∧ t.ctl.regime = .preparing ∧ t.ctl.power = true ∧
      t.ctl.processorReset = true ∧ t.ctl.soak = .stopped ∧ t.ctl.heatLimit = .stopped ∧
      t.prep.activity = .passing ∧ t.prep.pass = 1 ∧ t.prep.position = 0 ∧ t.prep.step = .patternWrite ∧
      t.prep.corrected = 0 ∧ t.prep.uncorrectable = 0 ∧ t.ctl.memValid = s.ctl.memValid ∧ t.mem = s.mem) ∧
  (∀ (s : State) (n : Nat), s.ctl.pulse = .running n → s.ctl.regime = .restarting →
    ∃ t, exec .pulseTimerExpiry s = .next t ∧
      ((∃ role w, role ≠ RingRole.none ∧ s.ring role = some w) → t.ctl.regime = .releasing ∧
        t.ctl.processorReset = true) ∧
      ((∀ role, role ≠ RingRole.none → s.ring role = none) → t.ctl.regime = .running ∧
        t.ctl.processorReset = false) ∧
      t.ctl.power = true ∧ t.ctl.memValid = s.ctl.memValid ∧ t.ctl.pulse = .stopped ∧ t.mem = s.mem ∧
      t.lamp.error = false ∧ t.engine.submit = 0 ∧ t.engine.done = 0 ∧ t.events.produce = 0 ∧ t.events.consume = 0 ∧
      t.events.state = .unarmed ∧ t.restarts = s.restarts ∧ t.repair.table = s.repair.table ∧ t.queue = s.queue ∧
      t.missed = satAdd s.missed (indexDistance s.settings.eventRingEntries s.events.consume s.events.produce) ∧
      t.headers = (if (s.ring .commandRing).isSome then [Ring.command] else []) ++
        (if (s.ring .eventRing).isSome then [Ring.event] else []) ∧
      (t.ctl.regime = .releasing → s.scrub.activity ≠ .paused → t.scrub.timer = .stopped ∧ t.scrub.due = false) ∧
      (t.ctl.regime = .running → s.ctl.memValid = true → s.scrub.activity ≠ .paused → t.scrub.due = false ∧
        t.scrub.timer = .running (if s.scrub.cold then s.settings.scrubInterval / 4 else s.settings.scrubInterval))) ∧
  (∀ (s : State) (h : Ring) (rest : List Ring) (w : Window), s.headers = h :: rest →
    s.ring (match h with
      | .command => .commandRing
      | .event => .eventRing) = some w →
    s.arbiter.mailbox = none → (∀ a, s.port = some a → a.requester ≠ .mailbox) →
    s.repair.reservation ≠ some (groupOf w.base) →
    mailboxPlace s = place
      (s.accessAt .mailbox .headerWrite true w.base (List.replicate 8 { data := 0, check := 0 })) s) ∧
  (∀ (s : State) (n : Nat), s.ctl.off = .running n → s.ctl.regime = .offCycle →
    ∃ t, exec .offTimerExpiry s = .next t ∧
      (s.thermal.readiness = true → t.ctl.regime = .soaking ∧ t.ctl.heatLimit = .held s.settings.heatLimit) ∧
      (s.thermal.readiness = false → t.ctl.regime = .heating ∧ t.ctl.heatLimit = .running s.settings.heatLimit) ∧
      t.ctl.power = false ∧ t.ctl.processorReset = true ∧ t.ctl.off = .stopped ∧ t.ctl.pendingForced = false ∧
      t.ctl.pendingDoubtful = false ∧ t.restarts = s.restarts) ∧
  (∀ (s : State) (a : Access) (h : Ring) (rest : List Ring), s.port = some a → a.purpose = .headerWrite →
    s.inMemory a = true → s.ctl.regime = .releasing → s.headers = h :: rest →
    (rest ≠ [] → ∃ t, exec .ringHeaderWriteComplete s = .next t ∧ t.headers = rest ∧ t.ctl = s.ctl) ∧
    (rest = [] → ∃ t, exec .ringHeaderWriteComplete s = .next t ∧ t.ctl.regime = .running ∧
      t.ctl.processorReset = false ∧ t.ctl.power = true ∧ t.clock.session = 0 ∧ t.clock.uptime = s.clock.uptime ∧
      t.ctl.sessionForced = s.ctl.pendingForced ∧ t.ctl.sessionDoubtful = s.ctl.pendingDoubtful ∧
      t.log.session = 0 ∧ t.log.entries = s.log.entries ∧ t.watch.lastStage = none ∧ t.trace = [] ∧
      t.dog.warnings = 0 ∧ t.dog.requestOut = false ∧ t.dog.reference = 0 ∧
      t.dog.period = BitVec.ofNat 16 s.settings.period ∧ t.dog.minInterval = BitVec.ofNat 16 s.settings.minInterval ∧
      (s.settings.autoArm = true → t.dog.state = .booting ∧ t.dog.timer = .bootLimit (1000 * s.settings.bootLimit)) ∧
      (s.settings.autoArm = false → t.dog.state = .disarmed ∧ t.dog.timer = .stopped) ∧
      (s.ctl.memValid = true → s.scrub.activity = .paused → t.scrub.due = false ∧
        t.scrub.timer = .running (if s.scrub.cold then s.settings.scrubInterval / 4 else s.settings.scrubInterval)))) ∧
  (∀ (s : State) (new : Regime),
    let t := changeRegime new s
    let lost : Prop := s.ctl.regime.powered = true ∧ new.powered = false
    let runs : Prop := s.ctl.memValid = true ∧ (new = .running ∨ new = .restarting)
    let length := if s.scrub.cold then s.settings.scrubInterval / 4 else s.settings.scrubInterval
    let act := s.scrub.activity
    let granted : Prop := act = .fixPair ∨ act = .sweepRead
    (lost → t.ctl.memValid = false ∧ t.mem = [] ∧ t.port = none ∧ t.front = none ∧ t.headers = [] ∧
      t.arbiter.front = none ∧ t.arbiter.mailbox = none ∧ t.arbiter.repair = none ∧ t.arbiter.scrub = none ∧
      t.scrub = { s.scrub with
        activity := .paused, fixList := [], position := 0, due := false, timer := .stopped, inHand := none } ∧
      t.repair = { s.repair with
        migration := none, reservation := none, requests := []
        abandoned := if s.repair.migration.isSome then satInc s.repair.abandoned else s.repair.abandoned }) ∧
    (¬ lost → t.repair = s.repair ∧ t.arbiter.repair = s.arbiter.repair ∧
      (runs → act = .paused →
        t.scrub.timer = .running length ∧ t.scrub.due = false ∧ t.scrub.position = s.scrub.position ∧
        t.scrub.count = s.scrub.count ∧ t.scrub.cold = s.scrub.cold ∧
        ((∀ x ∈ s.scrub.fixList, s.policyAt x.offset = .report) →
          t.scrub.activity = .idle ∧ t.scrub.fixList = [] ∧ t.scrub.inHand = none) ∧
        (∀ (dropped rest : List FixEntry) (e : FixEntry), s.scrub.fixList = dropped ++ e :: rest →
          (∀ x ∈ dropped, s.policyAt x.offset = .report) → s.policyAt e.offset = .correct →
          t.scrub.fixList = e :: rest ∧ t.scrub.inHand = some (.fix e) ∧
          (s.repair.reservation = some (groupOf e.offset) → t.scrub.activity = .groupWait) ∧
          (s.repair.reservation ≠ some (groupOf e.offset) → t.scrub.activity = .portWait ∧
            t.arbiter.scrub = some { access := s.accessAt .scrub .fixRead false e.offset [], passed := 0 }))) ∧
      (runs → granted → s.scrub.timer = .stopped →
        t.scrub = { s.scrub with timer := .running length } ∧ t.arbiter.scrub = s.arbiter.scrub) ∧
      (runs → act ≠ .paused → ¬ granted ∨ s.scrub.timer ≠ .stopped →
        t.scrub = s.scrub ∧ t.arbiter.scrub = s.arbiter.scrub) ∧
      (¬ runs → act = .paused → t.scrub = s.scrub ∧ t.arbiter.scrub = s.arbiter.scrub) ∧
      (¬ runs → granted →
        t.scrub = { s.scrub with timer := .stopped, due := false } ∧ t.arbiter.scrub = s.arbiter.scrub) ∧
      (¬ runs → act ≠ .paused → ¬ granted → t.arbiter.scrub = none ∧
        t.scrub = { s.scrub with timer := .stopped, due := false, inHand := none, activity := .paused })) ∧
    (s.ctl.regime = .preparing → new ≠ .preparing → t.arbiter.prep = none ∧
      t.prep = { activity := .idle, pass := 0, position := 0, step := .patternWrite, wait := .groupWait,
                 corrected := 0, uncorrectable := 0, retry := .stopped, range := none }))

/-- RESTART_REQUEST (R144 to R148, R150, R151, R22, R126, R135, R191). The times of the last ESCALATE_SPAN decide
whether a WARM request becomes COLD, and COLD_LIMIT whether a COLD one becomes HALT. Taken in RUNNING it becomes a
restart of the kind decided: the record, with the trace frozen into it, is the history's newest of at most 8; the
escalation state moves by kind; the regime becomes RESTARTING, OFF-CYCLE or HALTED, reset is asserted, and board power
and memory stay for WARM alone (that the contents are lost otherwise is deduced, assumption log 5); the window table is
the loaded copy's; the lock opens, the watchdog is SUSPENDED, and the KEY notices leave the queue and are counted as
missed (R191). A transaction that waits is discarded with its request, and a granted access of the front port, of the
mailbox unit or of a CHECK-RANGE stays at the port, marked as discarded (R14, R42, R116, R184), or ends with board
power; that a front transaction then stays in the front port until its access ends is deduced (assumption log 14); the
mailbox unit's request is withdrawn, its posting ended and its engine IDLE, but for FAULTED; a CHECK-RANGE is abandoned
(the idle engine's values are the model's choice, assumption log 31); scrubbing and repair go on at a WARM restart (R44,
R65), and their work is dropped at any other (R45, R64). Every SESSION watch entry is emptied and its hit flag clears,
every other entry and flag is kept (R126), but that a restart of cause TRIP-WATCH suppresses the trip senders that hold
a TRIP role, and no other entry (R125). Taken in any other regime it is discarded and changes nothing but the requests
and, for a chord, the outcome on its way; that an index at which no request is under way leaves the state unchanged is
the model's choice (assumption logs 1 and 11). -/
def Obligations.RestartRequests : Prop :=
  (∀ (s : State) (i : Nat) (q : RestartRequest), s.requests[i]? = some q → s.ctl.regime = .running →
    s.ctl.power = true →
    let kind := s.restartKind q.cold
    let n := satInc s.restarts.total
    let r : RestartRecord :=
      { number := n, cause := q.cause, requested := some (if q.cold then .cold else .warm), kind := kind,
        uptime := s.clock.uptime, session := s.clock.session, lastStage := s.watch.lastStage,
        warnings := s.dog.warnings, uncorrectable := s.log.session, hits := s.watch.hits, trace := some s.trace }
    let older := s.restarts.history.map fun x => { x with trace := none }
    ∃ u t, exec (.restartRequest i) s = .next t ∧ t = finish u ∧ t.requests = s.requests.eraseIdx i ∧
      t.outcomes = (match q.chord with
        | some tag => s.outcomes ++ [{ tag := tag, result := .taken }]
        | none => s.outcomes) ∧
      t.restarts.history = older.drop (older.length - 7) ++ [r] ∧ t.restarts.total = n ∧ t.trace = [] ∧
      t.restarts.escalation = (match kind with
        | .warm => s.recentRestarts ++ [s.clock.uptime]
        | .cold => []
        | _ => s.recentRestarts) ∧
      t.restarts.coldCount = (if kind = .cold then s.restarts.coldCount + 1 else s.restarts.coldCount) ∧
      t.ctl.regime = kind.regime ∧ t.ctl.processorReset = true ∧ t.ctl.power = decide (kind = .warm) ∧
      (kind = .warm → t.ctl.memValid = s.ctl.memValid ∧ t.mem = s.mem ∧ t.ctl.pulse = .running s.settings.restartPulse) ∧
      (kind = .cold → t.ctl.off = .running s.settings.offTime) ∧
      (kind ≠ .warm → t.ctl.memValid = false ∧ t.mem = [] ∧ t.port = none) ∧
      t.windows = s.settings.windows ∧ t.watch.lock = false ∧ t.watch.senders = [] ∧
      (∀ k : Nat, t.watch.entries[k]? = (s.watch.entries[k]?).map fun entry => entry.bind fun e =>
        if e.persistence = .session then none
        else if q.cause = .tripWatch ∧ k ∈ s.watch.senders ∧ e.role = .trip then some { e with suppressed := true }
        else some e) ∧
      (∀ k < 8, t.watch.hits.getLsbD k = true ↔ s.watch.hits.getLsbD k = true ∧
        ∀ e, s.watch.entries[k]? = some (some e) → e.persistence ≠ .session) ∧
      t.watch.lastStage = s.watch.lastStage ∧ t.watch.violations = s.watch.violations ∧ t.dog.state = .suspended ∧
      t.dog.timer = .stopped ∧ (∀ x ∈ t.queue, x.body.isKey = false) ∧ t.watchReports = [] ∧ t.snoopReports = [] ∧
      (s.engine.state ≠ .faulted → t.engine.state = .idle) ∧ t.log.entries = s.log.entries ∧
      t.repair.table = s.repair.table ∧ t.clock = s.clock ∧
      t.queue = (s.queue.filter fun n => decide (n.body.isKey = false)) ∧
      t.missed = satAdd s.missed (s.queue.filter fun n => n.body.isKey).length ∧ t.posting = none ∧
      t.engine = { s.engine with
        state := if s.engine.state = .faulted then .faulted else .idle
        faultPending := false, work := .none, waitTimer := .stopped } ∧
      t.events = s.events ∧ u.arbiter.mailbox = none ∧
      (s.prep.activity = .checking → u.arbiter.prep = none ∧
        u.prep = { activity := .idle, pass := 0, position := 0, step := .patternWrite, wait := .groupWait,
                   corrected := 0, uncorrectable := 0, retry := .stopped, range := none }) ∧
      (s.prep.activity ≠ .checking → u.arbiter.prep = s.arbiter.prep ∧ u.prep = s.prep) ∧
      (kind = .warm →
        (∀ x, s.front = some x → x.phase = .access → u.front = some x ∧ u.arbiter.front = s.arbiter.front) ∧
        (∀ x, s.front = some x → x.phase ≠ .access → u.front = none ∧ u.arbiter.front = none) ∧
        (s.front = none → u.front = none ∧ u.arbiter.front = s.arbiter.front) ∧
        u.port = (s.port.map fun a =>
          if a.requester = .front ∨ a.requester = .mailbox ∨ a.purpose = .checkRead then { a with discarded := true }
          else a) ∧
        u.repair = s.repair ∧ u.arbiter.repair = s.arbiter.repair ∧
        (s.ctl.memValid = true → s.scrub.activity ≠ .paused → s.scrub.timer ≠ .stopped →
          u.scrub = s.scrub ∧ u.arbiter.scrub = s.arbiter.scrub)) ∧
      (kind ≠ .warm → u.front = none ∧ u.port = none ∧ u.arbiter.front = none ∧ u.arbiter.repair = none ∧
        u.arbiter.scrub = none ∧ u.headers = [] ∧
        u.scrub = { s.scrub with
          activity := .paused, fixList := [], position := 0, due := false, timer := .stopped, inHand := none } ∧
        u.repair = { s.repair with
          migration := none, reservation := none, requests := []
          abandoned := if s.repair.migration.isSome then satInc s.repair.abandoned else s.repair.abandoned })) ∧
  (∀ (s : State) (i : Nat) (q : RestartRequest), s.requests[i]? = some q → s.ctl.regime ≠ .running →
    exec (.restartRequest i) s = .next (finish { s with
      requests := s.requests.eraseIdx i
      outcomes := match q.chord with
        | some tag => s.outcomes ++ [{ tag := tag, result := .discarded }]
        | none => s.outcomes })) ∧
  (∀ (s : State) (i : Nat), s.requests[i]? = none → exec (.restartRequest i) s = .next s) ∧
  (∀ (s : State) (x : BitVec 32), x ∈ s.recentRestarts ↔ x ∈ s.restarts.escalation ∧
    s.clock.uptime.toNat - x.toNat < s.settings.escalateSpan * 60) ∧
  (∀ (s : State) (cold : Bool),
    let becomesCold : Prop := cold = true ∨ s.recentRestarts.length = s.settings.escalateCount - 1
    (¬ becomesCold → s.restartKind cold = .warm) ∧
    (becomesCold → s.restarts.coldCount ≠ s.settings.coldLimit → s.restartKind cold = .cold) ∧
    (becomesCold → s.restarts.coldCount = s.settings.coldLimit → s.restartKind cold = .halt))

/-- The reset input, the hold release and the chord's outcome (R86, R87, R149, R171, R194). A level that differs from
the one last taken is filtered; when it has held it is taken, a press being a restart with cause RESET-INPUT in RUNNING,
a hold release in HALTED, and ignored elsewhere. A hold release empties the escalation state and begins a cold start,
and a RELEASE-HOLD chord in any other regime is discarded. The outcome of a chord ends its wait and queues the CHORD
notice. That the filter's event with nothing filtered, and an index at which no hold release or outcome is under way,
leave the state unchanged is the model's choice (assumption logs 1 and 11). -/
def Obligations.ResetAndHold : Prop :=
  (∀ (s : State) (level : Bool), exec (.resetInputLevelChange level) s = .next { s with
    resetInput := { s.resetInput with raw := level, filtering := decide (level ≠ s.resetInput.filtered) } }) ∧
  (∀ s : State, s.resetInput.filtering = false → exec .resetInputEvent s = .next s) ∧
  (∀ s : State, s.resetInput.filtering = true →
    let s1 : State := { s with resetInput := { s.resetInput with filtered := s.resetInput.raw, filtering := false } }
    (s.resetInput.raw = false → exec .resetInputEvent s = .next (finish s1)) ∧
    (s.resetInput.raw = true → s.ctl.regime = .running →
      exec .resetInputEvent s = .next (finish (takeRestart .resetInput false s1))) ∧
    (s.resetInput.raw = true → s.ctl.regime = .halted →
      exec .resetInputEvent s = .next (finish (enterHeating { s1 with
        restarts := { s.restarts with escalation := [], coldCount := 0 } }))) ∧
    (s.resetInput.raw = true → s.ctl.regime ≠ .running → s.ctl.regime ≠ .halted →
      exec .resetInputEvent s = .next (finish s1))) ∧
  (∀ (s : State) (i : Nat) (tag : ChordTag), s.holdReleases[i]? = some tag →
    (s.ctl.regime = .halted → ∃ t, exec (.holdRelease i) s = .next t ∧
      t.restarts = { s.restarts with escalation := [], coldCount := 0 } ∧
      t.outcomes = s.outcomes ++ [{ tag := tag, result := .taken }] ∧ t.holdReleases = s.holdReleases.eraseIdx i ∧
      t.ctl.regime = (if s.thermal.readiness then .soaking else .heating) ∧ t.ctl.processorReset = true ∧
      t.ctl.power = false ∧ t.ctl.pendingForced = false ∧ t.ctl.pendingDoubtful = false ∧ t.watch = s.watch ∧
      t.dog = s.dog) ∧
    (s.ctl.regime ≠ .halted → exec (.holdRelease i) s = .next (finish { s with
      holdReleases := s.holdReleases.eraseIdx i
      outcomes := s.outcomes ++ [{ tag := tag, result := .discarded }] }))) ∧
  (∀ (s : State) (i : Nat) (o : ChordOutcome), s.outcomes[i]? = some o → o.tag.chord < s.keypad.chords.length →
    let c := s.chord o.tag.chord
    let s1 : State := { s with
      outcomes := s.outcomes.eraseIdx i
      keypad := { s.keypad with chords := s.keypad.chords.set o.tag.chord { c with awaited := false } } }
    exec (.chordOutcome i) s = .next (finish (queueNotice
      (.chord o.tag.chord c.chord.action c.chord.members o.result o.tag.regime) s1))) ∧
  (∀ (s : State) (i : Nat), (s.holdReleases[i]? = none → exec (.holdRelease i) s = .next s) ∧
    (s.outcomes[i]? = none → exec (.chordOutcome i) s = .next s))

/-! ## The watchdog and the time bases -/

/-- The expiries of the watchdog's timer (R136 to R138, R140), the lamp (R101) and the two time bases (R81, R82). The
lamp's pattern by regime: in RUNNING off, or steady with the error state, DOUBTFUL or DEFAULTS; fast in OVERHEAT, HALTED
and OFF-CYCLE; slow in the others. It is decided afresh at every change of regime and of the error state, and a newly
selected pattern starts with its on phase (what stands for that phase is assumption log 21). An expiry in its state
sends its request with request out set, or leads from ARMED to WARNED with the warning counted and its notice queued; an
expiry of a timer that is not running so changes nothing (assumption log 1). Uptime and session time saturate. That
session time stands still before the first entry into RUNNING is the model's reading (assumption log 10). -/
def Obligations.TimersAndTicks : Prop :=
  (∀ (s : State) (n : Nat), s.dog.state = .booting → s.dog.timer = .bootLimit n →
    exec .bootLimitExpiry s = .next { s with
      dog := { s.dog with requestOut := true, timer := .stopped }
      requests := s.requests ++ [{ cause := .bootLimit, cold := false, chord := none }] }) ∧
  (∀ (s : State) (n : Nat), s.dog.state = .armed → s.dog.timer = .period n →
    exec .periodExpiry s = .next (finish (queueNotice
      (.warning (satInc s.dog.warnings) s.dog.period s.dog.warnWindow (satSub s.clock.session s.dog.reference))
      { s with dog := { s.dog with
          state := .warned, warnings := satInc s.dog.warnings, timer := .warnWindow s.dog.warnWindow.toNat } }))) ∧
  (∀ (s : State) (n : Nat), s.dog.state = .warned → s.dog.timer = .warnWindow n →
    exec .warnWindowExpiry s = .next { s with
      dog := { s.dog with requestOut := true, timer := .stopped }
      requests := s.requests ++ [{ cause := .kickExpiry, cold := false, chord := none }] }) ∧
  (∀ s : State,
    ((∀ n, s.dog.timer ≠ .bootLimit n) → exec .bootLimitExpiry s = .next s) ∧
    ((∀ n, s.dog.timer ≠ .period n) → exec .periodExpiry s = .next s) ∧
    ((∀ n, s.dog.timer ≠ .warnWindow n) → exec .warnWindowExpiry s = .next s)) ∧
  (∀ s : State,
    (s.lamp.pattern = .slow ∨ s.lamp.pattern = .fast →
      exec .lampBlinkToggle s = .next { s with lamp := { s.lamp with lit := !s.lamp.lit } }) ∧
    (s.lamp.pattern = .off ∨ s.lamp.pattern = .steady → exec .lampBlinkToggle s = .next s)) ∧
  (∀ (r : Regime) (error doubtful defaults : Bool), lampPattern r error doubtful defaults =
    if r = .running then (if error = true ∨ doubtful = true ∨ defaults = true then .steady else .off)
    else if r = .overheat ∨ r = .halted ∨ r = .offCycle then .fast else .slow) ∧
  (∀ s : State,
    let p := lampPattern s.ctl.regime s.lamp.error s.ctl.sessionDoubtful s.loader.defaultsFlag
    (p = s.lamp.pattern → lampUpdate s = s) ∧
    (p ≠ s.lamp.pattern →
      lampUpdate s = { s with lamp := { s.lamp with pattern := p, lit := decide (p ≠ .off) } })) ∧
  (∀ (new : Regime) (s : State),
    let t := changeRegime new s
    t.lamp.error = s.lamp.error ∧ t.lamp.pattern = lampPattern new s.lamp.error
      (if new = .running then s.ctl.pendingDoubtful else s.ctl.sessionDoubtful) s.loader.defaultsFlag) ∧
  (∀ (d : Detection) (s : State), d.severity = .uncorrectable → s.ctl.regime = .running →
    (detect d s).lamp.error = true ∧ (detect d s).lamp.pattern = .steady) ∧
  (∀ s : State, (enterReleasing s).lamp.error = false) ∧
  (∀ s : State,
    exec .uptimeTick s = .next { s with clock := { s.clock with
      uptime := if s.clock.uptime = 0xFFFFFFFF#32 then 0xFFFFFFFF#32 else s.clock.uptime + 1 } } ∧
    (s.clock.begun = true → exec .sessionTimeTick s = .next { s with clock := { s.clock with
      session := if s.clock.session = 0xFFFFFFFF#32 then 0xFFFFFFFF#32 else s.clock.session + 1 } }) ∧
    (s.clock.begun = false → exec .sessionTimeTick s = .next s))

/-! ## The keypad -/

/-- SCAN_SAMPLE (R156 to R158, R160 to R166, R173): the scan timer restarts and the sample is processed whole, step by
step; what the debounce of one position does with its contact, what the time of a position that has stayed in DOWN does,
with its REPEATs up to 255 made, and how a BLOCKED position is tested again: one that is still a ghost stays, and one
that is no longer a ghost becomes DOWN with its times 0, with a PRESS where it is reportable in RUNNING (R161). A
stopped scan timer gives no sample (the model's choice, assumption log 1). -/
def Obligations.ScanSamples : Prop :=
  (∀ (s : State) (n : Nat) (contacts : BitVec 64), s.keypad.scanTimer = .running n →
    let s0 : State := { s with keypad := { s.keypad with scanTimer := .running s.settings.scanPeriod } }
    let matrix := (List.range 64).filter fun p => decide (p / 8 < s.settings.rows) && decide (p % 8 < s.settings.cols)
    let s1 := matrix.foldl (debounceKey contacts) s0
    let s2 := (matrix.filter fun p => decide ((s0.key p).state = .down) && decide ((s1.key p).state = .down)).foldl
      advanceKey s1
    let s3 := matrix.foldl retestKey s2
    exec (.scanSample contacts) s = .next (finish ((List.range 4).foldl judgeChord s3))) ∧
  (∀ (s : State) (contacts : BitVec 64), (∀ n, s.keypad.scanTimer ≠ .running n) →
    exec (.scanSample contacts) s = .next s) ∧
  (∀ (s : State) (p : Nat) (contacts : BitVec 64),
    let k := s.key p
    let set (x : KeyPosition) : State := { s with keypad := { s.keypad with positions := s.keypad.positions.set p x } }
    let loud : Prop := s.reportable p = true ∧ s.ctl.regime = .running
    let rest (state : KeyState) : KeyPosition :=
      { k with state := state, countdown := 0, held := 0, repeatTime := 0, repeats := 0, announced := false }
    let length := if s.keypad.coldDebounce then s.settings.debounceCold else s.settings.debounce
    let t := debounceKey contacts s p
    (contacts.getLsbD p = true →
      (k.state = .up → t = set { k with state := .pressing, countdown := length }) ∧
      (k.state = .pressing → 1 < k.countdown → t = set { k with countdown := k.countdown - 1 }) ∧
      (k.state = .pressing → k.countdown ≤ 1 → s.isGhost p = true → t = set (rest .blocked)) ∧
      (k.state = .pressing → k.countdown ≤ 1 → s.isGhost p = false → ¬ loud → t = set (rest .down)) ∧
      (k.state = .pressing → k.countdown ≤ 1 → s.isGhost p = false → loud →
        t = queueNotice (.key .press p (s.keyMap p).code none none) (set { rest .down with announced := true })) ∧
      (∀ l, k.state = .releasing l → t = set { k with state := l.state, countdown := 0 }) ∧
      (k.state = .down ∨ k.state = .blocked ∨ k.state = .stuck → t = s)) ∧
    (contacts.getLsbD p = false →
      (k.state = .up → t = s) ∧
      (k.state = .pressing → t = set { k with state := .up, countdown := 0 }) ∧
      (k.state = .down → t = set { k with state := .releasing .down, countdown := length }) ∧
      (k.state = .blocked → t = set { k with state := .releasing .blocked, countdown := length }) ∧
      (k.state = .stuck → t = set { k with state := .releasing .stuck, countdown := length }) ∧
      (∀ l, k.state = .releasing l → 1 < k.countdown → t = set { k with countdown := k.countdown - 1 }) ∧
      (∀ l, k.state = .releasing l → k.countdown ≤ 1 →
        (l = .down → k.announced = true →
          t = queueNotice (.key .release p (s.keyMap p).code none none) (set (rest .up))) ∧
        (l = .stuck → loud → t = queueNotice (.key .unstuck p (s.keyMap p).code none none) (set (rest .up))) ∧
        (l = .blocked ∨ (l = .down ∧ k.announced = false) ∨ (l = .stuck ∧ ¬ loud) → t = set (rest .up))))) ∧
  (∀ (s : State) (p : Nat),
    let k := s.key p
    let set (x : KeyPosition) : State := { s with keypad := { s.keypad with positions := s.keypad.positions.set p x } }
    let held := k.held + s.settings.scanPeriod
    let stuck : KeyPosition := { k with
      state := .stuck, held := held, announced := false, stuckCount := satInc k.stuckCount, repeatTime := 0, repeats := 0 }
    let loud : Prop := s.reportable p = true ∧ s.ctl.regime = .running
    (s.settings.stuckTime * 1000 ≤ held → ¬ loud → advanceKey s p = set stuck) ∧
    (s.settings.stuckTime * 1000 ≤ held → loud →
      advanceKey s p = queueNotice (.key .stuck p (s.keyMap p).code none (some (satInc k.stuckCount))) (set stuck)) ∧
    (held < s.settings.stuckTime * 1000 → k.announced = false → p < s.keypad.positions.length →
      advanceKey s p = set { k with held := held }) ∧
    (held < s.settings.stuckTime * 1000 → k.announced = true → p < s.keypad.positions.length → k.repeats ≠ 255 →
      let time := k.repeatTime + s.settings.scanPeriod
      let due : Prop := s.settings.repeatDelay + k.repeats.toNat * s.settings.repeatInterval ≤ time
      let made : State := set { k with held := held, repeatTime := time, repeats := satInc k.repeats }
      (¬ due → advanceKey s p = set { k with held := held, repeatTime := time }) ∧
      (due → (s.keyMap p).repeats = false → advanceKey s p = made) ∧
      (due → (s.keyMap p).repeats = true →
        advanceKey s p = queueNotice (.key .repeats p (s.keyMap p).code (some (satInc k.repeats)) none) made))) ∧
  (∀ (s : State) (p : Nat), (s.key p).state ≠ .blocked ∨ s.isGhost p = true → retestKey s p = s) ∧
  (∀ (s : State) (p : Nat), (s.key p).state = .blocked → s.isGhost p = false →
    let set (x : KeyPosition) : State := { s with keypad := { s.keypad with positions := s.keypad.positions.set p x } }
    let loud : Prop := s.reportable p = true ∧ s.ctl.regime = .running
    let down : KeyPosition := { s.key p with
      state := .down, countdown := 0, held := 0, repeatTime := 0, repeats := 0, announced := false }
    (¬ loud → retestKey s p = set down) ∧
    (loud → retestKey s p =
      queueNotice (.key .press p (s.keyMap p).code none none) (set { down with announced := true }))) ∧
  (∀ (s : State) (p : Nat), s.reportable p = true ↔
    p / 8 < s.settings.rows ∧ p % 8 < s.settings.cols ∧ (s.keyMap p).code ≠ 255 ∧ (s.keyMap p).chordOnly = false) ∧
  (∀ (s : State) (p : Nat), s.isGhost p = true ↔ ∃ r < s.settings.rows, ∃ c < s.settings.cols, r ≠ p / 8 ∧ c ≠ p % 8 ∧
    (s.key (p / 8 * 8 + c)).state.held = true ∧ (s.key (r * 8 + p % 8)).state.held = true ∧
    (s.key (r * 8 + c)).state.held = true)

/-- One chord at the end of a sample (R170 to R172): spent clears when no member is held; while the condition fails the
counter stands at 0; a condition that has just begun to hold starts the counter, and one that goes on holding advances
it by SCAN_PERIOD; when it reaches the hold time the chord is spent, its members are no longer announced, and its action
is asked for, or noted where it is SERVICE-NOTE. -/
def Obligations.Chords : Prop :=
  (∀ (s : State) (c : ChordRecord), s.chordHolds c = true ↔ c.chord.enabled = true ∧ c.spent = false ∧
    (∀ p ∈ c.chord.members, (s.key p).state = .down ∨ (s.key p).state = .releasing .down) ∧
    (∀ p < 64, p ∉ c.chord.members → (s.keyMap p).code ≠ 255 →
      (s.key p).state ≠ .down ∧ (s.key p).state ≠ .releasing .down)) ∧
  (∀ (s : State) (i : Nat), i < s.keypad.chords.length →
    let held (p : Nat) : Prop := (s.key p).state = .down ∨ (s.key p).state = .blocked ∨
      (s.key p).state = .releasing .down ∨ (s.key p).state = .releasing .blocked
    let old := s.chord i
    let t := judgeChord s i
    ∀ c : ChordRecord, ((∃ p ∈ old.chord.members, held p) → c = old) →
      ((∀ p ∈ old.chord.members, ¬ held p) → c = { old with spent := false }) →
      let put (x : ChordRecord) : State := { s with keypad := { s.keypad with chords := s.keypad.chords.set i x } }
      let n := c.counter + s.settings.scanPeriod
      let tag : ChordTag := { chord := i, regime := s.ctl.regime }
      let fires : Prop := s.chordHolds c = true ∧ c.counting = true ∧ c.chord.hold ≤ n
      (s.chordHolds c = false → t = put { c with counting := false, counter := 0 }) ∧
      (s.chordHolds c = true → c.counting = false → t = put { c with counting := true, counter := 0 }) ∧
      (s.chordHolds c = true → c.counting = true → n < c.chord.hold → t = put { c with counter := n }) ∧
      (fires →
        (t.chord i).spent = true ∧ (t.chord i).counting = false ∧ (t.chord i).counter = 0 ∧
        (∀ p ∈ c.chord.members, (t.key p).announced = false) ∧
        (∀ p, (t.key p).state = (s.key p).state) ∧ (∀ j, j ≠ i → t.chord j = s.chord j) ∧
        (c.chord.action = .warmRestart → (t.chord i).awaited = true ∧ t.holdReleases = s.holdReleases ∧
          t.queue = s.queue ∧ t.requests = s.requests ++ [{ cause := .chord, cold := false, chord := some tag }]) ∧
        (c.chord.action = .coldRestart → (t.chord i).awaited = true ∧ t.holdReleases = s.holdReleases ∧
          t.queue = s.queue ∧ t.requests = s.requests ++ [{ cause := .chord, cold := true, chord := some tag }]) ∧
        (c.chord.action = .releaseHold → (t.chord i).awaited = true ∧ t.requests = s.requests ∧
          t.queue = s.queue ∧ t.holdReleases = s.holdReleases ++ [tag]) ∧
        (c.chord.action = .serviceNote → t.requests = s.requests ∧ t.holdReleases = s.holdReleases ∧
          (s.queue.length < 32 → t.queue = s.queue ++ [{
            session := s.clock.session
            body := .chord i .serviceNote c.chord.members .noted s.ctl.regime }]))))

/-- SET-KEY (R174): illegal arguments are refused; else the entry takes the new code and flags, and a position that is
not reportable with it is no longer announced. -/
def Obligations.SetKey : Prop :=
  ∀ s : State, s.handed .setKey →
    let p := s.arg 2
    let legal : Prop := p < 64 ∧ s.arg 3 ≤ 255 ∧ s.arg 4 ≤ 1 ∧ s.arg 5 ≤ 1
    let e : KeyEntry :=
      { code := BitVec.ofNat 8 (s.arg 3), repeats := decide (s.arg 4 = 1), chordOnly := decide (s.arg 5 = 1) }
    let s1 : State := { s with keypad := { s.keypad with map := s.keypad.map.set p e } }
    (¬ legal → exec .setKey s = .next (finish (completeCommand .refusedArgument [] s))) ∧
    (legal → s1.reportable p = true → exec .setKey s = .next (finish (completeCommand .done [] s1))) ∧
    (legal → s1.reportable p = false → exec .setKey s = .next (finish (completeCommand .done [] { s1 with
      keypad := { s1.keypad with positions := s.keypad.positions.set p { s.key p with announced := false } } })))

/-! ## The mailbox unit -/

/-- The fetch, the decision, and the completion of a command (R179, R180, R182, R198). A fetched record with a poisoned
word completes REFUSED-ARGUMENT, one whose code names no command UNKNOWN, and any other is handed to its owner. A
completion keeps the code word, gives the status and the results, and leaves the words no result reaches as fetched;
after the completion write comes the done write, and then the next fetch, IDLE or FAULTED. The accesses: the fetch is a
line read of slot (done index mod N), at base + 64·(1 + k) for slot k; the completion write a line write of the
completion's words there; the done write a word write of the done index plus 1, wrapping at 2N, at the window's word 1
(R176, R179, R182). The 23 codes are those of R198, and so are the status codes. A command that is not handed over is
not taken (the model's choice, assumption logs 1 and 26). -/
def Obligations.FetchAndCompletion : Prop :=
  (∀ (s : State) (flips : List MemWord) (a : Access), s.port = some a → a.purpose = .fetch → s.inMemory a = true →
    let r := readWords s.memEpoch flips (s.accessAddress a) a.count s.mem
    let s1 : State := { s with port := none, mem := r.2 }
    let ws := r.1.map (formed (s.policyAt a.offset))
    let s2 : State := { s1 with engine := { s.engine with state := .executing, record := ws.map (·.1) } }
    let code := CommandCode.ofWord ((ws.map (·.1)).getD 0 0)
    (a.discarded = true → exec (.commandFetchComplete flips) s = .next (finish s1)) ∧
    (a.discarded = false → (∃ x ∈ ws, x.2 = true) →
      exec (.commandFetchComplete flips) s = .next (finish (completeCommand .refusedArgument [] s2))) ∧
    (a.discarded = false → (∀ x ∈ ws, x.2 = false) →
      (code = none → exec (.commandFetchComplete flips) s = .next (finish (completeCommand .unknown [] s2))) ∧
      (∀ c, code = some c → exec (.commandFetchComplete flips) s = .next (finish { s2 with
        engine := { s2.engine with work := .handed c } })))) ∧
  (∀ (s : State) (a : Access), s.port = some a → s.inMemory a = true →
    let s1 := clearCarried a { s with port := none, mem := writeWords a.words (s.accessAddress a) s.mem }
    let next := (s.engine.done + 1) % (2 * s.settings.cmdRingSlots)
    (a.purpose = .completionWrite → a.discarded = false → exec .completionWriteComplete s = .next (finish { s1 with
      engine := { s.engine with work := .doneWrite } })) ∧
    (a.purpose = .completionWrite → a.discarded = true → exec .completionWriteComplete s = .next (finish s1)) ∧
    (a.purpose = .doneWrite → a.discarded = true → exec .doneWriteComplete s = .next (finish s1)) ∧
    (a.purpose = .doneWrite → a.discarded = false → s.ctl.regime = .running →
      (s.engine.faultPending = true → exec .doneWriteComplete s = .next (finish { s1 with engine := { s.engine with
        done := next, work := .none, faultPending := false, state := .faulted } })) ∧
      (s.engine.faultPending = false → next ≠ s.engine.submit →
        exec .doneWriteComplete s = .next (finish { s1 with engine := { s.engine with
          done := next, work := .none, state := .fetching, record := [] } })) ∧
      (s.engine.faultPending = false → next = s.engine.submit →
        exec .doneWriteComplete s = .next (finish { s1 with engine := { s.engine with
          done := next, work := .none, state := .idle } })))) ∧
  (∀ (s : State) (status : Status) (results : List Byte), results.length ≤ 48 →
    let t := completeCommand status results s
    ∃ ws, t.engine = { s.engine with state := .completing, work := .completion ws, waitTimer := .stopped } ∧
      ws.length = 8 ∧ ws[0]? = some (s.recordWord 0) ∧ ws[1]? = some (BitVec.ofNat 64 status.code) ∧
      (∀ i < results.length, wordByte (ws.getD (2 + i / 8) 0) (i % 8) = results.getD i 0) ∧
      (∀ k, k < 6 → results.length ≤ 8 * k → ws[2 + k]? = some (s.recordWord (2 + k))) ∧
      t = { s with engine := t.engine, freeCount := s.freeCount + 1 }) ∧
  (∀ (c : Instr) (code : CommandCode) (s : State), commandOf c = some code → ¬ s.handed code → exec c s = .next s) ∧
  (∀ (s : State) (w : Window), s.ring .commandRing = some w →
    let n := s.settings.cmdRingSlots
    let slot := w.base + 64 * (1 + s.engine.done % n)
    (s.engine.state = .fetching → engineAccess s = some (s.accessAt .mailbox .fetch true slot [])) ∧
    (s.engine.state = .completing →
      (∀ ws, s.engine.work = .completion ws →
        engineAccess s = some (s.accessAt .mailbox .completionWrite true slot (ws.map made))) ∧
      (s.engine.work = .doneWrite → engineAccess s = some (s.accessAt .mailbox .doneWrite false (w.base + 8)
        [made (BitVec.ofNat 64 ((s.engine.done + 1) % (2 * n)))])))) ∧
  (let codes : List (Nat × CommandCode) :=
      [(0x01, .status), (0x10, .setWindow), (0x11, .clearWindow), (0x12, .readWindow), (0x20, .takeError),
       (0x21, .diagRead), (0x22, .diagWrite), (0x30, .repairGroup), (0x31, .readRepairs), (0x40, .readThermal),
       (0x50, .checkRange), (0x60, .setWatch)] ++
      [(0x61, .clearWatch), (0x62, .readWatch), (0x63, .takeWatchHits), (0x64, .lockWatch), (0x70, .armWatchdog),
       (0x71, .disarmWatchdog), (0x72, .restart), (0x73, .readRestart), (0x74, .readTrace), (0x80, .setKey),
       (0x81, .readKeys)]
   codes.length = 23 ∧
   (∀ x ∈ codes, ∀ w : Word, w.toNat = x.1 → CommandCode.ofWord w = some x.2) ∧
   (∀ w : Word, (∀ x ∈ codes, w.toNat ≠ x.1) → CommandCode.ofWord w = none)) ∧
  [Status.done, .refusedArgument, .refusedState, .refusedLocked, .refusedShielded, .unknown, .timeout].map Status.code =
    [1, 2, 3, 4, 5, 6, 7]

/-- The wait limit (R181, R39, R69, R115) and the completions of the DIAG accesses (R40 to R42). At the limit the
command completes TIMEOUT, a CHECK-RANGE with its counts and the offset of the group it waited on, the preparation
engine then IDLE (that all of its fields then return to their values at part power-on is the model's choice, assumption
log 31), and a REPAIR-GROUP with its request left in place. An expiry while no command waits leaves the state unchanged
(the model's choice, assumption log 1). DIAG-READ gives the word as stored, its check bits, its syndrome and its
location; no DIAG access makes a detection. An abandoned access completes no command. -/
def Obligations.WaitsAndDiagAccess : Prop :=
  (∀ (s : State) (n : Nat), s.engine.state = .waiting → s.engine.waitTimer = .running n →
    (s.engine.work ≠ .checkRange →
      exec .cmdWaitExpiry s = .next (finish (completeCommand .timeout [] s))) ∧
    (∀ g, s.engine.work = .checkRange → s.prep.range = some g →
      exec .cmdWaitExpiry s = .next (finish (completeCommand .timeout
        (le 2 g.checked ++ le 4 g.single ++ le 4 g.uncorrectable ++ le 4 (64 * s.prep.position))
        { s with prep := Prep.initial })))) ∧
  (∀ s : State, s.engine.state ≠ .waiting ∨ (∀ n, s.engine.waitTimer ≠ .running n) →
    exec .cmdWaitExpiry s = .next s) ∧
  (∀ (s : State) (flips : List MemWord) (a : Access), s.port = some a → a.purpose = .diagRead → a.line = false →
    s.inMemory a = true →
    let r := readWord s.memEpoch (flips.headD noFlip) (s.accessAddress a) s.mem
    let s1 : State := { s with port := none, mem := r.2 }
    (a.discarded = false → exec (.diagWordReadComplete flips) s = .next (finish (completeCommand .done
      (wordBytes r.1.data ++ [r.1.check] ++ [r.1.check ^^^ checkBits r.1.data] ++
        (match a.loc with
          | .home => [0, 0xFF]
          | .spare slot => [1, BitVec.ofNat 8 slot])) s1))) ∧
    (a.discarded = true → exec (.diagWordReadComplete flips) s = .next (finish s1))) ∧
  (∀ (s : State) (a : Access), s.port = some a → a.purpose = .diagWrite → s.inMemory a = true →
    let s1 : State := { s with port := none, mem := writeWords a.words (s.accessAddress a) s.mem }
    (a.discarded = false → exec .diagWordWriteComplete s = .next (finish (completeCommand .done [] s1))) ∧
    (a.discarded = true → exec .diagWordWriteComplete s = .next (finish s1)))

/-- The posting of the oldest notice (R183, R187, R199): where the conditions hold and the command engine has no access
to make, the first entry word is asked for and the missed count taken; each entry word leads to the next and the fourth
to the produce write; when that completes in RUNNING, the produce copy advances, the entry leaves the queue and the
missed count falls by what it carried; outside RUNNING nothing is removed. The 32 bytes of an entry, by kind (R199; the
codes are those of ReportingCommands). The mailbox unit's one request (R183): none while it has one at the arbiter or an
access at the port; where no header write comes first, the access of the engine or of the posting, whichever has one to
make in a group that is not reserved; where both have, the one that did not have the previous MAILBOX grant, the engine
where neither had it. -/
def Obligations.Postings : Prop :=
  (∀ (s : State) (w : Window) (n : Notice) (rest : List Notice), s.arbiter.mailbox = none → s.port = none →
    s.headers = [] → s.engine.state = .idle → s.posting = none → s.ctl.regime = .running → s.events.state = .armed →
    s.queue = n :: rest → s.ring .eventRing = some w →
    indexDistance s.settings.eventRingEntries s.events.consume s.events.produce < s.settings.eventRingEntries →
    let o := w.base + 64 + 32 * (s.events.produce % s.settings.eventRingEntries)
    let words := n.entryWords s.missed
    (s.repair.reservation = some (groupOf o) → mailboxPlace s = s) ∧
    (s.repair.reservation ≠ some (groupOf o) → mailboxPlace s =
      place (s.accessAt .mailbox .entryWrite false o [made (words.getD 0 0)])
        { s with posting := some { step := 0, missed := s.missed, words := words } })) ∧
  (∀ (s : State) (p : Posting) (w : Window), s.ring .eventRing = some w →
    (p.step < 4 → postingAccess s p = some (s.accessAt .mailbox .entryWrite false
      (w.base + 64 + 32 * (s.events.produce % s.settings.eventRingEntries) + 8 * p.step)
      [made (p.words.getD p.step 0)])) ∧
    (4 ≤ p.step → postingAccess s p = some (s.accessAt .mailbox .produceWrite false w.base
      [made (BitVec.ofNat 64 ((s.events.produce + 1) % (2 * s.settings.eventRingEntries)))]))) ∧
  (∀ (s : State) (a : Access) (p : Posting), s.port = some a → s.inMemory a = true → s.posting = some p →
    let s1 := clearCarried a { s with port := none, mem := writeWords a.words (s.accessAddress a) s.mem }
    (a.purpose = .entryWrite → a.discarded = false → exec .eventEntryWordWriteComplete s = .next (finish { s1 with
      posting := some { p with step := p.step + 1 } })) ∧
    (a.purpose = .produceWrite → a.discarded = false → s.ctl.regime = .running →
      exec .produceWriteComplete s = .next (finish { s1 with
        events := { s.events with produce := (s.events.produce + 1) % (2 * s.settings.eventRingEntries) }
        queue := s.queue.tail
        missed := satSub s.missed p.missed
        posting := none }))) ∧
  (∀ (s : State) (a : Access), s.port = some a → s.inMemory a = true →
    let s1 := clearCarried a { s with port := none, mem := writeWords a.words (s.accessAddress a) s.mem }
    (a.purpose = .entryWrite → a.discarded = true → exec .eventEntryWordWriteComplete s = .next (finish s1)) ∧
    (a.purpose = .produceWrite → a.discarded = true ∨ s.ctl.regime ≠ .running →
      exec .produceWriteComplete s = .next (finish s1))) ∧
  (∀ (n : Notice) (missed : Byte) (i : Nat), i < 32 →
    let byte (v : Nat) : Byte := BitVec.ofNat 8 v
    let part (v : Option Nat) : Byte := match v with
      | some v => byte v
      | none => 0xFF
    let kind : Byte := match n.body with
      | .key .. => 1
      | .chord .. => 2
      | .warning .. => 3
      | .error .. => 4
      | .repair .. => 5
      | .thermal .. => 6
    let body : List Byte := match n.body with
      | .error o loc syn severity source requested =>
        le 4 o ++ (match loc with
          | .home => [0, 0xFF]
          | .spare slot => [1, byte slot]) ++
        [syn, byte severity.code, byte source.code, if requested then 1 else 0]
      | .repair r =>
        le 4 r.group ++ [byte r.outcome.code, part r.newSlot, part r.oldSlot, r.carried.getD 0] ++
        (match r.reRepairs with
          | some v => le 2 v.toNat
          | none => [0xFF, 0xFF]) ++ [byte r.free]
      | .thermal event channel role reading regime =>
        [byte event.code, byte channel, byte role.code, byte regime.code] ++
        (match reading with
          | some t => le 2 (BitVec.ofInt 16 t).toNat
          | none => [0xFF, 0x7F])
      | .warning warnings period window sinceKick =>
        [warnings, 0, 0, 0] ++ le 2 period.toNat ++ le 2 window.toNat ++ le 4 sinceKick.toNat
      | .key event p code repeats stuckCount => [byte event.code, byte p, code, repeats.getD 0, stuckCount.getD 0]
      | .chord which action members result regime =>
        [byte which, byte action.code, byte result.code, byte regime.code, byte members.length] ++
        (List.range 3).map fun k => part (((List.range 64).filter fun p => members.contains p)[k]?)
    wordByte ((n.entryWords missed).getD (i / 8) 0) (i % 8) =
      ([kind, missed, 0, 0] ++ le 4 n.session.toNat ++ body).getD i 0) ∧
  (∀ s : State, s.arbiter.mailbox.isSome = true ∨ (∃ x, s.port = some x ∧ x.requester = .mailbox) →
    mailboxPlace s = s) ∧
  (∀ s : State, s.arbiter.mailbox = none → (∀ x, s.port = some x → x.requester ≠ .mailbox) →
    (∀ (h : Ring) (rest : List Ring) (w : Window), s.headers = h :: rest →
      s.ring (match h with
        | .command => .commandRing
        | .event => .eventRing) = some w → s.repair.reservation = some (groupOf w.base)) →
    let free (x : Access) : Prop := s.repair.reservation ≠ some (groupOf x.offset)
    let ready : Prop := s.ctl.regime = .running ∧ s.events.state = .armed ∧
      indexDistance s.settings.eventRingEntries s.events.consume s.events.produce < s.settings.eventRingEntries
    let starts (p : Posting) : Prop := s.posting = none ∧ ready ∧ ∃ n rest, s.queue = n :: rest ∧
      p = { step := 0, missed := s.missed, words := n.entryWords s.missed }
    (∀ (p : Posting) (a : Access), s.posting = some p ∨ starts p → postingAccess s p = some a →
      let placed := place a { s with posting := some p }
      (∀ e, engineAccess s = some e →
        (free a → free e → s.lastUser = some .engine → mailboxPlace s = placed) ∧
        (free a → free e → s.lastUser ≠ some .engine → mailboxPlace s = place e s) ∧
        (free a → ¬ free e → mailboxPlace s = placed) ∧
        (¬ free a → free e → mailboxPlace s = place e s) ∧
        (¬ free a → ¬ free e → mailboxPlace s = s)) ∧
      (engineAccess s = none → (free a → mailboxPlace s = placed) ∧ (¬ free a → mailboxPlace s = s))) ∧
    (s.ring .eventRing = none ∨ (s.posting = none ∧ (¬ ready ∨ s.queue = [])) →
      (∀ e, engineAccess s = some e →
        (free e → mailboxPlace s = place e s) ∧ (¬ free e → mailboxPlace s = s)) ∧
      (engineAccess s = none → mailboxPlace s = s))) ∧
  (∀ (s : State) (r : Requester) (w : Waiting), s.port = none → s.ctl.power = true → s.arbiter.pick = some (r, w) →
    (r ≠ .mailbox → (grant s).lastUser = s.lastUser) ∧
    (r = .mailbox →
      (w.access.purpose ∈ [.fetch, .completionWrite, .doneWrite, .diagRead, .diagWrite] →
        (grant s).lastUser = some .engine) ∧
      (w.access.purpose ∈ [.entryWrite, .produceWrite] → (grant s).lastUser = some .posting) ∧
      (w.access.purpose = .headerWrite → (grant s).lastUser = none)))

/-- A notice arriving at the queue (R189, R190): dropped and counted as missed, or appended as the newest, or put in the
place of the oldest KEY entry that is not being posted. -/
def Obligations.NoticeQueue : Prop :=
  ∀ (b : NoticeBody) (s : State),
    let n : Notice := { session := s.clock.session, body := b }
    let dropped : State := { s with missed := satAdd s.missed 1 }
    let displaceable (older : List Notice) : Prop := s.posting = none ∨ older ≠ []
    (b.isKey = true → s.ctl.regime ≠ .running → queueNotice b s = dropped) ∧
    (b.isKey = false ∨ s.ctl.regime = .running →
      (s.queue.length < 32 → queueNotice b s = { s with queue := s.queue ++ [n] }) ∧
      (32 ≤ s.queue.length → b.isKey = true → queueNotice b s = dropped) ∧
      (32 ≤ s.queue.length → b.isKey = false →
        (∀ (older newer : List Notice) (x : Notice), s.queue = older ++ x :: newer → x.body.isKey = true →
          displaceable older → (∀ (o' n' : List Notice) (y : Notice), older = o' ++ y :: n' →
            y.body.isKey = false ∨ ¬ displaceable o') →
          queueNotice b s = { s with queue := older ++ newer ++ [n], missed := satAdd s.missed 1 }) ∧
        ((∀ (older newer : List Notice) (x : Notice), s.queue = older ++ x :: newer →
            x.body.isKey = false ∨ ¬ displaceable older) → queueNotice b s = dropped)))

/-- R188: when ATTN is asserted; that it is a function of the regime, the two copies and the event ring state, so that
it changes with them and with nothing else, the queue least of all; that it is deasserted at part power-on; that it
rises when a produce write completes and falls when a consume write catches up. -/
def Obligations.Attn : Prop :=
  (∀ s : State, s.attn = true ↔
    s.ctl.regime = .running ∧ (s.events.produce ≠ s.events.consume ∨ s.events.state = .faulted)) ∧
  (∀ s t : State, s.ctl.regime = t.ctl.regime → s.events = t.events → s.attn = t.attn) ∧
  (∀ (s : State) (q : List Notice), State.attn { s with queue := q } = s.attn) ∧
  State.reset.attn = false ∧ (∀ s : State, ∃ t, exec .partPowerOn s = .next t ∧ t.attn = false) ∧
  (∀ (s : State) (a : Access) (p : Posting), s.port = some a → a.purpose = .produceWrite → s.inMemory a = true →
    a.discarded = false → s.ctl.regime = .running → s.posting = some p → s.events.produce = s.events.consume →
    ∃ t, exec .produceWriteComplete s = .next t ∧ t.attn = true) ∧
  (∀ s : State, s.events.state ≠ .faulted → s.events.produce < 2 * s.settings.eventRingEntries →
    (consumeWrite s.events.produce s).attn = false)

/-! ## The commands of the memory path -/

/-- SET-WINDOW (R18): the checks in their order, each with its status; a legal window that overlaps no other entry takes
the entry's place, and nothing else changes but that the command completes. -/
def Obligations.SetWindow : Prop :=
  ∀ s : State, s.handed .setWindow →
    let i := s.arg 2
    let base := s.arg 3
    let size := s.arg 4
    let answers (status : Status) : Prop := exec .setWindow s = .next (finish (completeCommand status [] s))
    let legal : Prop := (∃ k, size = 2 ^ k) ∧ 4096 ≤ size ∧ size ≤ s.usable ∧ base % size = 0 ∧ base + size ≤ s.usable ∧
      s.arg 5 ≤ 2 ∧ s.arg 6 ≤ 1 ∧ s.arg 7 ≤ 1
    let collides : Prop := ∃ j v, j ≠ i ∧ s.windows[j]? = some (some v) ∧ base < v.base + v.size ∧ v.base < base + size
    (16 ≤ i → answers .refusedArgument) ∧
    (∀ w, i < 16 → s.windows[i]? = some (some w) →
      (w.shielded = true → answers .refusedShielded) ∧
      (w.shielded = false → w.ringRole ≠ .none → answers .refusedState)) ∧
    (i < 16 → (∀ w, s.windows[i]? = some (some w) → w.shielded = false ∧ w.ringRole = .none) →
      (¬ legal → answers .refusedArgument) ∧
      (legal → collides → answers .refusedArgument) ∧
      (legal → ¬ collides → ∃ w : Window,
        w.base = base ∧ w.size = size ∧ w.writePolicy.code = s.arg 5 ∧ w.checkPolicy.code = s.arg 6 ∧
        (w.poisonRestart = true ↔ s.arg 7 = 1) ∧ w.shielded = false ∧ w.ringRole = .none ∧
        exec .setWindow s = .next (finish (completeCommand .done [] { s with windows := s.windows.set i (some w) }))))

/-- R19: CLEAR-WINDOW's checks in their order; else the entry is empty and the command completes DONE, also where it was
empty, and then the table is unchanged. The offsets of the window are then in no window, for the transactions that are
classified from then on (R21: a transaction keeps the classification it has). Memory, the repair entries and the watch
entries are unchanged. That windows do not overlap is the invariant R17 gives (KeepsSettingLaws). -/
def Obligations.ClearWindow : Prop :=
  ∀ s : State, s.handed .clearWindow →
    let i := s.arg 2
    let answers (status : Status) : Prop := exec .clearWindow s = .next (finish (completeCommand status [] s))
    (16 ≤ i → answers .refusedArgument) ∧
    (∀ w, i < 16 → s.windows[i]? = some (some w) →
      (w.shielded = true → answers .refusedShielded) ∧
      (w.shielded = false → w.ringRole ≠ .none → answers .refusedState)) ∧
    (i < 16 → (∀ w, s.windows[i]? = some (some w) → w.shielded = false ∧ w.ringRole = .none) →
      let t := finish (completeCommand .done [] { s with windows := s.windows.set i none })
      exec .clearWindow s = .next t ∧
      t.windows = s.windows.set i none ∧ (s.windows[i]? = some none → t.windows = s.windows) ∧
      (∀ w, s.windows[i]? = some (some w) → legalWindows s.usable s.windows →
        ∀ o, w.base ≤ o → o < w.base + w.size → t.windowAt o = none ∧
          t.classify o = { window := none, writePolicy := .allow, checkPolicy := .correct, ringRole := .none,
                           poisonRestart := false }) ∧
      (t.front.map fun x => x.classification) = (s.front.map fun x => x.classification) ∧
      t.mem = s.mem ∧ t.repair.table = s.repair.table ∧ t.watch = s.watch)

/-- R20: READ-WINDOW refuses an index outside 0 to 15, and else completes DONE with results that state whether the entry
is empty and, for a window, give every field of R17, shielded and ring entries alike; it changes nothing but that the
command completes, and it reports the table as it stands. (The layout of an empty entry's other bytes is the model's,
assumption log 18.) -/
def Obligations.ReadWindow : Prop :=
  ∀ s : State, s.handed .readWindow →
    (16 ≤ s.arg 2 → exec .readWindow s = .next (finish (completeCommand .refusedArgument [] s))) ∧
    (s.arg 2 < 16 → ∃ results : List Byte,
      exec .readWindow s = .next (finish (completeCommand .done results s)) ∧
      (s.windows.getD (s.arg 2) none = none → results.head? = some 1) ∧
      (∀ w, s.windows.getD (s.arg 2) none = some w →
        results = [0] ++ le 4 w.base ++ le 4 w.size ++ [BitVec.ofNat 8 w.writePolicy.code] ++
          [BitVec.ofNat 8 w.checkPolicy.code] ++ [BitVec.ofNat 8 w.ringRole.code] ++
          [if w.poisonRestart then 1 else 0] ++ [if w.shielded then 1 else 0]))

/-- The commands that report and change nothing (R70, R102, R129, R153, R154, R175, R185), and the two that take what
they report (R37, R130): each completes DONE with its results, byte by byte in the order of its rule at the widths of
R197 and R198, an index outside its range with REFUSED-ARGUMENT. The enumeration codes are those of R197, and a number
of n bytes is little-endian. The layout of what does not exist is the model's: every field of an empty log, of a repair
entry, restart record or trace entry that does not exist, and of an empty watch entry is given as absent (assumption log
18); the data match's present byte stands before value and mask (assumption log 19); a record whose trace was dropped,
and a history with no record, give 0 trace entries (assumption log 33). That bits 4 to 7 of a chord's working-state byte
are 0 is the model's choice too (assumption log 38). -/
def Obligations.ReportingCommands : Prop :=
  (∀ s : State,
    let done (results : List Byte) (x : State) : Host.Outcome State Fault Refusal :=
      .next (finish (completeCommand .done results x))
    let refused : Host.Outcome State Fault Refusal := .next (finish (completeCommand .refusedArgument [] s))
    let byte (v : Nat) : Byte := BitVec.ofNat 8 v
    let bit (b : Bool) : Byte := if b then 1 else 0
    let absent (n : Nat) : List Byte := List.replicate n 0xFF
    let part (v : Option Nat) : Byte := match v with
      | some v => byte v
      | none => 0xFF
    let temp (t : Option Int) : List Byte := match t with
      | some t => le 2 (BitVec.ofInt 16 t).toNat
      | none => [0xFF, 0x7F]
    let place (l : Location) : List Byte := match l with
      | .home => [0, 0xFF]
      | .spare slot => [1, byte slot]
    let i := s.arg 2
    (s.handed .status →
      let results := [byte s.ctl.regime.code, bit s.ctl.sessionForced, bit s.ctl.sessionDoubtful,
          bit s.loader.defaultsFlag, bit s.loader.partialFlag, byte s.dog.state.code, byte s.engine.state.code,
          bit s.engine.faultPending, byte s.events.state.code, byte s.queue.length, s.missed] ++
        le 4 s.log.corrected.toNat ++ le 4 s.log.reported.toNat ++ le 4 s.log.uncorrectable.toNat ++
        le 4 s.log.overflow.toNat ++
        [byte s.repair.table.length, byte s.repair.free.length, byte s.repair.spent.length] ++
        le 4 s.scrub.position ++ le 4 s.scrub.count.toNat ++
        [byte s.restarts.coldCount, byte s.restarts.escalation.length] ++
        le 4 s.clock.uptime.toNat ++ le 4 s.clock.session.toNat
      results.length = 48 ∧ exec .status s = done results s) ∧
    (s.handed .readThermal →
      let draw := (if s.ctl.power then s.settings.boardDraw else 0) +
        (if s.thermal.boardOutput then s.settings.boardHeaterDraw else 0) +
        (if s.thermal.panelOutput then s.settings.panelHeaterDraw else 0)
      exec .readThermal s = done
        ((s.channelPairs.flatMap fun x => [byte x.1.role.code, byte x.2.state.code] ++ temp x.2.reading ++
            [byte x.2.timeouts, bit x.2.hotArmed]) ++
          [bit s.thermal.boardDemand, bit s.thermal.boardOutput, bit s.thermal.panelDemand, bit s.thermal.panelOutput,
           byte draw, byte s.settings.powerBudget, byte s.settings.boardDraw,
           bit s.readinessNow, bit s.overheatNow, bit s.resumeNow]) s) ∧
    (s.handed .readRepairs →
      let r := s.repair
      let entry (k : Nat) : List Byte := match r.table[k]? with
        | some e => le 4 e.group ++ [byte e.slot] ++ le 2 e.reRepairs.toNat ++ le 4 e.uptime.toNat ++ [e.carried]
        | none => absent 12
      (32 ≤ i → exec .readRepairs s = refused) ∧
      (i < 32 → exec .readRepairs s = done
        ([byte (min 2 (r.table.length - i))] ++ entry i ++ entry (i + 1) ++
          [byte r.table.length, byte r.free.length, byte r.spent.length] ++
          le 2 r.completed.toNat ++ le 2 r.reRepaired.toNat ++ le 2 r.refused.toNat ++ le 2 r.declined.toNat ++
          le 2 r.dropped.toNat ++ le 2 r.abandoned.toNat ++
          (match r.migration with
            | some m => [(1 : Byte)] ++ le 4 m.group ++ [byte m.slot]
            | none => [0] ++ absent 5)) s)) ∧
    (s.handed .readWatch →
      let data (e : WatchEntry) : List Byte := match e.dataMatch with
        | some d => [(1 : Byte)] ++ (List.range 8).map (wordByte d.value) ++ (List.range 8).map (wordByte d.mask)
        | none => [(0 : Byte)] ++ absent 16
      let stage (e : WatchEntry) : Byte := match e.role with
        | .stage n => byte n
        | _ => 0xFF
      let fields : List Byte := match s.watch.entries.getD i none with
        | some e =>
          [(0 : Byte)] ++ le 4 e.base ++ [byte e.length, byte e.access.code] ++ data e ++
            [byte e.role.code, stage e, byte e.persistence.code, bit e.enabled, bit e.suppressed]
        | none => [1] ++ absent 28
      (8 ≤ i → exec .readWatch s = refused) ∧
      (i < 8 → exec .readWatch s = done
        (fields ++ [bit (s.watch.hits.getLsbD i), bit s.watch.lock] ++ le 2 s.watch.violations.toNat) s)) ∧
    (s.handed .readRestart →
      let record : List Byte := match s.restarts.history[i]? with
        | some r =>
          [1] ++ le 2 r.number.toNat ++ [byte r.cause.code, part (r.requested.map RestartKind.code), byte r.kind.code] ++
            le 4 r.uptime.toNat ++ le 4 r.session.toNat ++ [part r.lastStage, r.warnings] ++
            le 2 r.uncorrectable.toNat ++ [r.hits] ++
            (match r.trace with
              | some t => [(1 : Byte), byte t.length]
              | none => [0, 0])
        | none => [0] ++ absent 20
      (8 ≤ i → exec .readRestart s = refused) ∧
      (i < 8 → exec .readRestart s = done
        (record ++ [byte s.restarts.history.length] ++ le 2 s.restarts.total.toNat ++
          [byte s.restarts.coldCount, byte s.restarts.escalation.length]) s)) ∧
    (s.handed .readTrace →
      let newest := s.restarts.history.getLast?
      let frozen : List TraceEntry := match newest with
        | some r => r.trace.getD []
        | none => []
      let entry (k : Nat) : List Byte := match frozen[k]? with
        | some e => le 4 e.offset ++ [byte e.count, byte e.outcome.code, part e.window]
        | none => absent 7
      (16 ≤ i → exec .readTrace s = refused) ∧
      (i < 16 → exec .readTrace s = done
        ((match newest with
            | some r => le 2 r.number.toNat
            | none => absent 2) ++ [byte frozen.length, byte (min 4 (frozen.length - i))] ++
          entry i ++ entry (i + 1) ++ entry (i + 2) ++ entry (i + 3)) s)) ∧
    (s.handed .readKeys →
      let state (p : Nat) : Nat := (s.key p).state.code
      let chord (k : Nat) : Byte := byte ((if (s.chord k).chord.enabled then 1 else 0) +
        (if (s.chord k).counting then 2 else 0) + (if (s.chord k).spent then 4 else 0) +
        (if (s.chord k).awaited then 8 else 0))
      (i = 0 → ∃ mask : List Byte, mask.length = 8 ∧
        (∀ p < 64, (mask.getD (p / 8) 0).getLsbD (p % 8) = true ↔
          (s.key p).state = .stuck ∨ (s.key p).state = .releasing .stuck) ∧
        exec .readKeys s = done (((List.range 32).map fun k => byte (state (2 * k) + 16 * state (2 * k + 1))) ++ mask ++
          [bit s.keypad.coldDebounce, chord 0, chord 1, chord 2, chord 3]) s) ∧
      (i = 1 → exec .readKeys s = done ((List.range 32).map fun p => (s.key p).stuckCount) s) ∧
      (i = 2 → exec .readKeys s = done ((List.range 32).map fun p => (s.key (32 + p)).stuckCount) s) ∧
      (2 < i → exec .readKeys s = refused)) ∧
    (s.handed .takeError →
      (s.log.entries = [] → exec .takeError s = done (absent 16 ++ [0xFF, 0x7F] ++ absent 1 ++ [0]) s) ∧
      (∀ e rest, s.log.entries = e :: rest → exec .takeError s = done
        (le 4 e.offset ++ place e.loc ++ [e.syndrome, byte e.severity.code, byte e.source.code, e.repeats,
          bit e.rewritten, bit e.repairRequested] ++ le 4 e.uptime.toNat ++ temp e.temperature ++
          [byte e.regime.code, byte rest.length]) { s with log := { s.log with entries := rest } })) ∧
    (s.handed .takeWatchHits → exec .takeWatchHits s = done [s.watch.hits, part s.watch.lastStage]
      { s with watch := { s.watch with hits := 0 } })) ∧
  (∀ n v : Nat, le n v = (List.range n).map fun k => BitVec.ofNat 8 (v / 256 ^ k)) ∧
  ([Regime.loading, .heating, .soaking, .preparing, .releasing, .running, .restarting, .offCycle, .overheat,
      .halted].map Regime.code = List.range 10 ∧
   [DogState.suspended, .disarmed, .booting, .armed, .warned].map DogState.code = List.range 5 ∧
   [EngineState.idle, .fetching, .executing, .waiting, .completing, .faulted].map EngineState.code = List.range 6 ∧
   [RingState.unarmed, .armed, .faulted].map RingState.code = List.range 3 ∧
   [Severity.corrected, .reported, .uncorrectable].map Severity.code = List.range 3 ∧
   [Source.frontRead, .frontMerge, .scrub, .fix, .prep, .migration].map Source.code = List.range 6 ∧
   [WritePolicy.allow, .refuse, .refuseTrip].map WritePolicy.code = List.range 3 ∧
   [CheckPolicy.correct, .report].map CheckPolicy.code = List.range 2 ∧
   [RingRole.none, .commandRing, .eventRing].map RingRole.code = List.range 3 ∧
   [WatchAccess.write, .read, .either].map WatchAccess.code = List.range 3 ∧
   (∀ n, [WatchRole.kick, .stage n, .trip, .note].map WatchRole.code = List.range 4) ∧
   [Persistence.standing, .session].map Persistence.code = List.range 2 ∧
   [ChannelRole.disabled, .board, .memory, .panel, .air].map ChannelRole.code = List.range 5 ∧
   [ChannelState.unknown, .valid, .failed].map ChannelState.code = List.range 3) ∧
  ([RestartCause.kickExpiry, .earlyKick, .bootLimit, .tripWatch, .guardTrip, .poison, .lockViolation, .command, .chord,
      .resetInput, .thermal].map RestartCause.code = List.range 11 ∧
   [RestartKind.warm, .cold, .halt, .thermal].map RestartKind.code = List.range 4 ∧
   [TraceOutcome.done, .refused .policy, .refused .mergeFailed, .refused .outOfRange].map TraceOutcome.code =
     List.range 4 ∧
   (∀ l, [KeyState.up, .pressing, .down, .releasing l, .blocked, .stuck].map KeyState.code = List.range 6) ∧
   [KeyEvent.press, .release, .repeats, .stuck, .unstuck].map KeyEvent.code = List.range 5 ∧
   [ChordAction.warmRestart, .coldRestart, .releaseHold, .serviceNote].map ChordAction.code = List.range 4 ∧
   [ChordResult.taken, .discarded, .noted].map ChordResult.code = List.range 3 ∧
   [RepairOutcome.done, .reRepaired, .full, .carried].map RepairOutcome.code = List.range 4 ∧
   [ThermalEvent.hot, .sensorFailed, .sensorRestored].map ThermalEvent.code = List.range 3)

/-- The commands of the watch table (R127, R128, R131, R132). Under the watch lock SET-WATCH, CLEAR-WATCH, ARM-WATCHDOG
and DISARM-WATCHDOG complete REFUSED-LOCKED before any other check, the violation counted and, with LOCK_TRIP, a restart
asked for. Else illegal arguments are refused and legal ones take effect; LOCK-WATCH sets the lock. -/
def Obligations.WatchTableCommands : Prop :=
  ∀ s : State,
    let i := s.arg 2
    let refused : Host.Outcome State Fault Refusal := .next (finish (completeCommand .refusedArgument [] s))
    let locked : Host.Outcome State Fault Refusal := .next (finish (completeCommand .refusedLocked [] { s with
      watch := { s.watch with violations := satInc s.watch.violations }
      requests := if s.settings.lockTrip then
          s.requests ++ [{ cause := .lockViolation, cold := false, chord := none }] else s.requests }))
    let placed (e : Option WatchEntry) : State := { s with watch := { s.watch with
      entries := s.watch.entries.set i e, hits := s.watch.hits &&& ~~~(1#8 <<< i)
      senders := s.watch.senders.filter fun k => k ≠ i } }
    let base := s.arg 3
    let length := s.argByte 4 0
    let legal : Prop := length ∈ [1, 2, 4, 8, 16, 32, 64] ∧ base % length = 0 ∧ base + length ≤ s.usable ∧
      s.argByte 4 1 ≤ 2 ∧ s.argByte 4 2 ≤ 1 ∧ s.argByte 4 3 ≤ 3 ∧
      (s.argByte 4 3 = 1 → 1 ≤ s.argByte 4 4 ∧ s.argByte 4 4 ≤ 15) ∧ s.argByte 4 5 ≤ 1 ∧ s.argByte 4 6 ≤ 1 ∧
      (s.argByte 4 2 = 1 → length ≤ 8 ∧ s.argByte 4 1 = 0)
    (s.watch.lock = true →
      (s.handed .setWatch → exec .setWatch s = locked) ∧ (s.handed .clearWatch → exec .clearWatch s = locked) ∧
      (s.handed .armWatchdog → exec .armWatchdog s = locked) ∧
      (s.handed .disarmWatchdog → exec .disarmWatchdog s = locked)) ∧
    (s.watch.lock = false → s.handed .setWatch →
      (8 ≤ i → exec .setWatch s = refused) ∧
      (i < 8 → ¬ legal → exec .setWatch s = refused) ∧
      (i < 8 → legal → ∃ e : WatchEntry,
        e.base = base ∧ e.length = length ∧ e.access.code = s.argByte 4 1 ∧ e.role.code = s.argByte 4 3 ∧
        (s.argByte 4 3 = 1 → e.role = .stage (s.argByte 4 4)) ∧ e.persistence.code = s.argByte 4 5 ∧
        (e.enabled = true ↔ s.argByte 4 6 = 1) ∧ e.suppressed = false ∧
        (s.argByte 4 2 = 0 → e.dataMatch = none) ∧
        (s.argByte 4 2 = 1 → ∃ d, e.dataMatch = some d ∧ ∀ k < 8,
          wordByte d.value k = (if k < length then wordByte (s.recordWord 5) k else 0) ∧
          wordByte d.mask k = (if k < length then wordByte (s.recordWord 6) k else 0)) ∧
        exec .setWatch s = .next (finish (completeCommand .done [] (placed (some e)))))) ∧
    (s.watch.lock = false → s.handed .clearWatch →
      (8 ≤ i → exec .clearWatch s = refused) ∧
      (i < 8 → exec .clearWatch s = .next (finish (completeCommand .done [] (placed none))))) ∧
    (s.handed .lockWatch → exec .lockWatch s = .next (finish (completeCommand .done []
      { s with watch := { s.watch with lock := true } })))

/-- DIAG-READ and DIAG-WRITE as they are taken (R38, R39): the checks in their order; then the command waits, with its
wait timer started, where the word's group is reserved, and else stays EXECUTING with its access to make at the location
the redirect gives, DIAG-WRITE's with the data and check bits it was given. -/
def Obligations.DiagCommands : Prop :=
  (∀ (s : State) (c : Instr) (code : CommandCode) (work : EngineWork) (legal : Prop),
    (c = .diagRead ∧ code = .diagRead ∧ work = .diagRead (s.arg 2) ∧ legal = True) ∨
      (c = .diagWrite ∧ code = .diagWrite ∧ legal = (s.arg 4 ≤ 0xFF) ∧
        work = .diagWrite (s.arg 2) { data := s.recordWord 3, check := BitVec.ofNat 8 (s.arg 4) }) →
    s.handed code →
    let o := s.arg 2
    let answers (status : Status) : Prop := exec c s = .next (finish (completeCommand status [] s))
    (o % 8 ≠ 0 ∨ s.usable ≤ o ∨ ¬ legal → answers .refusedArgument) ∧
    (o % 8 = 0 → o < s.usable → legal →
      (∀ k w, s.windowAt o = some (k, w) → w.shielded = true → answers .refusedShielded) ∧
      (∀ k w, s.windowAt o = some (k, w) → w.shielded = false → w.ringRole ≠ .none → answers .refusedState) ∧
      ((∀ k w, s.windowAt o = some (k, w) → w.shielded = false ∧ w.ringRole = .none) →
        (s.repair.reservation = some (groupOf o) → exec c s = .next (finish { s with engine := { s.engine with
          state := .waiting, work := work, waitTimer := .running s.settings.cmdWaitLimit } })) ∧
        (s.repair.reservation ≠ some (groupOf o) → exec c s = .next (finish { s with engine := { s.engine with
          work := work } }))))) ∧
  (∀ (s : State) (o : Nat), s.engine.state = .executing →
    (s.engine.work = .diagRead o → engineAccess s = some (s.accessAt .mailbox .diagRead false o [])) ∧
    (∀ w, s.engine.work = .diagWrite o w → engineAccess s = some (s.accessAt .mailbox .diagWrite false o [w])))

/-- REPAIR-GROUP and CHECK-RANGE as they are taken (R68, R113, R115, R58, R59). REPAIR-GROUP refuses an offset that is
no usable group's, and else waits: absorbed where the group is pending, appended where the list has room, unplaced where
it is full. The repair unit, IDLE and powered, takes the first listed group to the lowest free slot, with the
reservation set and its request placed, or refuses it FULL and goes on to the next. When a group leaves the list, a
REPAIR-GROUP that waits for room offers its request again: absorbed, appended, or still unplaced (R68; that the renewed
offer belongs to the step in which the group leaves the list is deduced, assumption log 22). CHECK-RANGE refuses an
illegal range, and else begins at its base. -/
def Obligations.RepairAndCheckCommands : Prop :=
  (∀ s : State, s.handed .repairGroup →
    let g := s.arg 2
    let waiting (placed : Bool) : State := { s with engine := { s.engine with
      state := .waiting, work := .repairGroup g placed, waitTimer := .running s.settings.cmdWaitLimit } }
    let pending : Prop := g ∈ s.repair.requests ∨ ∃ m, s.repair.migration = some m ∧ m.group = g
    (g % 64 ≠ 0 ∨ s.usable ≤ g → exec .repairGroup s = .next (finish (completeCommand .refusedArgument [] s))) ∧
    (g % 64 = 0 → g < s.usable →
      (s.ctl.power = true → pending → exec .repairGroup s = .next (finish (waiting true))) ∧
      (s.ctl.power = true → ¬ pending → s.repair.requests.length < 4 →
        exec .repairGroup s = .next (finish (nextMigration { waiting true with
          repair := { s.repair with requests := s.repair.requests ++ [g] } }))) ∧
      (¬ pending → 4 ≤ s.repair.requests.length → exec .repairGroup s = .next (finish (waiting false))))) ∧
  (∀ (s : State) (g : Nat) (rest : List Nat), s.repair.requests = g :: rest → s.ctl.power = true →
    s.repair.migration = none →
    (∀ n more, s.repair.free = n :: more → nextMigration s = reoffer
      (place { requester := .repair, purpose := .migrationRead, line := true, offset := g, loc := s.locate g,
               words := [], syndrome := 0, discarded := false }
        (setReservation g { s with repair := { s.repair with
          requests := rest
          migration := some { group := g, slot := n, reRepair := (s.repairEntry g).isSome, source := s.locate g,
                              carried := 0, copying := false } } }))) ∧
    (s.repair.free = [] → nextMigration s = nextMigration (reoffer (reportOutcome
      { outcome := .full, group := g, newSlot := none, oldSlot := (s.repairEntry g).map (·.slot), carried := none,
        reRepairs := (s.repairEntry g).map (·.reRepairs), free := 0 }
      { s with repair := { s.repair with requests := rest, refused := satInc s.repair.refused } })))) ∧
  (∀ (s : State) (g : Nat), s.engine.work = .repairGroup g false → s.engine.state = .waiting →
    let placed : State := { s with engine := { s.engine with work := .repairGroup g true } }
    let pending : Prop := g ∈ s.repair.requests ∨ ∃ m, s.repair.migration = some m ∧ m.group = g
    (pending → reoffer s = placed) ∧
    (¬ pending → s.repair.requests.length < 4 →
      reoffer s = { placed with repair := { s.repair with requests := s.repair.requests ++ [g] } }) ∧
    (¬ pending → 4 ≤ s.repair.requests.length → reoffer s = s)) ∧
  (∀ s : State, s.engine.state ≠ .waiting ∨ (∀ g, s.engine.work ≠ .repairGroup g false) → reoffer s = s) ∧
  (∀ s : State, s.repair.migration.isSome = true ∨ s.ctl.power = false ∨ s.repair.requests = [] →
    nextMigration s = s) ∧
  (∀ s : State, (∀ n, n ∈ s.repair.free ↔ n < 32 ∧ n ∉ s.repair.spent ∧ ∀ e ∈ s.repair.table, e.slot ≠ n) ∧
    s.repair.free.Pairwise (· < ·)) ∧
  (∀ s : State, s.handed .checkRange →
    let base := s.arg 2
    let length := s.arg 3
    let legal : Prop := base % 64 = 0 ∧ length % 64 = 0 ∧ 0 < length ∧ length ≤ 1048576 ∧ base + length ≤ s.usable
    let begun : State := { s with
      prep := { activity := .checking, pass := 0, position := base / 64, step := .patternWrite, wait := .groupWait,
                corrected := 0, uncorrectable := 0, retry := .stopped,
                range := some { base := base, stop := base + length, checked := 0, single := 0, uncorrectable := 0 } }
      engine := { s.engine with work := .checkRange } }
    (¬ legal → exec .checkRange s = .next (finish (completeCommand .refusedArgument [] s))) ∧
    (legal → s.repair.reservation = some base → exec .checkRange s = .next (finish { begun with
      engine := { begun.engine with state := .waiting, waitTimer := .running s.settings.cmdWaitLimit } })) ∧
    (legal → s.repair.reservation ≠ some base → exec .checkRange s = .next (finish (place
      (s.accessAt .prep .checkRead true base []) { begun with prep := { begun.prep with wait := .portWait } }))))

/-! ## The commands of restart supervision -/

/-- ARM-WATCHDOG with the lock clear (R141) and RESTART (R152): illegal arguments are refused, then a watchdog that is
neither DISARMED nor ARMED or has its request out; else the working values are the arguments and a full period begins.
RESTART sends its request, of the kind given, as it completes DONE. -/
def Obligations.ArmAndRestart : Prop :=
  (∀ s : State, s.handed .armWatchdog → s.watch.lock = false →
    let legal : Prop := 10 ≤ s.arg 2 ∧ s.arg 2 ≤ 65535 ∧ 10 ≤ s.arg 3 ∧ s.arg 3 ≤ 65535 ∧ s.arg 4 ≤ s.arg 2 / 2
    let able : Prop := (s.dog.state = .disarmed ∨ s.dog.state = .armed) ∧ s.dog.requestOut = false
    (¬ legal → exec .armWatchdog s = .next (finish (completeCommand .refusedArgument [] s))) ∧
    (legal → ¬ able → exec .armWatchdog s = .next (finish (completeCommand .refusedState [] s))) ∧
    (legal → able → ∃ d : Watchdog,
      d.period.toNat = s.arg 2 ∧ d.warnWindow.toNat = s.arg 3 ∧ d.minInterval.toNat = s.arg 4 ∧ d.state = .armed ∧
      d.timer = .period (s.arg 2) ∧ d.reference = s.clock.session ∧ d.warnings = s.dog.warnings ∧
      d.requestOut = false ∧
      exec .armWatchdog s = .next (finish (completeCommand .done [] { s with dog := d })))) ∧
  (∀ s : State, s.handed .restart →
    let sent (cold : Bool) : State := { s with
      requests := s.requests ++ [{ cause := .command, cold := cold, chord := none }] }
    (s.arg 2 = 0 → exec .restart s = .next (finish (completeCommand .done [] (sent false)))) ∧
    (s.arg 2 = 1 → exec .restart s = .next (finish (completeCommand .done [] (sent true)))) ∧
    (1 < s.arg 2 → exec .restart s = .next (finish (completeCommand .refusedArgument [] s))))

/-- R142: DISARM-WATCHDOG's checks in their order, REFUSED-LOCKED with the consequences of R132, then NO_DISARM, then
the state; else the watchdog is DISARMED with its timer stopped, from WARNED too, with the warnings as they were. -/
def Obligations.Disarm : Prop :=
  ∀ s : State, s.handed .disarmWatchdog →
    let able : Prop := (s.dog.state = .armed ∨ s.dog.state = .warned) ∧ s.dog.requestOut = false
    (s.watch.lock = true →
      exec .disarmWatchdog s = .next (finish (completeCommand .refusedLocked [] { s with
        watch := { s.watch with violations := satInc s.watch.violations }
        requests := if s.settings.lockTrip then
            s.requests ++ [{ cause := .lockViolation, cold := false, chord := none }] else s.requests }))) ∧
    (s.watch.lock = false → s.settings.noDisarm = true →
      exec .disarmWatchdog s = .next (finish (completeCommand .refusedState [] s))) ∧
    (s.watch.lock = false → s.settings.noDisarm = false → ¬ able →
      exec .disarmWatchdog s = .next (finish (completeCommand .refusedState [] s))) ∧
    (s.watch.lock = false → s.settings.noDisarm = false → able →
      exec .disarmWatchdog s = .next (finish (completeCommand .done [] { s with
        dog := { s.dog with state := .disarmed, timer := .stopped } })))

/-! ## What every step keeps -/

/-- Every step keeps the law of the regime and the law of board power off (R71, R73, R23, R45, R64). -/
def Obligations.KeepsRegimeLaws : Prop :=
  ∀ s t : State, s.regimeLaw → s.powerOffLaw → step s = .next t → t.regimeLaw ∧ t.powerOffLaw

/-- Every step keeps memory in its canonical form: the word offsets strictly rising (the model's form, assumption
log 3). -/
def Obligations.KeepsMemoryForm : Prop :=
  ∀ s t : State, Memory.wf s.mem = true → step s = .next t → Memory.wf t.mem = true

/-- Every step keeps the law of the reservation (R57): no front, mailbox, preparation or scrubber request for the
reserved group waits at the arbiter. -/
def Obligations.KeepsReservation : Prop :=
  ∀ s t : State, s.reservationLaw → step s = .next t → t.reservationLaw

/-- Every step keeps the law of the watchdog (R135), the law of the notice queue (R189) and the law of the keypad's
announced flags (R165, R168, R174): a position is announced in RUNNING alone, in DOWN or in RELEASING from DOWN alone,
and while it is reportable alone. So no position in BLOCKED or STUCK and none with CHORD-ONLY is announced; that REPEAT
events come of announced positions alone is in ScanSamples. -/
def Obligations.KeepsSessionLaws : Prop :=
  ∀ s t : State, step s = .next t →
    (s.dogLaw → t.dogLaw) ∧ (s.queueLaw → t.queueLaw) ∧ (s.keypadLaw → t.keypadLaw)

/-- Every step keeps the law of the error log (R28), the law of the repair table (R54, R55, R59) and the law of the
restart history (R150: at most 8 records, no more than the total restart count, and a consecutive cold count of at most
COLD_LIMIT). Kept with the last are the bound of ESCALATE_COUNT − 1 times on the escalation record (R147), the bounds on
the write trace and on the frozen traces (R151), and, so that the end of LOADING keeps them too, that until the setting
image is loaded the regime is LOADING, there is no loaded copy, and the escalation state is as at part power-on. -/
def Obligations.KeepsRecords : Prop :=
  ∀ s t : State, step s = .next t →
    (s.logLaw → t.logLaw) ∧ (s.tableLaw → t.tableLaw) ∧ (s.historyLaw → t.historyLaw)

/-- Every step keeps the law of the power budget (R99, R100) and the law of the window table (R17, R22). -/
def Obligations.KeepsSettingLaws : Prop :=
  ∀ s t : State, step s = .next t →
    (s.budgetLaw → t.budgetLaw) ∧ (s.windowsLaw → t.windowsLaw)
end

