-- ==== Sys2Proof/Laws/State.lean ====
section
/-! SUPPORT. The plain updates of a state: what each named update leaves as it was, field by field. -/

namespace Sys2Proof.Machine

/-- Placing a request changes the arbiter alone (R24). -/
@[simp] theorem place_frame (a : Access) (s : State) :
    (place a s).loader = s.loader ∧ (place a s).ctl = s.ctl ∧ (place a s).clock = s.clock ∧
    (place a s).lamp = s.lamp ∧ (place a s).restarts = s.restarts ∧ (place a s).front = s.front ∧
    (place a s).frontResponse = s.frontResponse ∧ (place a s).windows = s.windows ∧ (place a s).port = s.port ∧
    (place a s).mem = s.mem ∧ (place a s).memEpoch = s.memEpoch ∧ (place a s).log = s.log ∧
    (place a s).scrub = s.scrub ∧ (place a s).repair = s.repair ∧ (place a s).prep = s.prep ∧
    (place a s).thermal = s.thermal ∧ (place a s).watch = s.watch ∧ (place a s).dog = s.dog ∧
    (place a s).trace = s.trace ∧ (place a s).keypad = s.keypad ∧ (place a s).engine = s.engine ∧
    (place a s).events = s.events ∧ (place a s).posting = s.posting ∧ (place a s).queue = s.queue ∧
    (place a s).missed = s.missed ∧ (place a s).headers = s.headers ∧ (place a s).lastUser = s.lastUser ∧
    (place a s).resetInput = s.resetInput ∧ (place a s).requests = s.requests ∧
    (place a s).holdReleases = s.holdReleases ∧ (place a s).outcomes = s.outcomes ∧
    (place a s).watchReports = s.watchReports ∧ (place a s).snoopReports = s.snoopReports ∧
    (place a s).freeCount = s.freeCount ∧ (place a s).pending = s.pending := by
  unfold place; (try dsimp only); (repeat' split) <;> simp

/-- Withdrawing a request changes the arbiter alone (R24). -/
@[simp] theorem withdraw_frame (r : Requester) (s : State) :
    (withdraw r s).loader = s.loader ∧ (withdraw r s).ctl = s.ctl ∧ (withdraw r s).clock = s.clock ∧
    (withdraw r s).lamp = s.lamp ∧ (withdraw r s).restarts = s.restarts ∧ (withdraw r s).front = s.front ∧
    (withdraw r s).frontResponse = s.frontResponse ∧ (withdraw r s).windows = s.windows ∧
    (withdraw r s).port = s.port ∧ (withdraw r s).mem = s.mem ∧ (withdraw r s).memEpoch = s.memEpoch ∧
    (withdraw r s).log = s.log ∧ (withdraw r s).scrub = s.scrub ∧ (withdraw r s).repair = s.repair ∧
    (withdraw r s).prep = s.prep ∧ (withdraw r s).thermal = s.thermal ∧ (withdraw r s).watch = s.watch ∧
    (withdraw r s).dog = s.dog ∧ (withdraw r s).trace = s.trace ∧ (withdraw r s).keypad = s.keypad ∧
    (withdraw r s).engine = s.engine ∧ (withdraw r s).events = s.events ∧ (withdraw r s).posting = s.posting ∧
    (withdraw r s).queue = s.queue ∧ (withdraw r s).missed = s.missed ∧ (withdraw r s).headers = s.headers ∧
    (withdraw r s).lastUser = s.lastUser ∧ (withdraw r s).resetInput = s.resetInput ∧
    (withdraw r s).requests = s.requests ∧ (withdraw r s).holdReleases = s.holdReleases ∧
    (withdraw r s).outcomes = s.outcomes ∧ (withdraw r s).watchReports = s.watchReports ∧
    (withdraw r s).snoopReports = s.snoopReports ∧ (withdraw r s).freeCount = s.freeCount ∧
    (withdraw r s).pending = s.pending := by
  unfold withdraw; (try dsimp only); (repeat' split) <;> simp

/-- Sending a restart request changes the requests under way alone (R143). -/
@[simp] theorem sendRequest_frame (cause : RestartCause) (cold : Bool) (chord : Option ChordTag) (s : State) :
    (sendRequest cause cold chord s).loader = s.loader ∧ (sendRequest cause cold chord s).ctl = s.ctl ∧
    (sendRequest cause cold chord s).clock = s.clock ∧ (sendRequest cause cold chord s).lamp = s.lamp ∧
    (sendRequest cause cold chord s).restarts = s.restarts ∧ (sendRequest cause cold chord s).front = s.front ∧
    (sendRequest cause cold chord s).frontResponse = s.frontResponse ∧
    (sendRequest cause cold chord s).windows = s.windows ∧ (sendRequest cause cold chord s).port = s.port ∧
    (sendRequest cause cold chord s).arbiter = s.arbiter ∧ (sendRequest cause cold chord s).mem = s.mem ∧
    (sendRequest cause cold chord s).memEpoch = s.memEpoch ∧ (sendRequest cause cold chord s).log = s.log ∧
    (sendRequest cause cold chord s).scrub = s.scrub ∧ (sendRequest cause cold chord s).repair = s.repair ∧
    (sendRequest cause cold chord s).prep = s.prep ∧ (sendRequest cause cold chord s).thermal = s.thermal ∧
    (sendRequest cause cold chord s).watch = s.watch ∧ (sendRequest cause cold chord s).dog = s.dog ∧
    (sendRequest cause cold chord s).trace = s.trace ∧ (sendRequest cause cold chord s).keypad = s.keypad ∧
    (sendRequest cause cold chord s).engine = s.engine ∧ (sendRequest cause cold chord s).events = s.events ∧
    (sendRequest cause cold chord s).posting = s.posting ∧ (sendRequest cause cold chord s).queue = s.queue ∧
    (sendRequest cause cold chord s).missed = s.missed ∧ (sendRequest cause cold chord s).headers = s.headers ∧
    (sendRequest cause cold chord s).lastUser = s.lastUser ∧
    (sendRequest cause cold chord s).resetInput = s.resetInput ∧
    (sendRequest cause cold chord s).holdReleases = s.holdReleases ∧
    (sendRequest cause cold chord s).outcomes = s.outcomes ∧
    (sendRequest cause cold chord s).watchReports = s.watchReports ∧
    (sendRequest cause cold chord s).snoopReports = s.snoopReports ∧
    (sendRequest cause cold chord s).freeCount = s.freeCount ∧ (sendRequest cause cold chord s).pending = s.pending := by
  unfold sendRequest; (try dsimp only); (repeat' split) <;> simp

/-- A status given to the engine changes the engine and the free-value counter alone (R182). -/
@[simp] theorem completeCommand_frame (status : Status) (results : List Byte) (s : State) :
    (completeCommand status results s).loader = s.loader ∧ (completeCommand status results s).ctl = s.ctl ∧
    (completeCommand status results s).clock = s.clock ∧ (completeCommand status results s).lamp = s.lamp ∧
    (completeCommand status results s).restarts = s.restarts ∧ (completeCommand status results s).front = s.front ∧
    (completeCommand status results s).frontResponse = s.frontResponse ∧
    (completeCommand status results s).windows = s.windows ∧ (completeCommand status results s).port = s.port ∧
    (completeCommand status results s).arbiter = s.arbiter ∧ (completeCommand status results s).mem = s.mem ∧
    (completeCommand status results s).memEpoch = s.memEpoch ∧ (completeCommand status results s).log = s.log ∧
    (completeCommand status results s).scrub = s.scrub ∧ (completeCommand status results s).repair = s.repair ∧
    (completeCommand status results s).prep = s.prep ∧ (completeCommand status results s).thermal = s.thermal ∧
    (completeCommand status results s).watch = s.watch ∧ (completeCommand status results s).dog = s.dog ∧
    (completeCommand status results s).trace = s.trace ∧ (completeCommand status results s).keypad = s.keypad ∧
    (completeCommand status results s).events = s.events ∧ (completeCommand status results s).posting = s.posting ∧
    (completeCommand status results s).queue = s.queue ∧ (completeCommand status results s).missed = s.missed ∧
    (completeCommand status results s).headers = s.headers ∧
    (completeCommand status results s).lastUser = s.lastUser ∧
    (completeCommand status results s).resetInput = s.resetInput ∧
    (completeCommand status results s).requests = s.requests ∧
    (completeCommand status results s).holdReleases = s.holdReleases ∧
    (completeCommand status results s).outcomes = s.outcomes ∧
    (completeCommand status results s).watchReports = s.watchReports ∧
    (completeCommand status results s).snoopReports = s.snoopReports ∧
    (completeCommand status results s).pending = s.pending ∧
    (completeCommand status results s).engine.faultPending = s.engine.faultPending ∧
    (completeCommand status results s).engine.submit = s.engine.submit ∧
    (completeCommand status results s).engine.done = s.engine.done ∧
    (completeCommand status results s).engine.record = s.engine.record := by
  unfold completeCommand; (try dsimp only); (repeat' split) <;> simp

/-- Entering WAITING changes the engine's state and timer alone (R181). -/
@[simp] theorem enterWaiting_frame (s : State) :
    (enterWaiting s).loader = s.loader ∧ (enterWaiting s).ctl = s.ctl ∧ (enterWaiting s).clock = s.clock ∧
    (enterWaiting s).lamp = s.lamp ∧ (enterWaiting s).restarts = s.restarts ∧ (enterWaiting s).front = s.front ∧
    (enterWaiting s).frontResponse = s.frontResponse ∧ (enterWaiting s).windows = s.windows ∧
    (enterWaiting s).port = s.port ∧ (enterWaiting s).arbiter = s.arbiter ∧ (enterWaiting s).mem = s.mem ∧
    (enterWaiting s).memEpoch = s.memEpoch ∧ (enterWaiting s).log = s.log ∧ (enterWaiting s).scrub = s.scrub ∧
    (enterWaiting s).repair = s.repair ∧ (enterWaiting s).prep = s.prep ∧ (enterWaiting s).thermal = s.thermal ∧
    (enterWaiting s).watch = s.watch ∧ (enterWaiting s).dog = s.dog ∧ (enterWaiting s).trace = s.trace ∧
    (enterWaiting s).keypad = s.keypad ∧ (enterWaiting s).events = s.events ∧ (enterWaiting s).posting = s.posting ∧
    (enterWaiting s).queue = s.queue ∧ (enterWaiting s).missed = s.missed ∧ (enterWaiting s).headers = s.headers ∧
    (enterWaiting s).lastUser = s.lastUser ∧ (enterWaiting s).resetInput = s.resetInput ∧
    (enterWaiting s).requests = s.requests ∧ (enterWaiting s).holdReleases = s.holdReleases ∧
    (enterWaiting s).outcomes = s.outcomes ∧ (enterWaiting s).watchReports = s.watchReports ∧
    (enterWaiting s).snoopReports = s.snoopReports ∧ (enterWaiting s).freeCount = s.freeCount ∧
    (enterWaiting s).pending = s.pending ∧ (enterWaiting s).engine.faultPending = s.engine.faultPending ∧
    (enterWaiting s).engine.submit = s.engine.submit ∧ (enterWaiting s).engine.done = s.engine.done ∧
    (enterWaiting s).engine.record = s.engine.record ∧ (enterWaiting s).engine.work = s.engine.work := by
  unfold enterWaiting; (try dsimp only); (repeat' split) <;> simp

/-- Leaving WAITING changes the engine's state and timer alone (R181). -/
@[simp] theorem resumeExecuting_frame (s : State) :
    (resumeExecuting s).loader = s.loader ∧ (resumeExecuting s).ctl = s.ctl ∧ (resumeExecuting s).clock = s.clock ∧
    (resumeExecuting s).lamp = s.lamp ∧ (resumeExecuting s).restarts = s.restarts ∧
    (resumeExecuting s).front = s.front ∧ (resumeExecuting s).frontResponse = s.frontResponse ∧
    (resumeExecuting s).windows = s.windows ∧ (resumeExecuting s).port = s.port ∧
    (resumeExecuting s).arbiter = s.arbiter ∧ (resumeExecuting s).mem = s.mem ∧
    (resumeExecuting s).memEpoch = s.memEpoch ∧ (resumeExecuting s).log = s.log ∧
    (resumeExecuting s).scrub = s.scrub ∧ (resumeExecuting s).repair = s.repair ∧ (resumeExecuting s).prep = s.prep ∧
    (resumeExecuting s).thermal = s.thermal ∧ (resumeExecuting s).watch = s.watch ∧ (resumeExecuting s).dog = s.dog ∧
    (resumeExecuting s).trace = s.trace ∧ (resumeExecuting s).keypad = s.keypad ∧
    (resumeExecuting s).events = s.events ∧ (resumeExecuting s).posting = s.posting ∧
    (resumeExecuting s).queue = s.queue ∧ (resumeExecuting s).missed = s.missed ∧
    (resumeExecuting s).headers = s.headers ∧ (resumeExecuting s).lastUser = s.lastUser ∧
    (resumeExecuting s).resetInput = s.resetInput ∧ (resumeExecuting s).requests = s.requests ∧
    (resumeExecuting s).holdReleases = s.holdReleases ∧ (resumeExecuting s).outcomes = s.outcomes ∧
    (resumeExecuting s).watchReports = s.watchReports ∧ (resumeExecuting s).snoopReports = s.snoopReports ∧
    (resumeExecuting s).freeCount = s.freeCount ∧ (resumeExecuting s).pending = s.pending ∧
    (resumeExecuting s).engine.faultPending = s.engine.faultPending ∧
    (resumeExecuting s).engine.submit = s.engine.submit ∧ (resumeExecuting s).engine.done = s.engine.done ∧
    (resumeExecuting s).engine.record = s.engine.record ∧ (resumeExecuting s).engine.work = s.engine.work := by
  unfold resumeExecuting; (try dsimp only); (repeat' split) <;> simp

/-- Placing a posting's access changes the arbiter and the posting alone (R187). -/
@[simp] theorem placePosting_frame (p : Posting) (a : Access) (s : State) :
    (placePosting p a s).loader = s.loader ∧ (placePosting p a s).ctl = s.ctl ∧ (placePosting p a s).clock = s.clock ∧
    (placePosting p a s).lamp = s.lamp ∧ (placePosting p a s).restarts = s.restarts ∧
    (placePosting p a s).front = s.front ∧ (placePosting p a s).frontResponse = s.frontResponse ∧
    (placePosting p a s).windows = s.windows ∧ (placePosting p a s).port = s.port ∧ (placePosting p a s).mem = s.mem ∧
    (placePosting p a s).memEpoch = s.memEpoch ∧ (placePosting p a s).log = s.log ∧
    (placePosting p a s).scrub = s.scrub ∧ (placePosting p a s).repair = s.repair ∧
    (placePosting p a s).prep = s.prep ∧ (placePosting p a s).thermal = s.thermal ∧
    (placePosting p a s).watch = s.watch ∧ (placePosting p a s).dog = s.dog ∧ (placePosting p a s).trace = s.trace ∧
    (placePosting p a s).keypad = s.keypad ∧ (placePosting p a s).engine = s.engine ∧
    (placePosting p a s).events = s.events ∧ (placePosting p a s).queue = s.queue ∧
    (placePosting p a s).missed = s.missed ∧ (placePosting p a s).headers = s.headers ∧
    (placePosting p a s).lastUser = s.lastUser ∧ (placePosting p a s).resetInput = s.resetInput ∧
    (placePosting p a s).requests = s.requests ∧ (placePosting p a s).holdReleases = s.holdReleases ∧
    (placePosting p a s).outcomes = s.outcomes ∧ (placePosting p a s).watchReports = s.watchReports ∧
    (placePosting p a s).snoopReports = s.snoopReports ∧ (placePosting p a s).freeCount = s.freeCount ∧
    (placePosting p a s).pending = s.pending := by
  unfold placePosting; (try dsimp only); (repeat' split) <;> simp

/-- A response changes the front port alone (R2). -/
@[simp] theorem respond_frame (r : Response) (s : State) :
    (respond r s).loader = s.loader ∧ (respond r s).ctl = s.ctl ∧ (respond r s).clock = s.clock ∧
    (respond r s).lamp = s.lamp ∧ (respond r s).restarts = s.restarts ∧ (respond r s).windows = s.windows ∧
    (respond r s).port = s.port ∧ (respond r s).arbiter = s.arbiter ∧ (respond r s).mem = s.mem ∧
    (respond r s).memEpoch = s.memEpoch ∧ (respond r s).log = s.log ∧ (respond r s).scrub = s.scrub ∧
    (respond r s).repair = s.repair ∧ (respond r s).prep = s.prep ∧ (respond r s).thermal = s.thermal ∧
    (respond r s).watch = s.watch ∧ (respond r s).dog = s.dog ∧ (respond r s).trace = s.trace ∧
    (respond r s).keypad = s.keypad ∧ (respond r s).engine = s.engine ∧ (respond r s).events = s.events ∧
    (respond r s).posting = s.posting ∧ (respond r s).queue = s.queue ∧ (respond r s).missed = s.missed ∧
    (respond r s).headers = s.headers ∧ (respond r s).lastUser = s.lastUser ∧
    (respond r s).resetInput = s.resetInput ∧ (respond r s).requests = s.requests ∧
    (respond r s).holdReleases = s.holdReleases ∧ (respond r s).outcomes = s.outcomes ∧
    (respond r s).watchReports = s.watchReports ∧ (respond r s).snoopReports = s.snoopReports ∧
    (respond r s).freeCount = s.freeCount ∧ (respond r s).pending = s.pending := by
  unfold respond; (try dsimp only); (repeat' split) <;> simp

/-- A report to the restart supervisor changes the reports under way alone (R15). -/
@[simp] theorem reportWatch_frame (r : FrontReport) (s : State) :
    (reportWatch r s).loader = s.loader ∧ (reportWatch r s).ctl = s.ctl ∧ (reportWatch r s).clock = s.clock ∧
    (reportWatch r s).lamp = s.lamp ∧ (reportWatch r s).restarts = s.restarts ∧ (reportWatch r s).front = s.front ∧
    (reportWatch r s).frontResponse = s.frontResponse ∧ (reportWatch r s).windows = s.windows ∧
    (reportWatch r s).port = s.port ∧ (reportWatch r s).arbiter = s.arbiter ∧ (reportWatch r s).mem = s.mem ∧
    (reportWatch r s).memEpoch = s.memEpoch ∧ (reportWatch r s).log = s.log ∧ (reportWatch r s).scrub = s.scrub ∧
    (reportWatch r s).repair = s.repair ∧ (reportWatch r s).prep = s.prep ∧ (reportWatch r s).thermal = s.thermal ∧
    (reportWatch r s).watch = s.watch ∧ (reportWatch r s).dog = s.dog ∧ (reportWatch r s).trace = s.trace ∧
    (reportWatch r s).keypad = s.keypad ∧ (reportWatch r s).engine = s.engine ∧ (reportWatch r s).events = s.events ∧
    (reportWatch r s).posting = s.posting ∧ (reportWatch r s).queue = s.queue ∧ (reportWatch r s).missed = s.missed ∧
    (reportWatch r s).headers = s.headers ∧ (reportWatch r s).lastUser = s.lastUser ∧
    (reportWatch r s).resetInput = s.resetInput ∧ (reportWatch r s).requests = s.requests ∧
    (reportWatch r s).holdReleases = s.holdReleases ∧ (reportWatch r s).outcomes = s.outcomes ∧
    (reportWatch r s).snoopReports = s.snoopReports ∧ (reportWatch r s).freeCount = s.freeCount ∧
    (reportWatch r s).pending = s.pending := by
  unfold reportWatch; (try dsimp only); (repeat' split) <;> simp

/-- A write report changes the reports under way alone (R15). -/
@[simp] theorem reportWrite_frame (r : FrontReport) (s : State) :
    (reportWrite r s).loader = s.loader ∧ (reportWrite r s).ctl = s.ctl ∧ (reportWrite r s).clock = s.clock ∧
    (reportWrite r s).lamp = s.lamp ∧ (reportWrite r s).restarts = s.restarts ∧ (reportWrite r s).front = s.front ∧
    (reportWrite r s).frontResponse = s.frontResponse ∧ (reportWrite r s).windows = s.windows ∧
    (reportWrite r s).port = s.port ∧ (reportWrite r s).arbiter = s.arbiter ∧ (reportWrite r s).mem = s.mem ∧
    (reportWrite r s).memEpoch = s.memEpoch ∧ (reportWrite r s).log = s.log ∧ (reportWrite r s).scrub = s.scrub ∧
    (reportWrite r s).repair = s.repair ∧ (reportWrite r s).prep = s.prep ∧ (reportWrite r s).thermal = s.thermal ∧
    (reportWrite r s).watch = s.watch ∧ (reportWrite r s).dog = s.dog ∧ (reportWrite r s).trace = s.trace ∧
    (reportWrite r s).keypad = s.keypad ∧ (reportWrite r s).engine = s.engine ∧ (reportWrite r s).events = s.events ∧
    (reportWrite r s).posting = s.posting ∧ (reportWrite r s).queue = s.queue ∧ (reportWrite r s).missed = s.missed ∧
    (reportWrite r s).headers = s.headers ∧ (reportWrite r s).lastUser = s.lastUser ∧
    (reportWrite r s).resetInput = s.resetInput ∧ (reportWrite r s).requests = s.requests ∧
    (reportWrite r s).holdReleases = s.holdReleases ∧ (reportWrite r s).outcomes = s.outcomes ∧
    (reportWrite r s).freeCount = s.freeCount ∧ (reportWrite r s).pending = s.pending := by
  unfold reportWrite; (try dsimp only); (repeat' split) <;> simp

/-- Evaluating the demands changes the demands alone (R97, R98). -/
@[simp] theorem evalDemands_frame (s : State) :
    (evalDemands s).loader = s.loader ∧ (evalDemands s).ctl = s.ctl ∧ (evalDemands s).clock = s.clock ∧
    (evalDemands s).lamp = s.lamp ∧ (evalDemands s).restarts = s.restarts ∧ (evalDemands s).front = s.front ∧
    (evalDemands s).frontResponse = s.frontResponse ∧ (evalDemands s).windows = s.windows ∧
    (evalDemands s).port = s.port ∧ (evalDemands s).arbiter = s.arbiter ∧ (evalDemands s).mem = s.mem ∧
    (evalDemands s).memEpoch = s.memEpoch ∧ (evalDemands s).log = s.log ∧ (evalDemands s).scrub = s.scrub ∧
    (evalDemands s).repair = s.repair ∧ (evalDemands s).prep = s.prep ∧ (evalDemands s).watch = s.watch ∧
    (evalDemands s).dog = s.dog ∧ (evalDemands s).trace = s.trace ∧ (evalDemands s).keypad = s.keypad ∧
    (evalDemands s).engine = s.engine ∧ (evalDemands s).events = s.events ∧ (evalDemands s).posting = s.posting ∧
    (evalDemands s).queue = s.queue ∧ (evalDemands s).missed = s.missed ∧ (evalDemands s).headers = s.headers ∧
    (evalDemands s).lastUser = s.lastUser ∧ (evalDemands s).resetInput = s.resetInput ∧
    (evalDemands s).requests = s.requests ∧ (evalDemands s).holdReleases = s.holdReleases ∧
    (evalDemands s).outcomes = s.outcomes ∧ (evalDemands s).watchReports = s.watchReports ∧
    (evalDemands s).snoopReports = s.snoopReports ∧ (evalDemands s).freeCount = s.freeCount ∧
    (evalDemands s).pending = s.pending ∧ (evalDemands s).thermal.channels = s.thermal.channels ∧
    (evalDemands s).thermal.polling = s.thermal.polling ∧ (evalDemands s).thermal.pollTimer = s.thermal.pollTimer ∧
    (evalDemands s).thermal.readiness = s.thermal.readiness ∧
    (evalDemands s).thermal.boardOutput = s.thermal.boardOutput ∧
    (evalDemands s).thermal.panelOutput = s.thermal.panelOutput := by
  unfold evalDemands; (try dsimp only); (repeat' split) <;> simp

/-- Admission changes the heater outputs alone (R99). -/
@[simp] theorem admitHeaters_frame (counted : Bool) (s : State) :
    (admitHeaters counted s).loader = s.loader ∧ (admitHeaters counted s).ctl = s.ctl ∧
    (admitHeaters counted s).clock = s.clock ∧ (admitHeaters counted s).lamp = s.lamp ∧
    (admitHeaters counted s).restarts = s.restarts ∧ (admitHeaters counted s).front = s.front ∧
    (admitHeaters counted s).frontResponse = s.frontResponse ∧ (admitHeaters counted s).windows = s.windows ∧
    (admitHeaters counted s).port = s.port ∧ (admitHeaters counted s).arbiter = s.arbiter ∧
    (admitHeaters counted s).mem = s.mem ∧ (admitHeaters counted s).memEpoch = s.memEpoch ∧
    (admitHeaters counted s).log = s.log ∧ (admitHeaters counted s).scrub = s.scrub ∧
    (admitHeaters counted s).repair = s.repair ∧ (admitHeaters counted s).prep = s.prep ∧
    (admitHeaters counted s).watch = s.watch ∧ (admitHeaters counted s).dog = s.dog ∧
    (admitHeaters counted s).trace = s.trace ∧ (admitHeaters counted s).keypad = s.keypad ∧
    (admitHeaters counted s).engine = s.engine ∧ (admitHeaters counted s).events = s.events ∧
    (admitHeaters counted s).posting = s.posting ∧ (admitHeaters counted s).queue = s.queue ∧
    (admitHeaters counted s).missed = s.missed ∧ (admitHeaters counted s).headers = s.headers ∧
    (admitHeaters counted s).lastUser = s.lastUser ∧ (admitHeaters counted s).resetInput = s.resetInput ∧
    (admitHeaters counted s).requests = s.requests ∧ (admitHeaters counted s).holdReleases = s.holdReleases ∧
    (admitHeaters counted s).outcomes = s.outcomes ∧ (admitHeaters counted s).watchReports = s.watchReports ∧
    (admitHeaters counted s).snoopReports = s.snoopReports ∧ (admitHeaters counted s).freeCount = s.freeCount ∧
    (admitHeaters counted s).pending = s.pending ∧ (admitHeaters counted s).thermal.channels = s.thermal.channels ∧
    (admitHeaters counted s).thermal.polling = s.thermal.polling ∧
    (admitHeaters counted s).thermal.pollTimer = s.thermal.pollTimer ∧
    (admitHeaters counted s).thermal.readiness = s.thermal.readiness ∧
    (admitHeaters counted s).thermal.boardDemand = s.thermal.boardDemand ∧
    (admitHeaters counted s).thermal.panelDemand = s.thermal.panelDemand := by
  unfold admitHeaters; (try dsimp only); (repeat' split) <;> simp

/-- Loading the windows changes the window table alone (R22). -/
@[simp] theorem loadWindows_frame (s : State) :
    (loadWindows s).loader = s.loader ∧ (loadWindows s).ctl = s.ctl ∧ (loadWindows s).clock = s.clock ∧
    (loadWindows s).lamp = s.lamp ∧ (loadWindows s).restarts = s.restarts ∧ (loadWindows s).front = s.front ∧
    (loadWindows s).frontResponse = s.frontResponse ∧ (loadWindows s).port = s.port ∧
    (loadWindows s).arbiter = s.arbiter ∧ (loadWindows s).mem = s.mem ∧ (loadWindows s).memEpoch = s.memEpoch ∧
    (loadWindows s).log = s.log ∧ (loadWindows s).scrub = s.scrub ∧ (loadWindows s).repair = s.repair ∧
    (loadWindows s).prep = s.prep ∧ (loadWindows s).thermal = s.thermal ∧ (loadWindows s).watch = s.watch ∧
    (loadWindows s).dog = s.dog ∧ (loadWindows s).trace = s.trace ∧ (loadWindows s).keypad = s.keypad ∧
    (loadWindows s).engine = s.engine ∧ (loadWindows s).events = s.events ∧ (loadWindows s).posting = s.posting ∧
    (loadWindows s).queue = s.queue ∧ (loadWindows s).missed = s.missed ∧ (loadWindows s).headers = s.headers ∧
    (loadWindows s).lastUser = s.lastUser ∧ (loadWindows s).resetInput = s.resetInput ∧
    (loadWindows s).requests = s.requests ∧ (loadWindows s).holdReleases = s.holdReleases ∧
    (loadWindows s).outcomes = s.outcomes ∧ (loadWindows s).watchReports = s.watchReports ∧
    (loadWindows s).snoopReports = s.snoopReports ∧ (loadWindows s).freeCount = s.freeCount ∧
    (loadWindows s).pending = s.pending := by
  unfold loadWindows; (try dsimp only); (repeat' split) <;> simp

/-- A rewrite report changes the entries of the log alone (R34). -/
@[simp] theorem rewriteReport_frame (offset : Nat) (loc : Location) (syn : Byte) (s : State) :
    (rewriteReport offset loc syn s).loader = s.loader ∧ (rewriteReport offset loc syn s).ctl = s.ctl ∧
    (rewriteReport offset loc syn s).clock = s.clock ∧ (rewriteReport offset loc syn s).lamp = s.lamp ∧
    (rewriteReport offset loc syn s).restarts = s.restarts ∧ (rewriteReport offset loc syn s).front = s.front ∧
    (rewriteReport offset loc syn s).frontResponse = s.frontResponse ∧
    (rewriteReport offset loc syn s).windows = s.windows ∧ (rewriteReport offset loc syn s).port = s.port ∧
    (rewriteReport offset loc syn s).arbiter = s.arbiter ∧ (rewriteReport offset loc syn s).mem = s.mem ∧
    (rewriteReport offset loc syn s).memEpoch = s.memEpoch ∧ (rewriteReport offset loc syn s).scrub = s.scrub ∧
    (rewriteReport offset loc syn s).repair = s.repair ∧ (rewriteReport offset loc syn s).prep = s.prep ∧
    (rewriteReport offset loc syn s).thermal = s.thermal ∧ (rewriteReport offset loc syn s).watch = s.watch ∧
    (rewriteReport offset loc syn s).dog = s.dog ∧ (rewriteReport offset loc syn s).trace = s.trace ∧
    (rewriteReport offset loc syn s).keypad = s.keypad ∧ (rewriteReport offset loc syn s).engine = s.engine ∧
    (rewriteReport offset loc syn s).events = s.events ∧ (rewriteReport offset loc syn s).posting = s.posting ∧
    (rewriteReport offset loc syn s).queue = s.queue ∧ (rewriteReport offset loc syn s).missed = s.missed ∧
    (rewriteReport offset loc syn s).headers = s.headers ∧ (rewriteReport offset loc syn s).lastUser = s.lastUser ∧
    (rewriteReport offset loc syn s).resetInput = s.resetInput ∧
    (rewriteReport offset loc syn s).requests = s.requests ∧
    (rewriteReport offset loc syn s).holdReleases = s.holdReleases ∧
    (rewriteReport offset loc syn s).outcomes = s.outcomes ∧
    (rewriteReport offset loc syn s).watchReports = s.watchReports ∧
    (rewriteReport offset loc syn s).snoopReports = s.snoopReports ∧
    (rewriteReport offset loc syn s).freeCount = s.freeCount ∧ (rewriteReport offset loc syn s).pending = s.pending ∧
    (rewriteReport offset loc syn s).log.corrected = s.log.corrected ∧
    (rewriteReport offset loc syn s).log.reported = s.log.reported ∧
    (rewriteReport offset loc syn s).log.uncorrectable = s.log.uncorrectable ∧
    (rewriteReport offset loc syn s).log.overflow = s.log.overflow ∧
    (rewriteReport offset loc syn s).log.session = s.log.session := by
  unfold rewriteReport; (try dsimp only); (repeat' split) <;> simp

/-- Arming changes the watchdog alone (R141). -/
@[simp] theorem dogArm_frame (s : State) :
    (dogArm s).loader = s.loader ∧ (dogArm s).ctl = s.ctl ∧ (dogArm s).clock = s.clock ∧ (dogArm s).lamp = s.lamp ∧
    (dogArm s).restarts = s.restarts ∧ (dogArm s).front = s.front ∧ (dogArm s).frontResponse = s.frontResponse ∧
    (dogArm s).windows = s.windows ∧ (dogArm s).port = s.port ∧ (dogArm s).arbiter = s.arbiter ∧
    (dogArm s).mem = s.mem ∧ (dogArm s).memEpoch = s.memEpoch ∧ (dogArm s).log = s.log ∧ (dogArm s).scrub = s.scrub ∧
    (dogArm s).repair = s.repair ∧ (dogArm s).prep = s.prep ∧ (dogArm s).thermal = s.thermal ∧
    (dogArm s).watch = s.watch ∧ (dogArm s).trace = s.trace ∧ (dogArm s).keypad = s.keypad ∧
    (dogArm s).engine = s.engine ∧ (dogArm s).events = s.events ∧ (dogArm s).posting = s.posting ∧
    (dogArm s).queue = s.queue ∧ (dogArm s).missed = s.missed ∧ (dogArm s).headers = s.headers ∧
    (dogArm s).lastUser = s.lastUser ∧ (dogArm s).resetInput = s.resetInput ∧ (dogArm s).requests = s.requests ∧
    (dogArm s).holdReleases = s.holdReleases ∧ (dogArm s).outcomes = s.outcomes ∧
    (dogArm s).watchReports = s.watchReports ∧ (dogArm s).snoopReports = s.snoopReports ∧
    (dogArm s).freeCount = s.freeCount ∧ (dogArm s).pending = s.pending ∧ (dogArm s).dog.period = s.dog.period ∧
    (dogArm s).dog.warnWindow = s.dog.warnWindow ∧ (dogArm s).dog.minInterval = s.dog.minInterval ∧
    (dogArm s).dog.warnings = s.dog.warnings ∧ (dogArm s).dog.requestOut = s.dog.requestOut := by
  unfold dogArm; (try dsimp only); (repeat' split) <;> simp

/-- A watchdog's request changes the watchdog and the requests under way alone (R134). -/
@[simp] theorem dogRequest_frame (cause : RestartCause) (s : State) :
    (dogRequest cause s).loader = s.loader ∧ (dogRequest cause s).ctl = s.ctl ∧ (dogRequest cause s).clock = s.clock ∧
    (dogRequest cause s).lamp = s.lamp ∧ (dogRequest cause s).restarts = s.restarts ∧
    (dogRequest cause s).front = s.front ∧ (dogRequest cause s).frontResponse = s.frontResponse ∧
    (dogRequest cause s).windows = s.windows ∧ (dogRequest cause s).port = s.port ∧
    (dogRequest cause s).arbiter = s.arbiter ∧ (dogRequest cause s).mem = s.mem ∧
    (dogRequest cause s).memEpoch = s.memEpoch ∧ (dogRequest cause s).log = s.log ∧
    (dogRequest cause s).scrub = s.scrub ∧ (dogRequest cause s).repair = s.repair ∧
    (dogRequest cause s).prep = s.prep ∧ (dogRequest cause s).thermal = s.thermal ∧
    (dogRequest cause s).watch = s.watch ∧ (dogRequest cause s).trace = s.trace ∧
    (dogRequest cause s).keypad = s.keypad ∧ (dogRequest cause s).engine = s.engine ∧
    (dogRequest cause s).events = s.events ∧ (dogRequest cause s).posting = s.posting ∧
    (dogRequest cause s).queue = s.queue ∧ (dogRequest cause s).missed = s.missed ∧
    (dogRequest cause s).headers = s.headers ∧ (dogRequest cause s).lastUser = s.lastUser ∧
    (dogRequest cause s).resetInput = s.resetInput ∧ (dogRequest cause s).holdReleases = s.holdReleases ∧
    (dogRequest cause s).outcomes = s.outcomes ∧ (dogRequest cause s).watchReports = s.watchReports ∧
    (dogRequest cause s).snoopReports = s.snoopReports ∧ (dogRequest cause s).freeCount = s.freeCount ∧
    (dogRequest cause s).pending = s.pending ∧ (dogRequest cause s).dog.state = s.dog.state ∧
    (dogRequest cause s).dog.reference = s.dog.reference ∧ (dogRequest cause s).dog.period = s.dog.period ∧
    (dogRequest cause s).dog.warnWindow = s.dog.warnWindow ∧
    (dogRequest cause s).dog.minInterval = s.dog.minInterval ∧ (dogRequest cause s).dog.warnings = s.dog.warnings := by
  unfold dogRequest; (try dsimp only); (repeat' split) <;> simp

/-- A boot-stage hit changes suppression and the consecutive cold count alone (R123, R139). -/
@[simp] theorem bootStageHit_frame (s : State) :
    (bootStageHit s).loader = s.loader ∧ (bootStageHit s).ctl = s.ctl ∧ (bootStageHit s).clock = s.clock ∧
    (bootStageHit s).lamp = s.lamp ∧ (bootStageHit s).front = s.front ∧
    (bootStageHit s).frontResponse = s.frontResponse ∧ (bootStageHit s).windows = s.windows ∧
    (bootStageHit s).port = s.port ∧ (bootStageHit s).arbiter = s.arbiter ∧ (bootStageHit s).mem = s.mem ∧
    (bootStageHit s).memEpoch = s.memEpoch ∧ (bootStageHit s).log = s.log ∧ (bootStageHit s).scrub = s.scrub ∧
    (bootStageHit s).repair = s.repair ∧ (bootStageHit s).prep = s.prep ∧ (bootStageHit s).thermal = s.thermal ∧
    (bootStageHit s).dog = s.dog ∧ (bootStageHit s).trace = s.trace ∧ (bootStageHit s).keypad = s.keypad ∧
    (bootStageHit s).engine = s.engine ∧ (bootStageHit s).events = s.events ∧ (bootStageHit s).posting = s.posting ∧
    (bootStageHit s).queue = s.queue ∧ (bootStageHit s).missed = s.missed ∧ (bootStageHit s).headers = s.headers ∧
    (bootStageHit s).lastUser = s.lastUser ∧ (bootStageHit s).resetInput = s.resetInput ∧
    (bootStageHit s).requests = s.requests ∧ (bootStageHit s).holdReleases = s.holdReleases ∧
    (bootStageHit s).outcomes = s.outcomes ∧ (bootStageHit s).watchReports = s.watchReports ∧
    (bootStageHit s).snoopReports = s.snoopReports ∧ (bootStageHit s).freeCount = s.freeCount ∧
    (bootStageHit s).pending = s.pending ∧ (bootStageHit s).watch.hits = s.watch.hits ∧
    (bootStageHit s).watch.lastStage = s.watch.lastStage ∧ (bootStageHit s).watch.senders = s.watch.senders ∧
    (bootStageHit s).watch.lock = s.watch.lock ∧ (bootStageHit s).watch.violations = s.watch.violations ∧
    (bootStageHit s).restarts.history = s.restarts.history ∧ (bootStageHit s).restarts.total = s.restarts.total ∧
    (bootStageHit s).restarts.escalation = s.restarts.escalation := by
  unfold bootStageHit; (try dsimp only); (repeat' split) <;> simp

/-- Tracing changes the write trace alone (R151). -/
@[simp] theorem traceReport_frame (r : FrontReport) (s : State) :
    (traceReport r s).loader = s.loader ∧ (traceReport r s).ctl = s.ctl ∧ (traceReport r s).clock = s.clock ∧
    (traceReport r s).lamp = s.lamp ∧ (traceReport r s).restarts = s.restarts ∧ (traceReport r s).front = s.front ∧
    (traceReport r s).frontResponse = s.frontResponse ∧ (traceReport r s).windows = s.windows ∧
    (traceReport r s).port = s.port ∧ (traceReport r s).arbiter = s.arbiter ∧ (traceReport r s).mem = s.mem ∧
    (traceReport r s).memEpoch = s.memEpoch ∧ (traceReport r s).log = s.log ∧ (traceReport r s).scrub = s.scrub ∧
    (traceReport r s).repair = s.repair ∧ (traceReport r s).prep = s.prep ∧ (traceReport r s).thermal = s.thermal ∧
    (traceReport r s).watch = s.watch ∧ (traceReport r s).dog = s.dog ∧ (traceReport r s).keypad = s.keypad ∧
    (traceReport r s).engine = s.engine ∧ (traceReport r s).events = s.events ∧
    (traceReport r s).posting = s.posting ∧ (traceReport r s).queue = s.queue ∧ (traceReport r s).missed = s.missed ∧
    (traceReport r s).headers = s.headers ∧ (traceReport r s).lastUser = s.lastUser ∧
    (traceReport r s).resetInput = s.resetInput ∧ (traceReport r s).requests = s.requests ∧
    (traceReport r s).holdReleases = s.holdReleases ∧ (traceReport r s).outcomes = s.outcomes ∧
    (traceReport r s).watchReports = s.watchReports ∧ (traceReport r s).snoopReports = s.snoopReports ∧
    (traceReport r s).freeCount = s.freeCount ∧ (traceReport r s).pending = s.pending := by
  unfold traceReport; (try dsimp only); (repeat' split) <;> simp

/-- Replacing a position record changes the positions alone (R157). -/
@[simp] theorem setKeyPos_frame (p : Nat) (k : KeyPosition) (s : State) :
    (setKeyPos p k s).loader = s.loader ∧ (setKeyPos p k s).ctl = s.ctl ∧ (setKeyPos p k s).clock = s.clock ∧
    (setKeyPos p k s).lamp = s.lamp ∧ (setKeyPos p k s).restarts = s.restarts ∧ (setKeyPos p k s).front = s.front ∧
    (setKeyPos p k s).frontResponse = s.frontResponse ∧ (setKeyPos p k s).windows = s.windows ∧
    (setKeyPos p k s).port = s.port ∧ (setKeyPos p k s).arbiter = s.arbiter ∧ (setKeyPos p k s).mem = s.mem ∧
    (setKeyPos p k s).memEpoch = s.memEpoch ∧ (setKeyPos p k s).log = s.log ∧ (setKeyPos p k s).scrub = s.scrub ∧
    (setKeyPos p k s).repair = s.repair ∧ (setKeyPos p k s).prep = s.prep ∧ (setKeyPos p k s).thermal = s.thermal ∧
    (setKeyPos p k s).watch = s.watch ∧ (setKeyPos p k s).dog = s.dog ∧ (setKeyPos p k s).trace = s.trace ∧
    (setKeyPos p k s).engine = s.engine ∧ (setKeyPos p k s).events = s.events ∧
    (setKeyPos p k s).posting = s.posting ∧ (setKeyPos p k s).queue = s.queue ∧ (setKeyPos p k s).missed = s.missed ∧
    (setKeyPos p k s).headers = s.headers ∧ (setKeyPos p k s).lastUser = s.lastUser ∧
    (setKeyPos p k s).resetInput = s.resetInput ∧ (setKeyPos p k s).requests = s.requests ∧
    (setKeyPos p k s).holdReleases = s.holdReleases ∧ (setKeyPos p k s).outcomes = s.outcomes ∧
    (setKeyPos p k s).watchReports = s.watchReports ∧ (setKeyPos p k s).snoopReports = s.snoopReports ∧
    (setKeyPos p k s).freeCount = s.freeCount ∧ (setKeyPos p k s).pending = s.pending ∧
    (setKeyPos p k s).keypad.map = s.keypad.map ∧ (setKeyPos p k s).keypad.chords = s.keypad.chords ∧
    (setKeyPos p k s).keypad.coldDebounce = s.keypad.coldDebounce ∧
    (setKeyPos p k s).keypad.scanTimer = s.keypad.scanTimer := by
  unfold setKeyPos; (try dsimp only); (repeat' split) <;> simp

/-- Replacing a chord changes the chords alone (R169). -/
@[simp] theorem setChord_frame (i : Nat) (c : ChordRecord) (s : State) :
    (setChord i c s).loader = s.loader ∧ (setChord i c s).ctl = s.ctl ∧ (setChord i c s).clock = s.clock ∧
    (setChord i c s).lamp = s.lamp ∧ (setChord i c s).restarts = s.restarts ∧ (setChord i c s).front = s.front ∧
    (setChord i c s).frontResponse = s.frontResponse ∧ (setChord i c s).windows = s.windows ∧
    (setChord i c s).port = s.port ∧ (setChord i c s).arbiter = s.arbiter ∧ (setChord i c s).mem = s.mem ∧
    (setChord i c s).memEpoch = s.memEpoch ∧ (setChord i c s).log = s.log ∧ (setChord i c s).scrub = s.scrub ∧
    (setChord i c s).repair = s.repair ∧ (setChord i c s).prep = s.prep ∧ (setChord i c s).thermal = s.thermal ∧
    (setChord i c s).watch = s.watch ∧ (setChord i c s).dog = s.dog ∧ (setChord i c s).trace = s.trace ∧
    (setChord i c s).engine = s.engine ∧ (setChord i c s).events = s.events ∧ (setChord i c s).posting = s.posting ∧
    (setChord i c s).queue = s.queue ∧ (setChord i c s).missed = s.missed ∧ (setChord i c s).headers = s.headers ∧
    (setChord i c s).lastUser = s.lastUser ∧ (setChord i c s).resetInput = s.resetInput ∧
    (setChord i c s).requests = s.requests ∧ (setChord i c s).holdReleases = s.holdReleases ∧
    (setChord i c s).outcomes = s.outcomes ∧ (setChord i c s).watchReports = s.watchReports ∧
    (setChord i c s).snoopReports = s.snoopReports ∧ (setChord i c s).freeCount = s.freeCount ∧
    (setChord i c s).pending = s.pending ∧ (setChord i c s).keypad.map = s.keypad.map ∧
    (setChord i c s).keypad.positions = s.keypad.positions ∧
    (setChord i c s).keypad.coldDebounce = s.keypad.coldDebounce ∧
    (setChord i c s).keypad.scanTimer = s.keypad.scanTimer := by
  unfold setChord; (try dsimp only); (repeat' split) <;> simp

/-- Replacing a channel changes the channels alone (R91). -/
@[simp] theorem setChannel_frame (k : Nat) (c : Channel) (s : State) :
    (setChannel k c s).loader = s.loader ∧ (setChannel k c s).ctl = s.ctl ∧ (setChannel k c s).clock = s.clock ∧
    (setChannel k c s).lamp = s.lamp ∧ (setChannel k c s).restarts = s.restarts ∧ (setChannel k c s).front = s.front ∧
    (setChannel k c s).frontResponse = s.frontResponse ∧ (setChannel k c s).windows = s.windows ∧
    (setChannel k c s).port = s.port ∧ (setChannel k c s).arbiter = s.arbiter ∧ (setChannel k c s).mem = s.mem ∧
    (setChannel k c s).memEpoch = s.memEpoch ∧ (setChannel k c s).log = s.log ∧ (setChannel k c s).scrub = s.scrub ∧
    (setChannel k c s).repair = s.repair ∧ (setChannel k c s).prep = s.prep ∧ (setChannel k c s).watch = s.watch ∧
    (setChannel k c s).dog = s.dog ∧ (setChannel k c s).trace = s.trace ∧ (setChannel k c s).keypad = s.keypad ∧
    (setChannel k c s).engine = s.engine ∧ (setChannel k c s).events = s.events ∧
    (setChannel k c s).posting = s.posting ∧ (setChannel k c s).queue = s.queue ∧
    (setChannel k c s).missed = s.missed ∧ (setChannel k c s).headers = s.headers ∧
    (setChannel k c s).lastUser = s.lastUser ∧ (setChannel k c s).resetInput = s.resetInput ∧
    (setChannel k c s).requests = s.requests ∧ (setChannel k c s).holdReleases = s.holdReleases ∧
    (setChannel k c s).outcomes = s.outcomes ∧ (setChannel k c s).watchReports = s.watchReports ∧
    (setChannel k c s).snoopReports = s.snoopReports ∧ (setChannel k c s).freeCount = s.freeCount ∧
    (setChannel k c s).pending = s.pending ∧ (setChannel k c s).thermal.polling = s.thermal.polling ∧
    (setChannel k c s).thermal.pollTimer = s.thermal.pollTimer ∧
    (setChannel k c s).thermal.readiness = s.thermal.readiness ∧
    (setChannel k c s).thermal.boardDemand = s.thermal.boardDemand ∧
    (setChannel k c s).thermal.panelDemand = s.thermal.panelDemand ∧
    (setChannel k c s).thermal.boardOutput = s.thermal.boardOutput ∧
    (setChannel k c s).thermal.panelOutput = s.thermal.panelOutput := by
  unfold setChannel; (try dsimp only); (repeat' split) <;> simp

/-- A round's beginning changes the poll in progress alone (R90). -/
@[simp] theorem beginRound_frame (s : State) :
    (beginRound s).loader = s.loader ∧ (beginRound s).ctl = s.ctl ∧ (beginRound s).clock = s.clock ∧
    (beginRound s).lamp = s.lamp ∧ (beginRound s).restarts = s.restarts ∧ (beginRound s).front = s.front ∧
    (beginRound s).frontResponse = s.frontResponse ∧ (beginRound s).windows = s.windows ∧
    (beginRound s).port = s.port ∧ (beginRound s).arbiter = s.arbiter ∧ (beginRound s).mem = s.mem ∧
    (beginRound s).memEpoch = s.memEpoch ∧ (beginRound s).log = s.log ∧ (beginRound s).scrub = s.scrub ∧
    (beginRound s).repair = s.repair ∧ (beginRound s).prep = s.prep ∧ (beginRound s).watch = s.watch ∧
    (beginRound s).dog = s.dog ∧ (beginRound s).trace = s.trace ∧ (beginRound s).keypad = s.keypad ∧
    (beginRound s).engine = s.engine ∧ (beginRound s).events = s.events ∧ (beginRound s).posting = s.posting ∧
    (beginRound s).queue = s.queue ∧ (beginRound s).missed = s.missed ∧ (beginRound s).headers = s.headers ∧
    (beginRound s).lastUser = s.lastUser ∧ (beginRound s).resetInput = s.resetInput ∧
    (beginRound s).requests = s.requests ∧ (beginRound s).holdReleases = s.holdReleases ∧
    (beginRound s).outcomes = s.outcomes ∧ (beginRound s).watchReports = s.watchReports ∧
    (beginRound s).snoopReports = s.snoopReports ∧ (beginRound s).freeCount = s.freeCount ∧
    (beginRound s).pending = s.pending ∧ (beginRound s).thermal.channels = s.thermal.channels ∧
    (beginRound s).thermal.pollTimer = s.thermal.pollTimer ∧ (beginRound s).thermal.readiness = s.thermal.readiness ∧
    (beginRound s).thermal.boardDemand = s.thermal.boardDemand ∧
    (beginRound s).thermal.panelDemand = s.thermal.panelDemand ∧
    (beginRound s).thermal.boardOutput = s.thermal.boardOutput ∧
    (beginRound s).thermal.panelOutput = s.thermal.panelOutput := by
  unfold beginRound; (try dsimp only); (repeat' split) <;> simp

/-- A submit value changes the engine's copy alone (R178). -/
@[simp] theorem setSubmit_frame (v : Nat) (s : State) :
    (setSubmit v s).loader = s.loader ∧ (setSubmit v s).ctl = s.ctl ∧ (setSubmit v s).clock = s.clock ∧
    (setSubmit v s).lamp = s.lamp ∧ (setSubmit v s).restarts = s.restarts ∧ (setSubmit v s).front = s.front ∧
    (setSubmit v s).frontResponse = s.frontResponse ∧ (setSubmit v s).windows = s.windows ∧
    (setSubmit v s).port = s.port ∧ (setSubmit v s).arbiter = s.arbiter ∧ (setSubmit v s).mem = s.mem ∧
    (setSubmit v s).memEpoch = s.memEpoch ∧ (setSubmit v s).log = s.log ∧ (setSubmit v s).scrub = s.scrub ∧
    (setSubmit v s).repair = s.repair ∧ (setSubmit v s).prep = s.prep ∧ (setSubmit v s).thermal = s.thermal ∧
    (setSubmit v s).watch = s.watch ∧ (setSubmit v s).dog = s.dog ∧ (setSubmit v s).trace = s.trace ∧
    (setSubmit v s).keypad = s.keypad ∧ (setSubmit v s).events = s.events ∧ (setSubmit v s).posting = s.posting ∧
    (setSubmit v s).queue = s.queue ∧ (setSubmit v s).missed = s.missed ∧ (setSubmit v s).headers = s.headers ∧
    (setSubmit v s).lastUser = s.lastUser ∧ (setSubmit v s).resetInput = s.resetInput ∧
    (setSubmit v s).requests = s.requests ∧ (setSubmit v s).holdReleases = s.holdReleases ∧
    (setSubmit v s).outcomes = s.outcomes ∧ (setSubmit v s).watchReports = s.watchReports ∧
    (setSubmit v s).snoopReports = s.snoopReports ∧ (setSubmit v s).freeCount = s.freeCount ∧
    (setSubmit v s).pending = s.pending ∧ (setSubmit v s).engine.done = s.engine.done ∧
    (setSubmit v s).engine.state = s.engine.state ∧ (setSubmit v s).engine.record = s.engine.record ∧
    (setSubmit v s).engine.work = s.engine.work ∧ (setSubmit v s).engine.faultPending = s.engine.faultPending ∧
    (setSubmit v s).engine.waitTimer = s.engine.waitTimer := by
  unfold setSubmit; (try dsimp only); (repeat' split) <;> simp

/-- A record appended changes the history, the total and the trace alone (R150, R151). -/
@[simp] theorem appendRecord_frame (cause : RestartCause) (requested : Option RestartKind) (kind : RestartKind) (s : State) :
    (appendRecord cause requested kind s).loader = s.loader ∧ (appendRecord cause requested kind s).ctl = s.ctl ∧
    (appendRecord cause requested kind s).clock = s.clock ∧ (appendRecord cause requested kind s).lamp = s.lamp ∧
    (appendRecord cause requested kind s).front = s.front ∧
    (appendRecord cause requested kind s).frontResponse = s.frontResponse ∧
    (appendRecord cause requested kind s).windows = s.windows ∧ (appendRecord cause requested kind s).port = s.port ∧
    (appendRecord cause requested kind s).arbiter = s.arbiter ∧ (appendRecord cause requested kind s).mem = s.mem ∧
    (appendRecord cause requested kind s).memEpoch = s.memEpoch ∧ (appendRecord cause requested kind s).log = s.log ∧
    (appendRecord cause requested kind s).scrub = s.scrub ∧ (appendRecord cause requested kind s).repair = s.repair ∧
    (appendRecord cause requested kind s).prep = s.prep ∧ (appendRecord cause requested kind s).thermal = s.thermal ∧
    (appendRecord cause requested kind s).watch = s.watch ∧ (appendRecord cause requested kind s).dog = s.dog ∧
    (appendRecord cause requested kind s).keypad = s.keypad ∧
    (appendRecord cause requested kind s).engine = s.engine ∧
    (appendRecord cause requested kind s).events = s.events ∧
    (appendRecord cause requested kind s).posting = s.posting ∧
    (appendRecord cause requested kind s).queue = s.queue ∧ (appendRecord cause requested kind s).missed = s.missed ∧
    (appendRecord cause requested kind s).headers = s.headers ∧
    (appendRecord cause requested kind s).lastUser = s.lastUser ∧
    (appendRecord cause requested kind s).resetInput = s.resetInput ∧
    (appendRecord cause requested kind s).requests = s.requests ∧
    (appendRecord cause requested kind s).holdReleases = s.holdReleases ∧
    (appendRecord cause requested kind s).outcomes = s.outcomes ∧
    (appendRecord cause requested kind s).watchReports = s.watchReports ∧
    (appendRecord cause requested kind s).snoopReports = s.snoopReports ∧
    (appendRecord cause requested kind s).freeCount = s.freeCount ∧
    (appendRecord cause requested kind s).pending = s.pending ∧
    (appendRecord cause requested kind s).restarts.escalation = s.restarts.escalation ∧
    (appendRecord cause requested kind s).restarts.coldCount = s.restarts.coldCount := by
  unfold appendRecord; (try dsimp only); (repeat' split) <;> simp

/-- A regime set changes the regime, its outputs and its timers alone (R71, R74). -/
@[simp] theorem setRegime_frame (new : Regime) (s : State) :
    (setRegime new s).loader = s.loader ∧ (setRegime new s).clock = s.clock ∧ (setRegime new s).lamp = s.lamp ∧
    (setRegime new s).restarts = s.restarts ∧ (setRegime new s).front = s.front ∧
    (setRegime new s).frontResponse = s.frontResponse ∧ (setRegime new s).windows = s.windows ∧
    (setRegime new s).port = s.port ∧ (setRegime new s).arbiter = s.arbiter ∧ (setRegime new s).mem = s.mem ∧
    (setRegime new s).memEpoch = s.memEpoch ∧ (setRegime new s).log = s.log ∧ (setRegime new s).scrub = s.scrub ∧
    (setRegime new s).repair = s.repair ∧ (setRegime new s).prep = s.prep ∧ (setRegime new s).thermal = s.thermal ∧
    (setRegime new s).watch = s.watch ∧ (setRegime new s).dog = s.dog ∧ (setRegime new s).trace = s.trace ∧
    (setRegime new s).keypad = s.keypad ∧ (setRegime new s).engine = s.engine ∧ (setRegime new s).events = s.events ∧
    (setRegime new s).posting = s.posting ∧ (setRegime new s).queue = s.queue ∧ (setRegime new s).missed = s.missed ∧
    (setRegime new s).headers = s.headers ∧ (setRegime new s).lastUser = s.lastUser ∧
    (setRegime new s).resetInput = s.resetInput ∧ (setRegime new s).requests = s.requests ∧
    (setRegime new s).holdReleases = s.holdReleases ∧ (setRegime new s).outcomes = s.outcomes ∧
    (setRegime new s).watchReports = s.watchReports ∧ (setRegime new s).snoopReports = s.snoopReports ∧
    (setRegime new s).freeCount = s.freeCount ∧ (setRegime new s).pending = s.pending ∧
    (setRegime new s).ctl.memValid = s.ctl.memValid ∧ (setRegime new s).ctl.pendingForced = s.ctl.pendingForced ∧
    (setRegime new s).ctl.pendingDoubtful = s.ctl.pendingDoubtful ∧
    (setRegime new s).ctl.sessionForced = s.ctl.sessionForced ∧
    (setRegime new s).ctl.sessionDoubtful = s.ctl.sessionDoubtful := by
  simp [setRegime, regimeTimers]

/-- What an entry into RUNNING leaves as it was (R81). -/
@[simp] theorem enterRunning_frame (s : State) :
    (enterRunning s).loader = s.loader ∧ (enterRunning s).lamp = s.lamp ∧ (enterRunning s).restarts = s.restarts ∧
    (enterRunning s).front = s.front ∧ (enterRunning s).frontResponse = s.frontResponse ∧
    (enterRunning s).windows = s.windows ∧ (enterRunning s).port = s.port ∧ (enterRunning s).arbiter = s.arbiter ∧
    (enterRunning s).mem = s.mem ∧ (enterRunning s).memEpoch = s.memEpoch ∧ (enterRunning s).scrub = s.scrub ∧
    (enterRunning s).repair = s.repair ∧ (enterRunning s).prep = s.prep ∧ (enterRunning s).thermal = s.thermal ∧
    (enterRunning s).keypad = s.keypad ∧ (enterRunning s).engine = s.engine ∧ (enterRunning s).events = s.events ∧
    (enterRunning s).posting = s.posting ∧ (enterRunning s).queue = s.queue ∧ (enterRunning s).missed = s.missed ∧
    (enterRunning s).headers = s.headers ∧ (enterRunning s).lastUser = s.lastUser ∧
    (enterRunning s).resetInput = s.resetInput ∧ (enterRunning s).requests = s.requests ∧
    (enterRunning s).holdReleases = s.holdReleases ∧ (enterRunning s).outcomes = s.outcomes ∧
    (enterRunning s).watchReports = s.watchReports ∧ (enterRunning s).snoopReports = s.snoopReports ∧
    (enterRunning s).freeCount = s.freeCount ∧ (enterRunning s).pending = s.pending ∧
    (enterRunning s).ctl.regime = s.ctl.regime ∧ (enterRunning s).ctl.power = s.ctl.power ∧
    (enterRunning s).ctl.processorReset = s.ctl.processorReset ∧ (enterRunning s).ctl.memValid = s.ctl.memValid ∧
    (enterRunning s).ctl.pendingForced = s.ctl.pendingForced ∧
    (enterRunning s).ctl.pendingDoubtful = s.ctl.pendingDoubtful ∧ (enterRunning s).ctl.heatLimit = s.ctl.heatLimit ∧
    (enterRunning s).ctl.soak = s.ctl.soak ∧ (enterRunning s).ctl.off = s.ctl.off ∧
    (enterRunning s).ctl.pulse = s.ctl.pulse ∧ (enterRunning s).clock.uptime = s.clock.uptime ∧
    (enterRunning s).log.entries = s.log.entries ∧ (enterRunning s).log.corrected = s.log.corrected ∧
    (enterRunning s).log.reported = s.log.reported ∧ (enterRunning s).log.uncorrectable = s.log.uncorrectable ∧
    (enterRunning s).log.overflow = s.log.overflow ∧ (enterRunning s).watch.entries = s.watch.entries ∧
    (enterRunning s).watch.hits = s.watch.hits ∧ (enterRunning s).watch.lock = s.watch.lock ∧
    (enterRunning s).watch.violations = s.watch.violations := by
  unfold enterRunning; (try dsimp only); (repeat' split) <;> simp

/-- What a release's first step leaves as it was (R177). -/
@[simp] theorem headerStart_frame (s : State) :
    (headerStart s).loader = s.loader ∧ (headerStart s).ctl = s.ctl ∧ (headerStart s).clock = s.clock ∧
    (headerStart s).lamp = s.lamp ∧ (headerStart s).restarts = s.restarts ∧ (headerStart s).front = s.front ∧
    (headerStart s).frontResponse = s.frontResponse ∧ (headerStart s).windows = s.windows ∧
    (headerStart s).port = s.port ∧ (headerStart s).arbiter = s.arbiter ∧ (headerStart s).mem = s.mem ∧
    (headerStart s).memEpoch = s.memEpoch ∧ (headerStart s).log = s.log ∧ (headerStart s).scrub = s.scrub ∧
    (headerStart s).repair = s.repair ∧ (headerStart s).prep = s.prep ∧ (headerStart s).thermal = s.thermal ∧
    (headerStart s).watch = s.watch ∧ (headerStart s).dog = s.dog ∧ (headerStart s).trace = s.trace ∧
    (headerStart s).keypad = s.keypad ∧ (headerStart s).queue = s.queue ∧ (headerStart s).lastUser = s.lastUser ∧
    (headerStart s).resetInput = s.resetInput ∧ (headerStart s).requests = s.requests ∧
    (headerStart s).holdReleases = s.holdReleases ∧ (headerStart s).outcomes = s.outcomes ∧
    (headerStart s).watchReports = s.watchReports ∧ (headerStart s).snoopReports = s.snoopReports ∧
    (headerStart s).freeCount = s.freeCount ∧ (headerStart s).pending = s.pending ∧
    (headerStart s).engine.record = s.engine.record := by
  unfold headerStart; (try dsimp only); (repeat' split) <;> simp

/-- Beginning a fetch changes the engine alone (R179). -/
@[simp] theorem beginFetch_frame (s : State) :
    (beginFetch s).loader = s.loader ∧ (beginFetch s).ctl = s.ctl ∧ (beginFetch s).clock = s.clock ∧
    (beginFetch s).lamp = s.lamp ∧ (beginFetch s).restarts = s.restarts ∧ (beginFetch s).front = s.front ∧
    (beginFetch s).frontResponse = s.frontResponse ∧ (beginFetch s).windows = s.windows ∧
    (beginFetch s).port = s.port ∧ (beginFetch s).arbiter = s.arbiter ∧ (beginFetch s).mem = s.mem ∧
    (beginFetch s).memEpoch = s.memEpoch ∧ (beginFetch s).log = s.log ∧ (beginFetch s).scrub = s.scrub ∧
    (beginFetch s).repair = s.repair ∧ (beginFetch s).prep = s.prep ∧ (beginFetch s).thermal = s.thermal ∧
    (beginFetch s).watch = s.watch ∧ (beginFetch s).dog = s.dog ∧ (beginFetch s).trace = s.trace ∧
    (beginFetch s).keypad = s.keypad ∧ (beginFetch s).events = s.events ∧ (beginFetch s).posting = s.posting ∧
    (beginFetch s).queue = s.queue ∧ (beginFetch s).missed = s.missed ∧ (beginFetch s).headers = s.headers ∧
    (beginFetch s).lastUser = s.lastUser ∧ (beginFetch s).resetInput = s.resetInput ∧
    (beginFetch s).requests = s.requests ∧ (beginFetch s).holdReleases = s.holdReleases ∧
    (beginFetch s).outcomes = s.outcomes ∧ (beginFetch s).watchReports = s.watchReports ∧
    (beginFetch s).snoopReports = s.snoopReports ∧ (beginFetch s).freeCount = s.freeCount ∧
    (beginFetch s).pending = s.pending ∧ (beginFetch s).engine.submit = s.engine.submit ∧
    (beginFetch s).engine.done = s.engine.done ∧ (beginFetch s).engine.faultPending = s.engine.faultPending ∧
    (beginFetch s).engine.waitTimer = s.engine.waitTimer := by
  unfold beginFetch; (try dsimp only); (repeat' split) <;> simp

end Sys2Proof.Machine
end

