-- ==== Sys2Proof/Laws/Ops.lean ====
section
/-! SUPPORT. The shared operations over the memory port, the queue and the reservation: what each leaves as it was. -/

namespace Sys2Proof.Machine

/-- A grant's effect at the block it goes to. -/
@[simp] theorem granted_frame (r : Requester) (a : Access) (s : State) :
    (granted r a s).loader = s.loader ∧ (granted r a s).ctl = s.ctl ∧ (granted r a s).clock = s.clock ∧
    (granted r a s).lamp = s.lamp ∧ (granted r a s).restarts = s.restarts ∧
    (granted r a s).frontResponse = s.frontResponse ∧ (granted r a s).windows = s.windows ∧
    (granted r a s).port = s.port ∧ (granted r a s).arbiter = s.arbiter ∧ (granted r a s).mem = s.mem ∧
    (granted r a s).memEpoch = s.memEpoch ∧ (granted r a s).log = s.log ∧ (granted r a s).thermal = s.thermal ∧
    (granted r a s).watch = s.watch ∧ (granted r a s).dog = s.dog ∧ (granted r a s).trace = s.trace ∧
    (granted r a s).keypad = s.keypad ∧ (granted r a s).engine = s.engine ∧ (granted r a s).events = s.events ∧
    (granted r a s).posting = s.posting ∧ (granted r a s).queue = s.queue ∧ (granted r a s).missed = s.missed ∧
    (granted r a s).headers = s.headers ∧ (granted r a s).resetInput = s.resetInput ∧
    (granted r a s).requests = s.requests ∧ (granted r a s).holdReleases = s.holdReleases ∧
    (granted r a s).outcomes = s.outcomes ∧ (granted r a s).watchReports = s.watchReports ∧
    (granted r a s).snoopReports = s.snoopReports ∧ (granted r a s).freeCount = s.freeCount ∧
    (granted r a s).pending = s.pending ∧ (granted r a s).repair.table = s.repair.table ∧
    (granted r a s).repair.spent = s.repair.spent ∧ (granted r a s).repair.requests = s.repair.requests ∧
    (granted r a s).repair.reservation = s.repair.reservation ∧
    (granted r a s).repair.completed = s.repair.completed ∧ (granted r a s).repair.reRepaired = s.repair.reRepaired ∧
    (granted r a s).repair.refused = s.repair.refused ∧ (granted r a s).repair.declined = s.repair.declined ∧
    (granted r a s).repair.dropped = s.repair.dropped ∧ (granted r a s).repair.abandoned = s.repair.abandoned ∧
    (granted r a s).prep.activity = s.prep.activity ∧ (granted r a s).prep.pass = s.prep.pass ∧
    (granted r a s).prep.position = s.prep.position ∧ (granted r a s).prep.step = s.prep.step ∧
    (granted r a s).prep.corrected = s.prep.corrected ∧ (granted r a s).prep.uncorrectable = s.prep.uncorrectable ∧
    (granted r a s).prep.retry = s.prep.retry ∧ (granted r a s).prep.range = s.prep.range ∧
    (granted r a s).scrub.fixList = s.scrub.fixList ∧ (granted r a s).scrub.position = s.scrub.position ∧
    (granted r a s).scrub.count = s.scrub.count ∧ (granted r a s).scrub.timer = s.scrub.timer ∧
    (granted r a s).scrub.inHand = s.scrub.inHand ∧ (granted r a s).scrub.cold = s.scrub.cold := by
  cases r <;> simp [granted] <;> split <;> simp

/-- The arbiter's grant touches the port, the arbiter and the requester's own phase alone (R24). -/
@[simp] theorem grant_frame (s : State) :
    (grant s).loader = s.loader ∧ (grant s).ctl = s.ctl ∧ (grant s).clock = s.clock ∧ (grant s).lamp = s.lamp ∧
    (grant s).restarts = s.restarts ∧ (grant s).frontResponse = s.frontResponse ∧ (grant s).windows = s.windows ∧
    (grant s).mem = s.mem ∧ (grant s).memEpoch = s.memEpoch ∧ (grant s).log = s.log ∧ (grant s).thermal = s.thermal ∧
    (grant s).watch = s.watch ∧ (grant s).dog = s.dog ∧ (grant s).trace = s.trace ∧ (grant s).keypad = s.keypad ∧
    (grant s).engine = s.engine ∧ (grant s).events = s.events ∧ (grant s).posting = s.posting ∧
    (grant s).queue = s.queue ∧ (grant s).missed = s.missed ∧ (grant s).headers = s.headers ∧
    (grant s).resetInput = s.resetInput ∧ (grant s).requests = s.requests ∧ (grant s).holdReleases = s.holdReleases ∧
    (grant s).outcomes = s.outcomes ∧ (grant s).watchReports = s.watchReports ∧
    (grant s).snoopReports = s.snoopReports ∧ (grant s).freeCount = s.freeCount ∧ (grant s).pending = s.pending ∧
    (grant s).repair.table = s.repair.table ∧ (grant s).repair.spent = s.repair.spent ∧
    (grant s).repair.requests = s.repair.requests ∧ (grant s).repair.reservation = s.repair.reservation ∧
    (grant s).repair.completed = s.repair.completed ∧ (grant s).repair.reRepaired = s.repair.reRepaired ∧
    (grant s).repair.refused = s.repair.refused ∧ (grant s).repair.declined = s.repair.declined ∧
    (grant s).repair.dropped = s.repair.dropped ∧ (grant s).repair.abandoned = s.repair.abandoned ∧
    (grant s).prep.activity = s.prep.activity ∧ (grant s).prep.pass = s.prep.pass ∧
    (grant s).prep.position = s.prep.position ∧ (grant s).prep.step = s.prep.step ∧
    (grant s).prep.corrected = s.prep.corrected ∧ (grant s).prep.uncorrectable = s.prep.uncorrectable ∧
    (grant s).prep.retry = s.prep.retry ∧ (grant s).prep.range = s.prep.range ∧
    (grant s).scrub.fixList = s.scrub.fixList ∧ (grant s).scrub.position = s.scrub.position ∧
    (grant s).scrub.count = s.scrub.count ∧ (grant s).scrub.timer = s.scrub.timer ∧
    (grant s).scrub.inHand = s.scrub.inHand ∧ (grant s).scrub.cold = s.scrub.cold := by
  unfold grant; (try dsimp only); (repeat' split) <;> simp

/-- When the mailbox unit is busy: a request at the arbiter, or an access at the port. -/
theorem mailboxBusy_iff (s : State) : mailboxBusy s = true ↔
    s.arbiter.mailbox.isSome = true ∨ ∃ x, s.port = some x ∧ x.requester = .mailbox := by
  unfold mailboxBusy
  cases s.port <;> simp

/-- An access in a group that is not reserved is placed as it is (R57). -/
theorem unreserved_free (s : State) (a : Access) (h : s.repair.reservation ≠ some (groupOf a.offset)) :
    unreserved s (some a) = some a := by
  simp [unreserved, State.reservedAt, h]

/-- An access in the reserved group waits (R57). -/
theorem unreserved_reserved (s : State) (a : Access) (h : s.repair.reservation = some (groupOf a.offset)) :
    unreserved s (some a) = none := by
  simp [unreserved, State.reservedAt, h]

/-- The mailbox unit's request touches the arbiter and the posting alone (R183). -/
@[simp] theorem mailboxPlace_frame (s : State) :
    (mailboxPlace s).loader = s.loader ∧ (mailboxPlace s).ctl = s.ctl ∧ (mailboxPlace s).clock = s.clock ∧
    (mailboxPlace s).lamp = s.lamp ∧ (mailboxPlace s).restarts = s.restarts ∧ (mailboxPlace s).front = s.front ∧
    (mailboxPlace s).frontResponse = s.frontResponse ∧ (mailboxPlace s).windows = s.windows ∧
    (mailboxPlace s).port = s.port ∧ (mailboxPlace s).mem = s.mem ∧ (mailboxPlace s).memEpoch = s.memEpoch ∧
    (mailboxPlace s).log = s.log ∧ (mailboxPlace s).scrub = s.scrub ∧ (mailboxPlace s).repair = s.repair ∧
    (mailboxPlace s).prep = s.prep ∧ (mailboxPlace s).thermal = s.thermal ∧ (mailboxPlace s).watch = s.watch ∧
    (mailboxPlace s).dog = s.dog ∧ (mailboxPlace s).trace = s.trace ∧ (mailboxPlace s).keypad = s.keypad ∧
    (mailboxPlace s).engine = s.engine ∧ (mailboxPlace s).events = s.events ∧ (mailboxPlace s).queue = s.queue ∧
    (mailboxPlace s).missed = s.missed ∧ (mailboxPlace s).headers = s.headers ∧
    (mailboxPlace s).lastUser = s.lastUser ∧ (mailboxPlace s).resetInput = s.resetInput ∧
    (mailboxPlace s).requests = s.requests ∧ (mailboxPlace s).holdReleases = s.holdReleases ∧
    (mailboxPlace s).outcomes = s.outcomes ∧ (mailboxPlace s).watchReports = s.watchReports ∧
    (mailboxPlace s).snoopReports = s.snoopReports ∧ (mailboxPlace s).freeCount = s.freeCount ∧
    (mailboxPlace s).pending = s.pending := by
  unfold mailboxPlace; (try dsimp only); (repeat' split) <;> simp

/-- The end of a step: the mailbox unit's request and the grant, and nothing else (R24, R183). -/
@[simp] theorem finish_frame (s : State) :
    (finish s).loader = s.loader ∧ (finish s).ctl = s.ctl ∧ (finish s).clock = s.clock ∧ (finish s).lamp = s.lamp ∧
    (finish s).restarts = s.restarts ∧ (finish s).frontResponse = s.frontResponse ∧ (finish s).windows = s.windows ∧
    (finish s).mem = s.mem ∧ (finish s).memEpoch = s.memEpoch ∧ (finish s).log = s.log ∧
    (finish s).thermal = s.thermal ∧ (finish s).watch = s.watch ∧ (finish s).dog = s.dog ∧
    (finish s).trace = s.trace ∧ (finish s).keypad = s.keypad ∧ (finish s).engine = s.engine ∧
    (finish s).events = s.events ∧ (finish s).queue = s.queue ∧ (finish s).missed = s.missed ∧
    (finish s).headers = s.headers ∧ (finish s).resetInput = s.resetInput ∧ (finish s).requests = s.requests ∧
    (finish s).holdReleases = s.holdReleases ∧ (finish s).outcomes = s.outcomes ∧
    (finish s).watchReports = s.watchReports ∧ (finish s).snoopReports = s.snoopReports ∧
    (finish s).freeCount = s.freeCount ∧ (finish s).pending = s.pending ∧ (finish s).repair.table = s.repair.table ∧
    (finish s).repair.spent = s.repair.spent ∧ (finish s).repair.requests = s.repair.requests ∧
    (finish s).repair.reservation = s.repair.reservation ∧ (finish s).repair.completed = s.repair.completed ∧
    (finish s).repair.reRepaired = s.repair.reRepaired ∧ (finish s).repair.refused = s.repair.refused ∧
    (finish s).repair.declined = s.repair.declined ∧ (finish s).repair.dropped = s.repair.dropped ∧
    (finish s).repair.abandoned = s.repair.abandoned ∧ (finish s).prep.activity = s.prep.activity ∧
    (finish s).prep.pass = s.prep.pass ∧ (finish s).prep.position = s.prep.position ∧
    (finish s).prep.step = s.prep.step ∧ (finish s).prep.corrected = s.prep.corrected ∧
    (finish s).prep.uncorrectable = s.prep.uncorrectable ∧ (finish s).prep.retry = s.prep.retry ∧
    (finish s).prep.range = s.prep.range ∧ (finish s).scrub.fixList = s.scrub.fixList ∧
    (finish s).scrub.position = s.scrub.position ∧ (finish s).scrub.count = s.scrub.count ∧
    (finish s).scrub.timer = s.scrub.timer ∧ (finish s).scrub.inHand = s.scrub.inHand ∧
    (finish s).scrub.cold = s.scrub.cold := by
  simp [finish]

/-- A completed write clears carried places alone (R63). -/
@[simp] theorem clearCarried_frame (a : Access) (s : State) :
    (clearCarried a s).loader = s.loader ∧ (clearCarried a s).ctl = s.ctl ∧ (clearCarried a s).clock = s.clock ∧
    (clearCarried a s).lamp = s.lamp ∧ (clearCarried a s).restarts = s.restarts ∧ (clearCarried a s).front = s.front ∧
    (clearCarried a s).frontResponse = s.frontResponse ∧ (clearCarried a s).windows = s.windows ∧
    (clearCarried a s).port = s.port ∧ (clearCarried a s).arbiter = s.arbiter ∧ (clearCarried a s).mem = s.mem ∧
    (clearCarried a s).memEpoch = s.memEpoch ∧ (clearCarried a s).log = s.log ∧ (clearCarried a s).scrub = s.scrub ∧
    (clearCarried a s).prep = s.prep ∧ (clearCarried a s).thermal = s.thermal ∧ (clearCarried a s).watch = s.watch ∧
    (clearCarried a s).dog = s.dog ∧ (clearCarried a s).trace = s.trace ∧ (clearCarried a s).keypad = s.keypad ∧
    (clearCarried a s).engine = s.engine ∧ (clearCarried a s).events = s.events ∧
    (clearCarried a s).posting = s.posting ∧ (clearCarried a s).queue = s.queue ∧
    (clearCarried a s).missed = s.missed ∧ (clearCarried a s).headers = s.headers ∧
    (clearCarried a s).lastUser = s.lastUser ∧ (clearCarried a s).resetInput = s.resetInput ∧
    (clearCarried a s).requests = s.requests ∧ (clearCarried a s).holdReleases = s.holdReleases ∧
    (clearCarried a s).outcomes = s.outcomes ∧ (clearCarried a s).watchReports = s.watchReports ∧
    (clearCarried a s).snoopReports = s.snoopReports ∧ (clearCarried a s).freeCount = s.freeCount ∧
    (clearCarried a s).pending = s.pending ∧ (clearCarried a s).repair.spent = s.repair.spent ∧
    (clearCarried a s).repair.requests = s.repair.requests ∧
    (clearCarried a s).repair.reservation = s.repair.reservation ∧
    (clearCarried a s).repair.completed = s.repair.completed ∧
    (clearCarried a s).repair.reRepaired = s.repair.reRepaired ∧
    (clearCarried a s).repair.refused = s.repair.refused ∧ (clearCarried a s).repair.declined = s.repair.declined ∧
    (clearCarried a s).repair.dropped = s.repair.dropped ∧ (clearCarried a s).repair.abandoned = s.repair.abandoned ∧
    (clearCarried a s).repair.migration = s.repair.migration := by
  unfold clearCarried; (try dsimp only); (repeat' split) <;> simp

/-- A notice changes the queue and the missed count alone (R189). -/
@[simp] theorem queueNotice_frame (b : NoticeBody) (s : State) :
    (queueNotice b s).loader = s.loader ∧ (queueNotice b s).ctl = s.ctl ∧ (queueNotice b s).clock = s.clock ∧
    (queueNotice b s).lamp = s.lamp ∧ (queueNotice b s).restarts = s.restarts ∧ (queueNotice b s).front = s.front ∧
    (queueNotice b s).frontResponse = s.frontResponse ∧ (queueNotice b s).windows = s.windows ∧
    (queueNotice b s).port = s.port ∧ (queueNotice b s).arbiter = s.arbiter ∧ (queueNotice b s).mem = s.mem ∧
    (queueNotice b s).memEpoch = s.memEpoch ∧ (queueNotice b s).log = s.log ∧ (queueNotice b s).scrub = s.scrub ∧
    (queueNotice b s).repair = s.repair ∧ (queueNotice b s).prep = s.prep ∧ (queueNotice b s).thermal = s.thermal ∧
    (queueNotice b s).watch = s.watch ∧ (queueNotice b s).dog = s.dog ∧ (queueNotice b s).trace = s.trace ∧
    (queueNotice b s).keypad = s.keypad ∧ (queueNotice b s).engine = s.engine ∧ (queueNotice b s).events = s.events ∧
    (queueNotice b s).posting = s.posting ∧ (queueNotice b s).headers = s.headers ∧
    (queueNotice b s).lastUser = s.lastUser ∧ (queueNotice b s).resetInput = s.resetInput ∧
    (queueNotice b s).requests = s.requests ∧ (queueNotice b s).holdReleases = s.holdReleases ∧
    (queueNotice b s).outcomes = s.outcomes ∧ (queueNotice b s).watchReports = s.watchReports ∧
    (queueNotice b s).snoopReports = s.snoopReports ∧ (queueNotice b s).freeCount = s.freeCount ∧
    (queueNotice b s).pending = s.pending := by
  unfold queueNotice; (try dsimp only); (repeat' split) <;> simp

/-- The lamp decided afresh (R101). -/
@[simp] theorem lampUpdate_frame (s : State) :
    (lampUpdate s).loader = s.loader ∧ (lampUpdate s).ctl = s.ctl ∧ (lampUpdate s).clock = s.clock ∧
    (lampUpdate s).restarts = s.restarts ∧ (lampUpdate s).front = s.front ∧
    (lampUpdate s).frontResponse = s.frontResponse ∧ (lampUpdate s).windows = s.windows ∧
    (lampUpdate s).port = s.port ∧ (lampUpdate s).arbiter = s.arbiter ∧ (lampUpdate s).mem = s.mem ∧
    (lampUpdate s).memEpoch = s.memEpoch ∧ (lampUpdate s).log = s.log ∧ (lampUpdate s).scrub = s.scrub ∧
    (lampUpdate s).repair = s.repair ∧ (lampUpdate s).prep = s.prep ∧ (lampUpdate s).thermal = s.thermal ∧
    (lampUpdate s).watch = s.watch ∧ (lampUpdate s).dog = s.dog ∧ (lampUpdate s).trace = s.trace ∧
    (lampUpdate s).keypad = s.keypad ∧ (lampUpdate s).engine = s.engine ∧ (lampUpdate s).events = s.events ∧
    (lampUpdate s).posting = s.posting ∧ (lampUpdate s).queue = s.queue ∧ (lampUpdate s).missed = s.missed ∧
    (lampUpdate s).headers = s.headers ∧ (lampUpdate s).lastUser = s.lastUser ∧
    (lampUpdate s).resetInput = s.resetInput ∧ (lampUpdate s).requests = s.requests ∧
    (lampUpdate s).holdReleases = s.holdReleases ∧ (lampUpdate s).outcomes = s.outcomes ∧
    (lampUpdate s).watchReports = s.watchReports ∧ (lampUpdate s).snoopReports = s.snoopReports ∧
    (lampUpdate s).freeCount = s.freeCount ∧ (lampUpdate s).pending = s.pending ∧
    (lampUpdate s).lamp.error = s.lamp.error := by
  unfold lampUpdate; (try dsimp only); (repeat' split) <;> simp

/-- The front port yields to a reservation (R5). -/
@[simp] theorem frontYield_frame (g : Nat) (s : State) :
    (frontYield g s).loader = s.loader ∧ (frontYield g s).ctl = s.ctl ∧ (frontYield g s).clock = s.clock ∧
    (frontYield g s).lamp = s.lamp ∧ (frontYield g s).restarts = s.restarts ∧
    (frontYield g s).frontResponse = s.frontResponse ∧ (frontYield g s).windows = s.windows ∧
    (frontYield g s).port = s.port ∧ (frontYield g s).mem = s.mem ∧ (frontYield g s).memEpoch = s.memEpoch ∧
    (frontYield g s).log = s.log ∧ (frontYield g s).scrub = s.scrub ∧ (frontYield g s).repair = s.repair ∧
    (frontYield g s).prep = s.prep ∧ (frontYield g s).thermal = s.thermal ∧ (frontYield g s).watch = s.watch ∧
    (frontYield g s).dog = s.dog ∧ (frontYield g s).trace = s.trace ∧ (frontYield g s).keypad = s.keypad ∧
    (frontYield g s).engine = s.engine ∧ (frontYield g s).events = s.events ∧ (frontYield g s).posting = s.posting ∧
    (frontYield g s).queue = s.queue ∧ (frontYield g s).missed = s.missed ∧ (frontYield g s).headers = s.headers ∧
    (frontYield g s).lastUser = s.lastUser ∧ (frontYield g s).resetInput = s.resetInput ∧
    (frontYield g s).requests = s.requests ∧ (frontYield g s).holdReleases = s.holdReleases ∧
    (frontYield g s).outcomes = s.outcomes ∧ (frontYield g s).watchReports = s.watchReports ∧
    (frontYield g s).snoopReports = s.snoopReports ∧ (frontYield g s).freeCount = s.freeCount ∧
    (frontYield g s).pending = s.pending := by
  unfold frontYield; (try dsimp only); (repeat' split) <;> simp

/-- The scrubber yields to a reservation (R47). -/
@[simp] theorem scrubYield_frame (g : Nat) (s : State) :
    (scrubYield g s).loader = s.loader ∧ (scrubYield g s).ctl = s.ctl ∧ (scrubYield g s).clock = s.clock ∧
    (scrubYield g s).lamp = s.lamp ∧ (scrubYield g s).restarts = s.restarts ∧ (scrubYield g s).front = s.front ∧
    (scrubYield g s).frontResponse = s.frontResponse ∧ (scrubYield g s).windows = s.windows ∧
    (scrubYield g s).port = s.port ∧ (scrubYield g s).mem = s.mem ∧ (scrubYield g s).memEpoch = s.memEpoch ∧
    (scrubYield g s).log = s.log ∧ (scrubYield g s).repair = s.repair ∧ (scrubYield g s).prep = s.prep ∧
    (scrubYield g s).thermal = s.thermal ∧ (scrubYield g s).watch = s.watch ∧ (scrubYield g s).dog = s.dog ∧
    (scrubYield g s).trace = s.trace ∧ (scrubYield g s).keypad = s.keypad ∧ (scrubYield g s).engine = s.engine ∧
    (scrubYield g s).events = s.events ∧ (scrubYield g s).posting = s.posting ∧ (scrubYield g s).queue = s.queue ∧
    (scrubYield g s).missed = s.missed ∧ (scrubYield g s).headers = s.headers ∧
    (scrubYield g s).lastUser = s.lastUser ∧ (scrubYield g s).resetInput = s.resetInput ∧
    (scrubYield g s).requests = s.requests ∧ (scrubYield g s).holdReleases = s.holdReleases ∧
    (scrubYield g s).outcomes = s.outcomes ∧ (scrubYield g s).watchReports = s.watchReports ∧
    (scrubYield g s).snoopReports = s.snoopReports ∧ (scrubYield g s).freeCount = s.freeCount ∧
    (scrubYield g s).pending = s.pending ∧ (scrubYield g s).scrub.fixList = s.scrub.fixList ∧
    (scrubYield g s).scrub.position = s.scrub.position ∧ (scrubYield g s).scrub.count = s.scrub.count ∧
    (scrubYield g s).scrub.timer = s.scrub.timer ∧ (scrubYield g s).scrub.inHand = s.scrub.inHand ∧
    (scrubYield g s).scrub.cold = s.scrub.cold ∧ (scrubYield g s).scrub.due = s.scrub.due := by
  unfold scrubYield; (try dsimp only); (repeat' split) <;> simp

/-- The preparation engine yields to a reservation (R107). -/
@[simp] theorem prepYield_frame (g : Nat) (s : State) :
    (prepYield g s).loader = s.loader ∧ (prepYield g s).ctl = s.ctl ∧ (prepYield g s).clock = s.clock ∧
    (prepYield g s).lamp = s.lamp ∧ (prepYield g s).restarts = s.restarts ∧ (prepYield g s).front = s.front ∧
    (prepYield g s).frontResponse = s.frontResponse ∧ (prepYield g s).windows = s.windows ∧
    (prepYield g s).port = s.port ∧ (prepYield g s).mem = s.mem ∧ (prepYield g s).memEpoch = s.memEpoch ∧
    (prepYield g s).log = s.log ∧ (prepYield g s).scrub = s.scrub ∧ (prepYield g s).repair = s.repair ∧
    (prepYield g s).thermal = s.thermal ∧ (prepYield g s).watch = s.watch ∧ (prepYield g s).dog = s.dog ∧
    (prepYield g s).trace = s.trace ∧ (prepYield g s).keypad = s.keypad ∧ (prepYield g s).events = s.events ∧
    (prepYield g s).posting = s.posting ∧ (prepYield g s).queue = s.queue ∧ (prepYield g s).missed = s.missed ∧
    (prepYield g s).headers = s.headers ∧ (prepYield g s).lastUser = s.lastUser ∧
    (prepYield g s).resetInput = s.resetInput ∧ (prepYield g s).requests = s.requests ∧
    (prepYield g s).holdReleases = s.holdReleases ∧ (prepYield g s).outcomes = s.outcomes ∧
    (prepYield g s).watchReports = s.watchReports ∧ (prepYield g s).snoopReports = s.snoopReports ∧
    (prepYield g s).freeCount = s.freeCount ∧ (prepYield g s).pending = s.pending ∧
    (prepYield g s).prep.activity = s.prep.activity ∧ (prepYield g s).prep.pass = s.prep.pass ∧
    (prepYield g s).prep.position = s.prep.position ∧ (prepYield g s).prep.step = s.prep.step ∧
    (prepYield g s).prep.corrected = s.prep.corrected ∧ (prepYield g s).prep.uncorrectable = s.prep.uncorrectable ∧
    (prepYield g s).prep.retry = s.prep.retry ∧ (prepYield g s).prep.range = s.prep.range ∧
    (prepYield g s).engine.submit = s.engine.submit ∧ (prepYield g s).engine.done = s.engine.done ∧
    (prepYield g s).engine.record = s.engine.record ∧ (prepYield g s).engine.work = s.engine.work ∧
    (prepYield g s).engine.faultPending = s.engine.faultPending := by
  unfold prepYield; (try dsimp only); (repeat' split) <;> simp

/-- The mailbox unit yields to a reservation (R179). -/
@[simp] theorem mailboxYield_frame (g : Nat) (s : State) :
    (mailboxYield g s).loader = s.loader ∧ (mailboxYield g s).ctl = s.ctl ∧ (mailboxYield g s).clock = s.clock ∧
    (mailboxYield g s).lamp = s.lamp ∧ (mailboxYield g s).restarts = s.restarts ∧ (mailboxYield g s).front = s.front ∧
    (mailboxYield g s).frontResponse = s.frontResponse ∧ (mailboxYield g s).windows = s.windows ∧
    (mailboxYield g s).port = s.port ∧ (mailboxYield g s).mem = s.mem ∧ (mailboxYield g s).memEpoch = s.memEpoch ∧
    (mailboxYield g s).log = s.log ∧ (mailboxYield g s).scrub = s.scrub ∧ (mailboxYield g s).repair = s.repair ∧
    (mailboxYield g s).prep = s.prep ∧ (mailboxYield g s).thermal = s.thermal ∧ (mailboxYield g s).watch = s.watch ∧
    (mailboxYield g s).dog = s.dog ∧ (mailboxYield g s).trace = s.trace ∧ (mailboxYield g s).keypad = s.keypad ∧
    (mailboxYield g s).events = s.events ∧ (mailboxYield g s).posting = s.posting ∧
    (mailboxYield g s).queue = s.queue ∧ (mailboxYield g s).missed = s.missed ∧
    (mailboxYield g s).headers = s.headers ∧ (mailboxYield g s).lastUser = s.lastUser ∧
    (mailboxYield g s).resetInput = s.resetInput ∧ (mailboxYield g s).requests = s.requests ∧
    (mailboxYield g s).holdReleases = s.holdReleases ∧ (mailboxYield g s).outcomes = s.outcomes ∧
    (mailboxYield g s).watchReports = s.watchReports ∧ (mailboxYield g s).snoopReports = s.snoopReports ∧
    (mailboxYield g s).freeCount = s.freeCount ∧ (mailboxYield g s).pending = s.pending ∧
    (mailboxYield g s).engine.submit = s.engine.submit ∧ (mailboxYield g s).engine.done = s.engine.done ∧
    (mailboxYield g s).engine.record = s.engine.record ∧ (mailboxYield g s).engine.work = s.engine.work ∧
    (mailboxYield g s).engine.faultPending = s.engine.faultPending := by
  unfold mailboxYield; (try dsimp only); (repeat' split) <;> simp

/-- What the setting of a reservation leaves as it was (R57). -/
@[simp] theorem setReservation_frame (g : Nat) (s : State) :
    (setReservation g s).loader = s.loader ∧ (setReservation g s).ctl = s.ctl ∧ (setReservation g s).clock = s.clock ∧
    (setReservation g s).lamp = s.lamp ∧ (setReservation g s).restarts = s.restarts ∧
    (setReservation g s).frontResponse = s.frontResponse ∧ (setReservation g s).windows = s.windows ∧
    (setReservation g s).port = s.port ∧ (setReservation g s).mem = s.mem ∧
    (setReservation g s).memEpoch = s.memEpoch ∧ (setReservation g s).log = s.log ∧
    (setReservation g s).thermal = s.thermal ∧ (setReservation g s).watch = s.watch ∧
    (setReservation g s).dog = s.dog ∧ (setReservation g s).trace = s.trace ∧ (setReservation g s).keypad = s.keypad ∧
    (setReservation g s).events = s.events ∧ (setReservation g s).posting = s.posting ∧
    (setReservation g s).queue = s.queue ∧ (setReservation g s).missed = s.missed ∧
    (setReservation g s).headers = s.headers ∧ (setReservation g s).lastUser = s.lastUser ∧
    (setReservation g s).resetInput = s.resetInput ∧ (setReservation g s).requests = s.requests ∧
    (setReservation g s).holdReleases = s.holdReleases ∧ (setReservation g s).outcomes = s.outcomes ∧
    (setReservation g s).watchReports = s.watchReports ∧ (setReservation g s).snoopReports = s.snoopReports ∧
    (setReservation g s).freeCount = s.freeCount ∧ (setReservation g s).pending = s.pending ∧
    (setReservation g s).repair.table = s.repair.table ∧ (setReservation g s).repair.spent = s.repair.spent ∧
    (setReservation g s).repair.requests = s.repair.requests ∧
    (setReservation g s).repair.completed = s.repair.completed ∧
    (setReservation g s).repair.reRepaired = s.repair.reRepaired ∧
    (setReservation g s).repair.refused = s.repair.refused ∧
    (setReservation g s).repair.declined = s.repair.declined ∧
    (setReservation g s).repair.dropped = s.repair.dropped ∧
    (setReservation g s).repair.abandoned = s.repair.abandoned ∧
    (setReservation g s).repair.migration = s.repair.migration ∧
    (setReservation g s).prep.activity = s.prep.activity ∧ (setReservation g s).prep.pass = s.prep.pass ∧
    (setReservation g s).prep.position = s.prep.position ∧ (setReservation g s).prep.step = s.prep.step ∧
    (setReservation g s).prep.corrected = s.prep.corrected ∧
    (setReservation g s).prep.uncorrectable = s.prep.uncorrectable ∧ (setReservation g s).prep.retry = s.prep.retry ∧
    (setReservation g s).prep.range = s.prep.range ∧ (setReservation g s).scrub.fixList = s.scrub.fixList ∧
    (setReservation g s).scrub.position = s.scrub.position ∧ (setReservation g s).scrub.count = s.scrub.count ∧
    (setReservation g s).scrub.timer = s.scrub.timer ∧ (setReservation g s).scrub.inHand = s.scrub.inHand ∧
    (setReservation g s).scrub.cold = s.scrub.cold ∧ (setReservation g s).scrub.due = s.scrub.due ∧
    (setReservation g s).engine.submit = s.engine.submit ∧ (setReservation g s).engine.done = s.engine.done ∧
    (setReservation g s).engine.record = s.engine.record ∧ (setReservation g s).engine.work = s.engine.work ∧
    (setReservation g s).engine.faultPending = s.engine.faultPending := by
  simp [setReservation]

end Sys2Proof.Machine
end

