-- ==== Sys2Proof/Laws/Blocks.lean ====
section
/-! SUPPORT. The operations of the front port, the scrubber, the preparation engine, the repair unit and the error log: what each leaves as it was. -/

namespace Sys2Proof.Machine

/-- A refusal (R2, R16). -/
@[simp] theorem refuseTxn_frame (t : FrontTxn) (reason : RefuseReason) (window : Option Nat) (s : State) :
    (refuseTxn t reason window s).loader = s.loader ∧ (refuseTxn t reason window s).ctl = s.ctl ∧
    (refuseTxn t reason window s).clock = s.clock ∧ (refuseTxn t reason window s).lamp = s.lamp ∧
    (refuseTxn t reason window s).restarts = s.restarts ∧ (refuseTxn t reason window s).windows = s.windows ∧
    (refuseTxn t reason window s).port = s.port ∧ (refuseTxn t reason window s).arbiter = s.arbiter ∧
    (refuseTxn t reason window s).mem = s.mem ∧ (refuseTxn t reason window s).memEpoch = s.memEpoch ∧
    (refuseTxn t reason window s).log = s.log ∧ (refuseTxn t reason window s).scrub = s.scrub ∧
    (refuseTxn t reason window s).repair = s.repair ∧ (refuseTxn t reason window s).prep = s.prep ∧
    (refuseTxn t reason window s).thermal = s.thermal ∧ (refuseTxn t reason window s).watch = s.watch ∧
    (refuseTxn t reason window s).dog = s.dog ∧ (refuseTxn t reason window s).trace = s.trace ∧
    (refuseTxn t reason window s).keypad = s.keypad ∧ (refuseTxn t reason window s).engine = s.engine ∧
    (refuseTxn t reason window s).events = s.events ∧ (refuseTxn t reason window s).posting = s.posting ∧
    (refuseTxn t reason window s).queue = s.queue ∧ (refuseTxn t reason window s).missed = s.missed ∧
    (refuseTxn t reason window s).headers = s.headers ∧ (refuseTxn t reason window s).lastUser = s.lastUser ∧
    (refuseTxn t reason window s).resetInput = s.resetInput ∧ (refuseTxn t reason window s).requests = s.requests ∧
    (refuseTxn t reason window s).holdReleases = s.holdReleases ∧
    (refuseTxn t reason window s).outcomes = s.outcomes ∧
    (refuseTxn t reason window s).snoopReports = s.snoopReports ∧
    (refuseTxn t reason window s).freeCount = s.freeCount ∧ (refuseTxn t reason window s).pending = s.pending := by
  unfold refuseTxn; (try dsimp only); (repeat' split) <;> simp

/-- The front port's request (R9). -/
@[simp] theorem frontRequest_frame (t : FrontTxn) (s : State) :
    (frontRequest t s).loader = s.loader ∧ (frontRequest t s).ctl = s.ctl ∧ (frontRequest t s).clock = s.clock ∧
    (frontRequest t s).lamp = s.lamp ∧ (frontRequest t s).restarts = s.restarts ∧
    (frontRequest t s).frontResponse = s.frontResponse ∧ (frontRequest t s).windows = s.windows ∧
    (frontRequest t s).port = s.port ∧ (frontRequest t s).mem = s.mem ∧ (frontRequest t s).memEpoch = s.memEpoch ∧
    (frontRequest t s).log = s.log ∧ (frontRequest t s).scrub = s.scrub ∧ (frontRequest t s).repair = s.repair ∧
    (frontRequest t s).prep = s.prep ∧ (frontRequest t s).thermal = s.thermal ∧ (frontRequest t s).watch = s.watch ∧
    (frontRequest t s).dog = s.dog ∧ (frontRequest t s).trace = s.trace ∧ (frontRequest t s).keypad = s.keypad ∧
    (frontRequest t s).engine = s.engine ∧ (frontRequest t s).events = s.events ∧
    (frontRequest t s).posting = s.posting ∧ (frontRequest t s).queue = s.queue ∧
    (frontRequest t s).missed = s.missed ∧ (frontRequest t s).headers = s.headers ∧
    (frontRequest t s).lastUser = s.lastUser ∧ (frontRequest t s).resetInput = s.resetInput ∧
    (frontRequest t s).requests = s.requests ∧ (frontRequest t s).holdReleases = s.holdReleases ∧
    (frontRequest t s).outcomes = s.outcomes ∧ (frontRequest t s).watchReports = s.watchReports ∧
    (frontRequest t s).snoopReports = s.snoopReports ∧ (frontRequest t s).freeCount = s.freeCount ∧
    (frontRequest t s).pending = s.pending := by
  simp [frontRequest]

/-- Steps 3 to 6 (R3). -/
@[simp] theorem frontClassify_frame (t : FrontTxn) (s : State) :
    (frontClassify t s).loader = s.loader ∧ (frontClassify t s).ctl = s.ctl ∧ (frontClassify t s).clock = s.clock ∧
    (frontClassify t s).lamp = s.lamp ∧ (frontClassify t s).restarts = s.restarts ∧
    (frontClassify t s).windows = s.windows ∧ (frontClassify t s).port = s.port ∧ (frontClassify t s).mem = s.mem ∧
    (frontClassify t s).memEpoch = s.memEpoch ∧ (frontClassify t s).log = s.log ∧
    (frontClassify t s).scrub = s.scrub ∧ (frontClassify t s).repair = s.repair ∧ (frontClassify t s).prep = s.prep ∧
    (frontClassify t s).thermal = s.thermal ∧ (frontClassify t s).watch = s.watch ∧ (frontClassify t s).dog = s.dog ∧
    (frontClassify t s).trace = s.trace ∧ (frontClassify t s).keypad = s.keypad ∧
    (frontClassify t s).engine = s.engine ∧ (frontClassify t s).events = s.events ∧
    (frontClassify t s).posting = s.posting ∧ (frontClassify t s).queue = s.queue ∧
    (frontClassify t s).missed = s.missed ∧ (frontClassify t s).headers = s.headers ∧
    (frontClassify t s).lastUser = s.lastUser ∧ (frontClassify t s).resetInput = s.resetInput ∧
    (frontClassify t s).holdReleases = s.holdReleases ∧ (frontClassify t s).outcomes = s.outcomes ∧
    (frontClassify t s).snoopReports = s.snoopReports ∧ (frontClassify t s).freeCount = s.freeCount ∧
    (frontClassify t s).pending = s.pending := by
  unfold frontClassify; (try dsimp only); (repeat' split) <;> simp

/-- A release at the front port (R5). -/
@[simp] theorem frontRelease_frame (g : Nat) (s : State) :
    (frontRelease g s).loader = s.loader ∧ (frontRelease g s).ctl = s.ctl ∧ (frontRelease g s).clock = s.clock ∧
    (frontRelease g s).lamp = s.lamp ∧ (frontRelease g s).restarts = s.restarts ∧
    (frontRelease g s).windows = s.windows ∧ (frontRelease g s).port = s.port ∧ (frontRelease g s).mem = s.mem ∧
    (frontRelease g s).memEpoch = s.memEpoch ∧ (frontRelease g s).log = s.log ∧ (frontRelease g s).scrub = s.scrub ∧
    (frontRelease g s).repair = s.repair ∧ (frontRelease g s).prep = s.prep ∧ (frontRelease g s).thermal = s.thermal ∧
    (frontRelease g s).watch = s.watch ∧ (frontRelease g s).dog = s.dog ∧ (frontRelease g s).trace = s.trace ∧
    (frontRelease g s).keypad = s.keypad ∧ (frontRelease g s).engine = s.engine ∧
    (frontRelease g s).events = s.events ∧ (frontRelease g s).posting = s.posting ∧
    (frontRelease g s).queue = s.queue ∧ (frontRelease g s).missed = s.missed ∧
    (frontRelease g s).headers = s.headers ∧ (frontRelease g s).lastUser = s.lastUser ∧
    (frontRelease g s).resetInput = s.resetInput ∧ (frontRelease g s).holdReleases = s.holdReleases ∧
    (frontRelease g s).outcomes = s.outcomes ∧ (frontRelease g s).snoopReports = s.snoopReports ∧
    (frontRelease g s).freeCount = s.freeCount ∧ (frontRelease g s).pending = s.pending := by
  unfold frontRelease; (try dsimp only); (repeat' split) <;> simp

/-- The scrubber serves a piece of work (R47, R51). -/
@[simp] theorem scrubServe_frame (w : ScrubWork) (s : State) :
    (scrubServe w s).loader = s.loader ∧ (scrubServe w s).ctl = s.ctl ∧ (scrubServe w s).clock = s.clock ∧
    (scrubServe w s).lamp = s.lamp ∧ (scrubServe w s).restarts = s.restarts ∧ (scrubServe w s).front = s.front ∧
    (scrubServe w s).frontResponse = s.frontResponse ∧ (scrubServe w s).windows = s.windows ∧
    (scrubServe w s).port = s.port ∧ (scrubServe w s).mem = s.mem ∧ (scrubServe w s).memEpoch = s.memEpoch ∧
    (scrubServe w s).log = s.log ∧ (scrubServe w s).repair = s.repair ∧ (scrubServe w s).prep = s.prep ∧
    (scrubServe w s).thermal = s.thermal ∧ (scrubServe w s).watch = s.watch ∧ (scrubServe w s).dog = s.dog ∧
    (scrubServe w s).trace = s.trace ∧ (scrubServe w s).keypad = s.keypad ∧ (scrubServe w s).engine = s.engine ∧
    (scrubServe w s).events = s.events ∧ (scrubServe w s).posting = s.posting ∧ (scrubServe w s).queue = s.queue ∧
    (scrubServe w s).missed = s.missed ∧ (scrubServe w s).headers = s.headers ∧
    (scrubServe w s).lastUser = s.lastUser ∧ (scrubServe w s).resetInput = s.resetInput ∧
    (scrubServe w s).requests = s.requests ∧ (scrubServe w s).holdReleases = s.holdReleases ∧
    (scrubServe w s).outcomes = s.outcomes ∧ (scrubServe w s).watchReports = s.watchReports ∧
    (scrubServe w s).snoopReports = s.snoopReports ∧ (scrubServe w s).freeCount = s.freeCount ∧
    (scrubServe w s).pending = s.pending ∧ (scrubServe w s).scrub.fixList = s.scrub.fixList ∧
    (scrubServe w s).scrub.position = s.scrub.position ∧ (scrubServe w s).scrub.count = s.scrub.count ∧
    (scrubServe w s).scrub.due = s.scrub.due ∧ (scrubServe w s).scrub.timer = s.scrub.timer ∧
    (scrubServe w s).scrub.cold = s.scrub.cold := by
  unfold scrubServe; (try dsimp only); (repeat' split) <;> simp

/-- The scrubber's choice of work (R47). -/
@[simp] theorem chooseWork_frame (s : State) :
    (chooseWork s).loader = s.loader ∧ (chooseWork s).ctl = s.ctl ∧ (chooseWork s).clock = s.clock ∧
    (chooseWork s).lamp = s.lamp ∧ (chooseWork s).restarts = s.restarts ∧ (chooseWork s).front = s.front ∧
    (chooseWork s).frontResponse = s.frontResponse ∧ (chooseWork s).windows = s.windows ∧
    (chooseWork s).port = s.port ∧ (chooseWork s).mem = s.mem ∧ (chooseWork s).memEpoch = s.memEpoch ∧
    (chooseWork s).log = s.log ∧ (chooseWork s).repair = s.repair ∧ (chooseWork s).prep = s.prep ∧
    (chooseWork s).thermal = s.thermal ∧ (chooseWork s).watch = s.watch ∧ (chooseWork s).dog = s.dog ∧
    (chooseWork s).trace = s.trace ∧ (chooseWork s).keypad = s.keypad ∧ (chooseWork s).engine = s.engine ∧
    (chooseWork s).events = s.events ∧ (chooseWork s).posting = s.posting ∧ (chooseWork s).queue = s.queue ∧
    (chooseWork s).missed = s.missed ∧ (chooseWork s).headers = s.headers ∧ (chooseWork s).lastUser = s.lastUser ∧
    (chooseWork s).resetInput = s.resetInput ∧ (chooseWork s).requests = s.requests ∧
    (chooseWork s).holdReleases = s.holdReleases ∧ (chooseWork s).outcomes = s.outcomes ∧
    (chooseWork s).watchReports = s.watchReports ∧ (chooseWork s).snoopReports = s.snoopReports ∧
    (chooseWork s).freeCount = s.freeCount ∧ (chooseWork s).pending = s.pending ∧
    (chooseWork s).scrub.position = s.scrub.position ∧ (chooseWork s).scrub.count = s.scrub.count ∧
    (chooseWork s).scrub.due = s.scrub.due ∧ (chooseWork s).scrub.timer = s.scrub.timer ∧
    (chooseWork s).scrub.cold = s.scrub.cold := by
  unfold chooseWork; (try dsimp only); (repeat' split) <;> simp

/-- The end of the scrubber's work (R48, R52). -/
@[simp] theorem endWork_frame (s : State) :
    (endWork s).loader = s.loader ∧ (endWork s).ctl = s.ctl ∧ (endWork s).clock = s.clock ∧
    (endWork s).lamp = s.lamp ∧ (endWork s).restarts = s.restarts ∧ (endWork s).front = s.front ∧
    (endWork s).frontResponse = s.frontResponse ∧ (endWork s).windows = s.windows ∧ (endWork s).port = s.port ∧
    (endWork s).mem = s.mem ∧ (endWork s).memEpoch = s.memEpoch ∧ (endWork s).log = s.log ∧
    (endWork s).repair = s.repair ∧ (endWork s).prep = s.prep ∧ (endWork s).thermal = s.thermal ∧
    (endWork s).watch = s.watch ∧ (endWork s).dog = s.dog ∧ (endWork s).trace = s.trace ∧
    (endWork s).keypad = s.keypad ∧ (endWork s).engine = s.engine ∧ (endWork s).events = s.events ∧
    (endWork s).posting = s.posting ∧ (endWork s).queue = s.queue ∧ (endWork s).missed = s.missed ∧
    (endWork s).headers = s.headers ∧ (endWork s).lastUser = s.lastUser ∧ (endWork s).resetInput = s.resetInput ∧
    (endWork s).requests = s.requests ∧ (endWork s).holdReleases = s.holdReleases ∧
    (endWork s).outcomes = s.outcomes ∧ (endWork s).watchReports = s.watchReports ∧
    (endWork s).snoopReports = s.snoopReports ∧ (endWork s).freeCount = s.freeCount ∧
    (endWork s).pending = s.pending ∧ (endWork s).scrub.position = s.scrub.position ∧
    (endWork s).scrub.count = s.scrub.count ∧ (endWork s).scrub.due = s.scrub.due ∧
    (endWork s).scrub.timer = s.scrub.timer ∧ (endWork s).scrub.cold = s.scrub.cold := by
  unfold endWork; (try dsimp only); (repeat' split) <;> simp

/-- A fix request (R46). -/
@[simp] theorem offerFix_frame (offset : Nat) (loc : Location) (s : State) :
    (offerFix offset loc s).loader = s.loader ∧ (offerFix offset loc s).ctl = s.ctl ∧
    (offerFix offset loc s).clock = s.clock ∧ (offerFix offset loc s).lamp = s.lamp ∧
    (offerFix offset loc s).restarts = s.restarts ∧ (offerFix offset loc s).front = s.front ∧
    (offerFix offset loc s).frontResponse = s.frontResponse ∧ (offerFix offset loc s).windows = s.windows ∧
    (offerFix offset loc s).port = s.port ∧ (offerFix offset loc s).mem = s.mem ∧
    (offerFix offset loc s).memEpoch = s.memEpoch ∧ (offerFix offset loc s).log = s.log ∧
    (offerFix offset loc s).repair = s.repair ∧ (offerFix offset loc s).prep = s.prep ∧
    (offerFix offset loc s).thermal = s.thermal ∧ (offerFix offset loc s).watch = s.watch ∧
    (offerFix offset loc s).dog = s.dog ∧ (offerFix offset loc s).trace = s.trace ∧
    (offerFix offset loc s).keypad = s.keypad ∧ (offerFix offset loc s).engine = s.engine ∧
    (offerFix offset loc s).events = s.events ∧ (offerFix offset loc s).posting = s.posting ∧
    (offerFix offset loc s).queue = s.queue ∧ (offerFix offset loc s).missed = s.missed ∧
    (offerFix offset loc s).headers = s.headers ∧ (offerFix offset loc s).lastUser = s.lastUser ∧
    (offerFix offset loc s).resetInput = s.resetInput ∧ (offerFix offset loc s).requests = s.requests ∧
    (offerFix offset loc s).holdReleases = s.holdReleases ∧ (offerFix offset loc s).outcomes = s.outcomes ∧
    (offerFix offset loc s).watchReports = s.watchReports ∧ (offerFix offset loc s).snoopReports = s.snoopReports ∧
    (offerFix offset loc s).freeCount = s.freeCount ∧ (offerFix offset loc s).pending = s.pending ∧
    (offerFix offset loc s).scrub.position = s.scrub.position ∧ (offerFix offset loc s).scrub.count = s.scrub.count ∧
    (offerFix offset loc s).scrub.due = s.scrub.due ∧ (offerFix offset loc s).scrub.timer = s.scrub.timer ∧
    (offerFix offset loc s).scrub.cold = s.scrub.cold := by
  unfold offerFix; (try dsimp only); (repeat' split) <;> simp

/-- Fix requests of one access (R46). -/
@[simp] theorem offerFixes_frame (es : List FixEntry) (s : State) :
    (offerFixes es s).loader = s.loader ∧ (offerFixes es s).ctl = s.ctl ∧ (offerFixes es s).clock = s.clock ∧
    (offerFixes es s).lamp = s.lamp ∧ (offerFixes es s).restarts = s.restarts ∧ (offerFixes es s).front = s.front ∧
    (offerFixes es s).frontResponse = s.frontResponse ∧ (offerFixes es s).windows = s.windows ∧
    (offerFixes es s).port = s.port ∧ (offerFixes es s).mem = s.mem ∧ (offerFixes es s).memEpoch = s.memEpoch ∧
    (offerFixes es s).log = s.log ∧ (offerFixes es s).repair = s.repair ∧ (offerFixes es s).prep = s.prep ∧
    (offerFixes es s).thermal = s.thermal ∧ (offerFixes es s).watch = s.watch ∧ (offerFixes es s).dog = s.dog ∧
    (offerFixes es s).trace = s.trace ∧ (offerFixes es s).keypad = s.keypad ∧ (offerFixes es s).engine = s.engine ∧
    (offerFixes es s).events = s.events ∧ (offerFixes es s).posting = s.posting ∧ (offerFixes es s).queue = s.queue ∧
    (offerFixes es s).missed = s.missed ∧ (offerFixes es s).headers = s.headers ∧
    (offerFixes es s).lastUser = s.lastUser ∧ (offerFixes es s).resetInput = s.resetInput ∧
    (offerFixes es s).requests = s.requests ∧ (offerFixes es s).holdReleases = s.holdReleases ∧
    (offerFixes es s).outcomes = s.outcomes ∧ (offerFixes es s).watchReports = s.watchReports ∧
    (offerFixes es s).snoopReports = s.snoopReports ∧ (offerFixes es s).freeCount = s.freeCount ∧
    (offerFixes es s).pending = s.pending ∧ (offerFixes es s).scrub.position = s.scrub.position ∧
    (offerFixes es s).scrub.count = s.scrub.count ∧ (offerFixes es s).scrub.due = s.scrub.due ∧
    (offerFixes es s).scrub.timer = s.scrub.timer ∧ (offerFixes es s).scrub.cold = s.scrub.cold := by
  unfold offerFixes; induction es generalizing s with
  | nil => simp
  | cons e es ih => simp only [List.foldl_cons]; have h := ih (offerFix e.offset e.loc s); simp [h]

/-- A release at the scrubber (R47). -/
@[simp] theorem scrubRelease_frame (g : Nat) (s : State) :
    (scrubRelease g s).loader = s.loader ∧ (scrubRelease g s).ctl = s.ctl ∧ (scrubRelease g s).clock = s.clock ∧
    (scrubRelease g s).lamp = s.lamp ∧ (scrubRelease g s).restarts = s.restarts ∧ (scrubRelease g s).front = s.front ∧
    (scrubRelease g s).frontResponse = s.frontResponse ∧ (scrubRelease g s).windows = s.windows ∧
    (scrubRelease g s).port = s.port ∧ (scrubRelease g s).mem = s.mem ∧ (scrubRelease g s).memEpoch = s.memEpoch ∧
    (scrubRelease g s).log = s.log ∧ (scrubRelease g s).repair = s.repair ∧ (scrubRelease g s).prep = s.prep ∧
    (scrubRelease g s).thermal = s.thermal ∧ (scrubRelease g s).watch = s.watch ∧ (scrubRelease g s).dog = s.dog ∧
    (scrubRelease g s).trace = s.trace ∧ (scrubRelease g s).keypad = s.keypad ∧ (scrubRelease g s).engine = s.engine ∧
    (scrubRelease g s).events = s.events ∧ (scrubRelease g s).posting = s.posting ∧
    (scrubRelease g s).queue = s.queue ∧ (scrubRelease g s).missed = s.missed ∧
    (scrubRelease g s).headers = s.headers ∧ (scrubRelease g s).lastUser = s.lastUser ∧
    (scrubRelease g s).resetInput = s.resetInput ∧ (scrubRelease g s).requests = s.requests ∧
    (scrubRelease g s).holdReleases = s.holdReleases ∧ (scrubRelease g s).outcomes = s.outcomes ∧
    (scrubRelease g s).watchReports = s.watchReports ∧ (scrubRelease g s).snoopReports = s.snoopReports ∧
    (scrubRelease g s).freeCount = s.freeCount ∧ (scrubRelease g s).pending = s.pending ∧
    (scrubRelease g s).scrub.fixList = s.scrub.fixList ∧ (scrubRelease g s).scrub.position = s.scrub.position ∧
    (scrubRelease g s).scrub.count = s.scrub.count ∧ (scrubRelease g s).scrub.due = s.scrub.due ∧
    (scrubRelease g s).scrub.timer = s.scrub.timer ∧ (scrubRelease g s).scrub.cold = s.scrub.cold := by
  unfold scrubRelease; (try dsimp only); (repeat' split) <;> simp

/-- The news of a regime at the scrubber (R44). -/
@[simp] theorem scrubNews_frame (s : State) :
    (scrubNews s).loader = s.loader ∧ (scrubNews s).ctl = s.ctl ∧ (scrubNews s).clock = s.clock ∧
    (scrubNews s).lamp = s.lamp ∧ (scrubNews s).restarts = s.restarts ∧ (scrubNews s).front = s.front ∧
    (scrubNews s).frontResponse = s.frontResponse ∧ (scrubNews s).windows = s.windows ∧ (scrubNews s).port = s.port ∧
    (scrubNews s).mem = s.mem ∧ (scrubNews s).memEpoch = s.memEpoch ∧ (scrubNews s).log = s.log ∧
    (scrubNews s).repair = s.repair ∧ (scrubNews s).prep = s.prep ∧ (scrubNews s).thermal = s.thermal ∧
    (scrubNews s).watch = s.watch ∧ (scrubNews s).dog = s.dog ∧ (scrubNews s).trace = s.trace ∧
    (scrubNews s).keypad = s.keypad ∧ (scrubNews s).engine = s.engine ∧ (scrubNews s).events = s.events ∧
    (scrubNews s).posting = s.posting ∧ (scrubNews s).queue = s.queue ∧ (scrubNews s).missed = s.missed ∧
    (scrubNews s).headers = s.headers ∧ (scrubNews s).lastUser = s.lastUser ∧
    (scrubNews s).resetInput = s.resetInput ∧ (scrubNews s).requests = s.requests ∧
    (scrubNews s).holdReleases = s.holdReleases ∧ (scrubNews s).outcomes = s.outcomes ∧
    (scrubNews s).watchReports = s.watchReports ∧ (scrubNews s).snoopReports = s.snoopReports ∧
    (scrubNews s).freeCount = s.freeCount ∧ (scrubNews s).pending = s.pending ∧
    (scrubNews s).scrub.position = s.scrub.position ∧ (scrubNews s).scrub.count = s.scrub.count ∧
    (scrubNews s).scrub.cold = s.scrub.cold := by
  unfold scrubNews; (try dsimp only); (repeat' split) <;> simp

/-- Board power off at the scrubber (R45). -/
@[simp] theorem scrubPowerOff_frame (s : State) :
    (scrubPowerOff s).loader = s.loader ∧ (scrubPowerOff s).ctl = s.ctl ∧ (scrubPowerOff s).clock = s.clock ∧
    (scrubPowerOff s).lamp = s.lamp ∧ (scrubPowerOff s).restarts = s.restarts ∧ (scrubPowerOff s).front = s.front ∧
    (scrubPowerOff s).frontResponse = s.frontResponse ∧ (scrubPowerOff s).windows = s.windows ∧
    (scrubPowerOff s).port = s.port ∧ (scrubPowerOff s).mem = s.mem ∧ (scrubPowerOff s).memEpoch = s.memEpoch ∧
    (scrubPowerOff s).log = s.log ∧ (scrubPowerOff s).repair = s.repair ∧ (scrubPowerOff s).prep = s.prep ∧
    (scrubPowerOff s).thermal = s.thermal ∧ (scrubPowerOff s).watch = s.watch ∧ (scrubPowerOff s).dog = s.dog ∧
    (scrubPowerOff s).trace = s.trace ∧ (scrubPowerOff s).keypad = s.keypad ∧ (scrubPowerOff s).engine = s.engine ∧
    (scrubPowerOff s).events = s.events ∧ (scrubPowerOff s).posting = s.posting ∧ (scrubPowerOff s).queue = s.queue ∧
    (scrubPowerOff s).missed = s.missed ∧ (scrubPowerOff s).headers = s.headers ∧
    (scrubPowerOff s).lastUser = s.lastUser ∧ (scrubPowerOff s).resetInput = s.resetInput ∧
    (scrubPowerOff s).requests = s.requests ∧ (scrubPowerOff s).holdReleases = s.holdReleases ∧
    (scrubPowerOff s).outcomes = s.outcomes ∧ (scrubPowerOff s).watchReports = s.watchReports ∧
    (scrubPowerOff s).snoopReports = s.snoopReports ∧ (scrubPowerOff s).freeCount = s.freeCount ∧
    (scrubPowerOff s).pending = s.pending ∧ (scrubPowerOff s).scrub.count = s.scrub.count ∧
    (scrubPowerOff s).scrub.cold = s.scrub.cold := by
  simp [scrubPowerOff]

/-- The step in hand is handled (R106). -/
@[simp] theorem prepHandle_frame (s : State) :
    (prepHandle s).loader = s.loader ∧ (prepHandle s).ctl = s.ctl ∧ (prepHandle s).clock = s.clock ∧
    (prepHandle s).lamp = s.lamp ∧ (prepHandle s).restarts = s.restarts ∧ (prepHandle s).front = s.front ∧
    (prepHandle s).frontResponse = s.frontResponse ∧ (prepHandle s).windows = s.windows ∧
    (prepHandle s).port = s.port ∧ (prepHandle s).mem = s.mem ∧ (prepHandle s).memEpoch = s.memEpoch ∧
    (prepHandle s).log = s.log ∧ (prepHandle s).scrub = s.scrub ∧ (prepHandle s).repair = s.repair ∧
    (prepHandle s).thermal = s.thermal ∧ (prepHandle s).watch = s.watch ∧ (prepHandle s).dog = s.dog ∧
    (prepHandle s).trace = s.trace ∧ (prepHandle s).keypad = s.keypad ∧ (prepHandle s).events = s.events ∧
    (prepHandle s).posting = s.posting ∧ (prepHandle s).queue = s.queue ∧ (prepHandle s).missed = s.missed ∧
    (prepHandle s).headers = s.headers ∧ (prepHandle s).lastUser = s.lastUser ∧
    (prepHandle s).resetInput = s.resetInput ∧ (prepHandle s).requests = s.requests ∧
    (prepHandle s).holdReleases = s.holdReleases ∧ (prepHandle s).outcomes = s.outcomes ∧
    (prepHandle s).watchReports = s.watchReports ∧ (prepHandle s).snoopReports = s.snoopReports ∧
    (prepHandle s).freeCount = s.freeCount ∧ (prepHandle s).pending = s.pending ∧
    (prepHandle s).prep.activity = s.prep.activity ∧ (prepHandle s).prep.pass = s.prep.pass ∧
    (prepHandle s).prep.position = s.prep.position ∧ (prepHandle s).prep.step = s.prep.step ∧
    (prepHandle s).prep.corrected = s.prep.corrected ∧ (prepHandle s).prep.uncorrectable = s.prep.uncorrectable ∧
    (prepHandle s).prep.retry = s.prep.retry ∧ (prepHandle s).prep.range = s.prep.range ∧
    (prepHandle s).engine.submit = s.engine.submit ∧ (prepHandle s).engine.done = s.engine.done ∧
    (prepHandle s).engine.record = s.engine.record ∧ (prepHandle s).engine.work = s.engine.work ∧
    (prepHandle s).engine.faultPending = s.engine.faultPending := by
  unfold prepHandle; (try dsimp only); (repeat' split) <;> simp

/-- A pass begins (R105). -/
@[simp] theorem beginPass_frame (p : Nat) (s : State) :
    (beginPass p s).loader = s.loader ∧ (beginPass p s).ctl = s.ctl ∧ (beginPass p s).clock = s.clock ∧
    (beginPass p s).lamp = s.lamp ∧ (beginPass p s).restarts = s.restarts ∧ (beginPass p s).front = s.front ∧
    (beginPass p s).frontResponse = s.frontResponse ∧ (beginPass p s).windows = s.windows ∧
    (beginPass p s).port = s.port ∧ (beginPass p s).mem = s.mem ∧ (beginPass p s).memEpoch = s.memEpoch ∧
    (beginPass p s).log = s.log ∧ (beginPass p s).scrub = s.scrub ∧ (beginPass p s).repair = s.repair ∧
    (beginPass p s).thermal = s.thermal ∧ (beginPass p s).watch = s.watch ∧ (beginPass p s).dog = s.dog ∧
    (beginPass p s).trace = s.trace ∧ (beginPass p s).keypad = s.keypad ∧ (beginPass p s).events = s.events ∧
    (beginPass p s).posting = s.posting ∧ (beginPass p s).queue = s.queue ∧ (beginPass p s).missed = s.missed ∧
    (beginPass p s).headers = s.headers ∧ (beginPass p s).lastUser = s.lastUser ∧
    (beginPass p s).resetInput = s.resetInput ∧ (beginPass p s).requests = s.requests ∧
    (beginPass p s).holdReleases = s.holdReleases ∧ (beginPass p s).outcomes = s.outcomes ∧
    (beginPass p s).watchReports = s.watchReports ∧ (beginPass p s).snoopReports = s.snoopReports ∧
    (beginPass p s).freeCount = s.freeCount ∧ (beginPass p s).pending = s.pending ∧
    (beginPass p s).engine.submit = s.engine.submit ∧ (beginPass p s).engine.done = s.engine.done ∧
    (beginPass p s).engine.record = s.engine.record ∧ (beginPass p s).engine.work = s.engine.work ∧
    (beginPass p s).engine.faultPending = s.engine.faultPending := by
  simp [beginPass]

/-- A release at the preparation engine (R107). -/
@[simp] theorem prepRelease_frame (g : Nat) (s : State) :
    (prepRelease g s).loader = s.loader ∧ (prepRelease g s).ctl = s.ctl ∧ (prepRelease g s).clock = s.clock ∧
    (prepRelease g s).lamp = s.lamp ∧ (prepRelease g s).restarts = s.restarts ∧ (prepRelease g s).front = s.front ∧
    (prepRelease g s).frontResponse = s.frontResponse ∧ (prepRelease g s).windows = s.windows ∧
    (prepRelease g s).port = s.port ∧ (prepRelease g s).mem = s.mem ∧ (prepRelease g s).memEpoch = s.memEpoch ∧
    (prepRelease g s).log = s.log ∧ (prepRelease g s).scrub = s.scrub ∧ (prepRelease g s).repair = s.repair ∧
    (prepRelease g s).thermal = s.thermal ∧ (prepRelease g s).watch = s.watch ∧ (prepRelease g s).dog = s.dog ∧
    (prepRelease g s).trace = s.trace ∧ (prepRelease g s).keypad = s.keypad ∧ (prepRelease g s).events = s.events ∧
    (prepRelease g s).posting = s.posting ∧ (prepRelease g s).queue = s.queue ∧ (prepRelease g s).missed = s.missed ∧
    (prepRelease g s).headers = s.headers ∧ (prepRelease g s).lastUser = s.lastUser ∧
    (prepRelease g s).resetInput = s.resetInput ∧ (prepRelease g s).requests = s.requests ∧
    (prepRelease g s).holdReleases = s.holdReleases ∧ (prepRelease g s).outcomes = s.outcomes ∧
    (prepRelease g s).watchReports = s.watchReports ∧ (prepRelease g s).snoopReports = s.snoopReports ∧
    (prepRelease g s).freeCount = s.freeCount ∧ (prepRelease g s).pending = s.pending ∧
    (prepRelease g s).prep.activity = s.prep.activity ∧ (prepRelease g s).prep.pass = s.prep.pass ∧
    (prepRelease g s).prep.position = s.prep.position ∧ (prepRelease g s).prep.step = s.prep.step ∧
    (prepRelease g s).prep.corrected = s.prep.corrected ∧
    (prepRelease g s).prep.uncorrectable = s.prep.uncorrectable ∧ (prepRelease g s).prep.retry = s.prep.retry ∧
    (prepRelease g s).prep.range = s.prep.range ∧ (prepRelease g s).engine.submit = s.engine.submit ∧
    (prepRelease g s).engine.done = s.engine.done ∧ (prepRelease g s).engine.record = s.engine.record ∧
    (prepRelease g s).engine.work = s.engine.work ∧ (prepRelease g s).engine.faultPending = s.engine.faultPending := by
  unfold prepRelease; (try dsimp only); (repeat' split) <;> simp

/-- The preparation engine becomes IDLE (R112, R116). -/
@[simp] theorem prepAbandon_frame (s : State) :
    (prepAbandon s).loader = s.loader ∧ (prepAbandon s).ctl = s.ctl ∧ (prepAbandon s).clock = s.clock ∧
    (prepAbandon s).lamp = s.lamp ∧ (prepAbandon s).restarts = s.restarts ∧ (prepAbandon s).front = s.front ∧
    (prepAbandon s).frontResponse = s.frontResponse ∧ (prepAbandon s).windows = s.windows ∧
    (prepAbandon s).port = s.port ∧ (prepAbandon s).mem = s.mem ∧ (prepAbandon s).memEpoch = s.memEpoch ∧
    (prepAbandon s).log = s.log ∧ (prepAbandon s).scrub = s.scrub ∧ (prepAbandon s).repair = s.repair ∧
    (prepAbandon s).thermal = s.thermal ∧ (prepAbandon s).watch = s.watch ∧ (prepAbandon s).dog = s.dog ∧
    (prepAbandon s).trace = s.trace ∧ (prepAbandon s).keypad = s.keypad ∧ (prepAbandon s).engine = s.engine ∧
    (prepAbandon s).events = s.events ∧ (prepAbandon s).posting = s.posting ∧ (prepAbandon s).queue = s.queue ∧
    (prepAbandon s).missed = s.missed ∧ (prepAbandon s).headers = s.headers ∧ (prepAbandon s).lastUser = s.lastUser ∧
    (prepAbandon s).resetInput = s.resetInput ∧ (prepAbandon s).requests = s.requests ∧
    (prepAbandon s).holdReleases = s.holdReleases ∧ (prepAbandon s).outcomes = s.outcomes ∧
    (prepAbandon s).watchReports = s.watchReports ∧ (prepAbandon s).snoopReports = s.snoopReports ∧
    (prepAbandon s).freeCount = s.freeCount ∧ (prepAbandon s).pending = s.pending := by
  simp [prepAbandon]

/-- An outcome's report (R66, R69). -/
@[simp] theorem reportOutcome_frame (n : RepairNotice) (s : State) :
    (reportOutcome n s).loader = s.loader ∧ (reportOutcome n s).ctl = s.ctl ∧ (reportOutcome n s).clock = s.clock ∧
    (reportOutcome n s).lamp = s.lamp ∧ (reportOutcome n s).restarts = s.restarts ∧
    (reportOutcome n s).front = s.front ∧ (reportOutcome n s).frontResponse = s.frontResponse ∧
    (reportOutcome n s).windows = s.windows ∧ (reportOutcome n s).port = s.port ∧
    (reportOutcome n s).arbiter = s.arbiter ∧ (reportOutcome n s).mem = s.mem ∧
    (reportOutcome n s).memEpoch = s.memEpoch ∧ (reportOutcome n s).log = s.log ∧
    (reportOutcome n s).scrub = s.scrub ∧ (reportOutcome n s).repair = s.repair ∧ (reportOutcome n s).prep = s.prep ∧
    (reportOutcome n s).thermal = s.thermal ∧ (reportOutcome n s).watch = s.watch ∧ (reportOutcome n s).dog = s.dog ∧
    (reportOutcome n s).trace = s.trace ∧ (reportOutcome n s).keypad = s.keypad ∧
    (reportOutcome n s).events = s.events ∧ (reportOutcome n s).posting = s.posting ∧
    (reportOutcome n s).headers = s.headers ∧ (reportOutcome n s).lastUser = s.lastUser ∧
    (reportOutcome n s).resetInput = s.resetInput ∧ (reportOutcome n s).requests = s.requests ∧
    (reportOutcome n s).holdReleases = s.holdReleases ∧ (reportOutcome n s).outcomes = s.outcomes ∧
    (reportOutcome n s).watchReports = s.watchReports ∧ (reportOutcome n s).snoopReports = s.snoopReports ∧
    (reportOutcome n s).pending = s.pending ∧ (reportOutcome n s).engine.submit = s.engine.submit ∧
    (reportOutcome n s).engine.done = s.engine.done ∧ (reportOutcome n s).engine.record = s.engine.record ∧
    (reportOutcome n s).engine.faultPending = s.engine.faultPending := by
  unfold reportOutcome; (try dsimp only); (repeat' split) <;> simp

/-- A request offered again (R68). -/
@[simp] theorem reoffer_frame (s : State) :
    (reoffer s).loader = s.loader ∧ (reoffer s).ctl = s.ctl ∧ (reoffer s).clock = s.clock ∧
    (reoffer s).lamp = s.lamp ∧ (reoffer s).restarts = s.restarts ∧ (reoffer s).front = s.front ∧
    (reoffer s).frontResponse = s.frontResponse ∧ (reoffer s).windows = s.windows ∧ (reoffer s).port = s.port ∧
    (reoffer s).arbiter = s.arbiter ∧ (reoffer s).mem = s.mem ∧ (reoffer s).memEpoch = s.memEpoch ∧
    (reoffer s).log = s.log ∧ (reoffer s).scrub = s.scrub ∧ (reoffer s).prep = s.prep ∧
    (reoffer s).thermal = s.thermal ∧ (reoffer s).watch = s.watch ∧ (reoffer s).dog = s.dog ∧
    (reoffer s).trace = s.trace ∧ (reoffer s).keypad = s.keypad ∧ (reoffer s).events = s.events ∧
    (reoffer s).posting = s.posting ∧ (reoffer s).queue = s.queue ∧ (reoffer s).missed = s.missed ∧
    (reoffer s).headers = s.headers ∧ (reoffer s).lastUser = s.lastUser ∧ (reoffer s).resetInput = s.resetInput ∧
    (reoffer s).requests = s.requests ∧ (reoffer s).holdReleases = s.holdReleases ∧
    (reoffer s).outcomes = s.outcomes ∧ (reoffer s).watchReports = s.watchReports ∧
    (reoffer s).snoopReports = s.snoopReports ∧ (reoffer s).freeCount = s.freeCount ∧
    (reoffer s).pending = s.pending ∧ (reoffer s).repair.table = s.repair.table ∧
    (reoffer s).repair.spent = s.repair.spent ∧ (reoffer s).repair.reservation = s.repair.reservation ∧
    (reoffer s).repair.completed = s.repair.completed ∧ (reoffer s).repair.reRepaired = s.repair.reRepaired ∧
    (reoffer s).repair.refused = s.repair.refused ∧ (reoffer s).repair.declined = s.repair.declined ∧
    (reoffer s).repair.dropped = s.repair.dropped ∧ (reoffer s).repair.abandoned = s.repair.abandoned ∧
    (reoffer s).repair.migration = s.repair.migration ∧ (reoffer s).engine.submit = s.engine.submit ∧
    (reoffer s).engine.done = s.engine.done ∧ (reoffer s).engine.record = s.engine.record ∧
    (reoffer s).engine.faultPending = s.engine.faultPending := by
  unfold reoffer; (try dsimp only); (repeat' split) <;> simp

/-- A refusal for want of a slot (R59). -/
@[simp] theorem refuseFull_frame (g : Nat) (s : State) :
    (refuseFull g s).loader = s.loader ∧ (refuseFull g s).ctl = s.ctl ∧ (refuseFull g s).clock = s.clock ∧
    (refuseFull g s).lamp = s.lamp ∧ (refuseFull g s).restarts = s.restarts ∧ (refuseFull g s).front = s.front ∧
    (refuseFull g s).frontResponse = s.frontResponse ∧ (refuseFull g s).windows = s.windows ∧
    (refuseFull g s).port = s.port ∧ (refuseFull g s).arbiter = s.arbiter ∧ (refuseFull g s).mem = s.mem ∧
    (refuseFull g s).memEpoch = s.memEpoch ∧ (refuseFull g s).log = s.log ∧ (refuseFull g s).scrub = s.scrub ∧
    (refuseFull g s).prep = s.prep ∧ (refuseFull g s).thermal = s.thermal ∧ (refuseFull g s).watch = s.watch ∧
    (refuseFull g s).dog = s.dog ∧ (refuseFull g s).trace = s.trace ∧ (refuseFull g s).keypad = s.keypad ∧
    (refuseFull g s).events = s.events ∧ (refuseFull g s).posting = s.posting ∧ (refuseFull g s).headers = s.headers ∧
    (refuseFull g s).lastUser = s.lastUser ∧ (refuseFull g s).resetInput = s.resetInput ∧
    (refuseFull g s).requests = s.requests ∧ (refuseFull g s).holdReleases = s.holdReleases ∧
    (refuseFull g s).outcomes = s.outcomes ∧ (refuseFull g s).watchReports = s.watchReports ∧
    (refuseFull g s).snoopReports = s.snoopReports ∧ (refuseFull g s).pending = s.pending ∧
    (refuseFull g s).repair.table = s.repair.table ∧ (refuseFull g s).repair.spent = s.repair.spent ∧
    (refuseFull g s).repair.requests = s.repair.requests ∧
    (refuseFull g s).repair.reservation = s.repair.reservation ∧
    (refuseFull g s).repair.completed = s.repair.completed ∧
    (refuseFull g s).repair.reRepaired = s.repair.reRepaired ∧ (refuseFull g s).repair.declined = s.repair.declined ∧
    (refuseFull g s).repair.dropped = s.repair.dropped ∧ (refuseFull g s).repair.abandoned = s.repair.abandoned ∧
    (refuseFull g s).repair.migration = s.repair.migration ∧ (refuseFull g s).engine.submit = s.engine.submit ∧
    (refuseFull g s).engine.done = s.engine.done ∧ (refuseFull g s).engine.record = s.engine.record ∧
    (refuseFull g s).engine.faultPending = s.engine.faultPending := by
  simp [refuseFull]

/-- A migration's start (R59). -/
@[simp] theorem startMigration_frame (g slot : Nat) (s : State) :
    (startMigration g slot s).loader = s.loader ∧ (startMigration g slot s).ctl = s.ctl ∧
    (startMigration g slot s).clock = s.clock ∧ (startMigration g slot s).lamp = s.lamp ∧
    (startMigration g slot s).restarts = s.restarts ∧ (startMigration g slot s).frontResponse = s.frontResponse ∧
    (startMigration g slot s).windows = s.windows ∧ (startMigration g slot s).port = s.port ∧
    (startMigration g slot s).mem = s.mem ∧ (startMigration g slot s).memEpoch = s.memEpoch ∧
    (startMigration g slot s).log = s.log ∧ (startMigration g slot s).thermal = s.thermal ∧
    (startMigration g slot s).watch = s.watch ∧ (startMigration g slot s).dog = s.dog ∧
    (startMigration g slot s).trace = s.trace ∧ (startMigration g slot s).keypad = s.keypad ∧
    (startMigration g slot s).events = s.events ∧ (startMigration g slot s).posting = s.posting ∧
    (startMigration g slot s).queue = s.queue ∧ (startMigration g slot s).missed = s.missed ∧
    (startMigration g slot s).headers = s.headers ∧ (startMigration g slot s).lastUser = s.lastUser ∧
    (startMigration g slot s).resetInput = s.resetInput ∧ (startMigration g slot s).requests = s.requests ∧
    (startMigration g slot s).holdReleases = s.holdReleases ∧ (startMigration g slot s).outcomes = s.outcomes ∧
    (startMigration g slot s).watchReports = s.watchReports ∧
    (startMigration g slot s).snoopReports = s.snoopReports ∧ (startMigration g slot s).freeCount = s.freeCount ∧
    (startMigration g slot s).pending = s.pending ∧ (startMigration g slot s).repair.table = s.repair.table ∧
    (startMigration g slot s).repair.spent = s.repair.spent ∧
    (startMigration g slot s).repair.requests = s.repair.requests ∧
    (startMigration g slot s).repair.completed = s.repair.completed ∧
    (startMigration g slot s).repair.reRepaired = s.repair.reRepaired ∧
    (startMigration g slot s).repair.refused = s.repair.refused ∧
    (startMigration g slot s).repair.declined = s.repair.declined ∧
    (startMigration g slot s).repair.dropped = s.repair.dropped ∧
    (startMigration g slot s).repair.abandoned = s.repair.abandoned ∧
    (startMigration g slot s).prep.activity = s.prep.activity ∧ (startMigration g slot s).prep.pass = s.prep.pass ∧
    (startMigration g slot s).prep.position = s.prep.position ∧ (startMigration g slot s).prep.step = s.prep.step ∧
    (startMigration g slot s).prep.corrected = s.prep.corrected ∧
    (startMigration g slot s).prep.uncorrectable = s.prep.uncorrectable ∧
    (startMigration g slot s).prep.retry = s.prep.retry ∧ (startMigration g slot s).prep.range = s.prep.range ∧
    (startMigration g slot s).scrub.fixList = s.scrub.fixList ∧
    (startMigration g slot s).scrub.position = s.scrub.position ∧
    (startMigration g slot s).scrub.count = s.scrub.count ∧ (startMigration g slot s).scrub.timer = s.scrub.timer ∧
    (startMigration g slot s).scrub.inHand = s.scrub.inHand ∧ (startMigration g slot s).scrub.cold = s.scrub.cold ∧
    (startMigration g slot s).scrub.due = s.scrub.due ∧ (startMigration g slot s).engine.submit = s.engine.submit ∧
    (startMigration g slot s).engine.done = s.engine.done ∧
    (startMigration g slot s).engine.record = s.engine.record ∧
    (startMigration g slot s).engine.faultPending = s.engine.faultPending ∧
    (startMigration g slot s).engine.work = s.engine.work := by
  simp [startMigration]

/-- Migrations start (R59). -/
@[simp] theorem startMigrations_frame (n : Nat) (s : State) :
    (startMigrations n s).loader = s.loader ∧ (startMigrations n s).ctl = s.ctl ∧
    (startMigrations n s).clock = s.clock ∧ (startMigrations n s).lamp = s.lamp ∧
    (startMigrations n s).restarts = s.restarts ∧ (startMigrations n s).frontResponse = s.frontResponse ∧
    (startMigrations n s).windows = s.windows ∧ (startMigrations n s).port = s.port ∧
    (startMigrations n s).mem = s.mem ∧ (startMigrations n s).memEpoch = s.memEpoch ∧
    (startMigrations n s).log = s.log ∧ (startMigrations n s).thermal = s.thermal ∧
    (startMigrations n s).watch = s.watch ∧ (startMigrations n s).dog = s.dog ∧
    (startMigrations n s).trace = s.trace ∧ (startMigrations n s).keypad = s.keypad ∧
    (startMigrations n s).events = s.events ∧ (startMigrations n s).posting = s.posting ∧
    (startMigrations n s).headers = s.headers ∧ (startMigrations n s).lastUser = s.lastUser ∧
    (startMigrations n s).resetInput = s.resetInput ∧ (startMigrations n s).requests = s.requests ∧
    (startMigrations n s).holdReleases = s.holdReleases ∧ (startMigrations n s).outcomes = s.outcomes ∧
    (startMigrations n s).watchReports = s.watchReports ∧ (startMigrations n s).snoopReports = s.snoopReports ∧
    (startMigrations n s).pending = s.pending ∧ (startMigrations n s).repair.table = s.repair.table ∧
    (startMigrations n s).repair.spent = s.repair.spent ∧
    (startMigrations n s).repair.completed = s.repair.completed ∧
    (startMigrations n s).repair.reRepaired = s.repair.reRepaired ∧
    (startMigrations n s).repair.declined = s.repair.declined ∧
    (startMigrations n s).repair.abandoned = s.repair.abandoned ∧
    (startMigrations n s).repair.dropped = s.repair.dropped ∧ (startMigrations n s).prep.activity = s.prep.activity ∧
    (startMigrations n s).prep.pass = s.prep.pass ∧ (startMigrations n s).prep.position = s.prep.position ∧
    (startMigrations n s).prep.step = s.prep.step ∧ (startMigrations n s).prep.corrected = s.prep.corrected ∧
    (startMigrations n s).prep.uncorrectable = s.prep.uncorrectable ∧
    (startMigrations n s).prep.retry = s.prep.retry ∧ (startMigrations n s).prep.range = s.prep.range ∧
    (startMigrations n s).scrub.fixList = s.scrub.fixList ∧ (startMigrations n s).scrub.position = s.scrub.position ∧
    (startMigrations n s).scrub.count = s.scrub.count ∧ (startMigrations n s).scrub.timer = s.scrub.timer ∧
    (startMigrations n s).scrub.inHand = s.scrub.inHand ∧ (startMigrations n s).scrub.cold = s.scrub.cold ∧
    (startMigrations n s).scrub.due = s.scrub.due ∧ (startMigrations n s).engine.submit = s.engine.submit ∧
    (startMigrations n s).engine.done = s.engine.done ∧ (startMigrations n s).engine.record = s.engine.record ∧
    (startMigrations n s).engine.faultPending = s.engine.faultPending := by
  induction n generalizing s with
  | zero => simp [startMigrations]
  | succ n ih =>
    unfold startMigrations
    split
    · simp
    · split
      · simp
      · dsimp only
        split <;> simp [ih]

/-- The next migration starts (R59). -/
@[simp] theorem nextMigration_frame (s : State) :
    (nextMigration s).loader = s.loader ∧ (nextMigration s).ctl = s.ctl ∧ (nextMigration s).clock = s.clock ∧
    (nextMigration s).lamp = s.lamp ∧ (nextMigration s).restarts = s.restarts ∧
    (nextMigration s).frontResponse = s.frontResponse ∧ (nextMigration s).windows = s.windows ∧
    (nextMigration s).port = s.port ∧ (nextMigration s).mem = s.mem ∧ (nextMigration s).memEpoch = s.memEpoch ∧
    (nextMigration s).log = s.log ∧ (nextMigration s).thermal = s.thermal ∧ (nextMigration s).watch = s.watch ∧
    (nextMigration s).dog = s.dog ∧ (nextMigration s).trace = s.trace ∧ (nextMigration s).keypad = s.keypad ∧
    (nextMigration s).events = s.events ∧ (nextMigration s).posting = s.posting ∧
    (nextMigration s).headers = s.headers ∧ (nextMigration s).lastUser = s.lastUser ∧
    (nextMigration s).resetInput = s.resetInput ∧ (nextMigration s).requests = s.requests ∧
    (nextMigration s).holdReleases = s.holdReleases ∧ (nextMigration s).outcomes = s.outcomes ∧
    (nextMigration s).watchReports = s.watchReports ∧ (nextMigration s).snoopReports = s.snoopReports ∧
    (nextMigration s).pending = s.pending ∧ (nextMigration s).repair.table = s.repair.table ∧
    (nextMigration s).repair.spent = s.repair.spent ∧ (nextMigration s).repair.completed = s.repair.completed ∧
    (nextMigration s).repair.reRepaired = s.repair.reRepaired ∧
    (nextMigration s).repair.declined = s.repair.declined ∧ (nextMigration s).repair.abandoned = s.repair.abandoned ∧
    (nextMigration s).repair.dropped = s.repair.dropped ∧ (nextMigration s).prep.activity = s.prep.activity ∧
    (nextMigration s).prep.pass = s.prep.pass ∧ (nextMigration s).prep.position = s.prep.position ∧
    (nextMigration s).prep.step = s.prep.step ∧ (nextMigration s).prep.corrected = s.prep.corrected ∧
    (nextMigration s).prep.uncorrectable = s.prep.uncorrectable ∧ (nextMigration s).prep.retry = s.prep.retry ∧
    (nextMigration s).prep.range = s.prep.range ∧ (nextMigration s).scrub.fixList = s.scrub.fixList ∧
    (nextMigration s).scrub.position = s.scrub.position ∧ (nextMigration s).scrub.count = s.scrub.count ∧
    (nextMigration s).scrub.timer = s.scrub.timer ∧ (nextMigration s).scrub.inHand = s.scrub.inHand ∧
    (nextMigration s).scrub.cold = s.scrub.cold ∧ (nextMigration s).scrub.due = s.scrub.due ∧
    (nextMigration s).engine.submit = s.engine.submit ∧ (nextMigration s).engine.done = s.engine.done ∧
    (nextMigration s).engine.record = s.engine.record ∧
    (nextMigration s).engine.faultPending = s.engine.faultPending := by
  simp [nextMigration]

/-- A repair request (R58). -/
@[simp] theorem offerRepair_frame (g : Nat) (s : State) :
    (offerRepair g s).loader = s.loader ∧ (offerRepair g s).ctl = s.ctl ∧ (offerRepair g s).clock = s.clock ∧
    (offerRepair g s).lamp = s.lamp ∧ (offerRepair g s).restarts = s.restarts ∧
    (offerRepair g s).frontResponse = s.frontResponse ∧ (offerRepair g s).windows = s.windows ∧
    (offerRepair g s).port = s.port ∧ (offerRepair g s).mem = s.mem ∧ (offerRepair g s).memEpoch = s.memEpoch ∧
    (offerRepair g s).log = s.log ∧ (offerRepair g s).thermal = s.thermal ∧ (offerRepair g s).watch = s.watch ∧
    (offerRepair g s).dog = s.dog ∧ (offerRepair g s).trace = s.trace ∧ (offerRepair g s).keypad = s.keypad ∧
    (offerRepair g s).events = s.events ∧ (offerRepair g s).posting = s.posting ∧
    (offerRepair g s).headers = s.headers ∧ (offerRepair g s).lastUser = s.lastUser ∧
    (offerRepair g s).resetInput = s.resetInput ∧ (offerRepair g s).requests = s.requests ∧
    (offerRepair g s).holdReleases = s.holdReleases ∧ (offerRepair g s).outcomes = s.outcomes ∧
    (offerRepair g s).watchReports = s.watchReports ∧ (offerRepair g s).snoopReports = s.snoopReports ∧
    (offerRepair g s).pending = s.pending ∧ (offerRepair g s).repair.table = s.repair.table ∧
    (offerRepair g s).repair.spent = s.repair.spent ∧ (offerRepair g s).repair.completed = s.repair.completed ∧
    (offerRepair g s).repair.reRepaired = s.repair.reRepaired ∧
    (offerRepair g s).repair.declined = s.repair.declined ∧ (offerRepair g s).repair.abandoned = s.repair.abandoned ∧
    (offerRepair g s).prep.activity = s.prep.activity ∧ (offerRepair g s).prep.pass = s.prep.pass ∧
    (offerRepair g s).prep.position = s.prep.position ∧ (offerRepair g s).prep.step = s.prep.step ∧
    (offerRepair g s).prep.corrected = s.prep.corrected ∧
    (offerRepair g s).prep.uncorrectable = s.prep.uncorrectable ∧ (offerRepair g s).prep.retry = s.prep.retry ∧
    (offerRepair g s).prep.range = s.prep.range ∧ (offerRepair g s).scrub.fixList = s.scrub.fixList ∧
    (offerRepair g s).scrub.position = s.scrub.position ∧ (offerRepair g s).scrub.count = s.scrub.count ∧
    (offerRepair g s).scrub.timer = s.scrub.timer ∧ (offerRepair g s).scrub.inHand = s.scrub.inHand ∧
    (offerRepair g s).scrub.cold = s.scrub.cold ∧ (offerRepair g s).scrub.due = s.scrub.due ∧
    (offerRepair g s).engine.submit = s.engine.submit ∧ (offerRepair g s).engine.done = s.engine.done ∧
    (offerRepair g s).engine.record = s.engine.record ∧
    (offerRepair g s).engine.faultPending = s.engine.faultPending := by
  unfold offerRepair; (try dsimp only); (repeat' split) <;> simp

/-- A release at a DIAG command (R39). -/
@[simp] theorem diagRelease_frame (g : Nat) (s : State) :
    (diagRelease g s).loader = s.loader ∧ (diagRelease g s).ctl = s.ctl ∧ (diagRelease g s).clock = s.clock ∧
    (diagRelease g s).lamp = s.lamp ∧ (diagRelease g s).restarts = s.restarts ∧ (diagRelease g s).front = s.front ∧
    (diagRelease g s).frontResponse = s.frontResponse ∧ (diagRelease g s).windows = s.windows ∧
    (diagRelease g s).port = s.port ∧ (diagRelease g s).arbiter = s.arbiter ∧ (diagRelease g s).mem = s.mem ∧
    (diagRelease g s).memEpoch = s.memEpoch ∧ (diagRelease g s).log = s.log ∧ (diagRelease g s).scrub = s.scrub ∧
    (diagRelease g s).repair = s.repair ∧ (diagRelease g s).prep = s.prep ∧ (diagRelease g s).thermal = s.thermal ∧
    (diagRelease g s).watch = s.watch ∧ (diagRelease g s).dog = s.dog ∧ (diagRelease g s).trace = s.trace ∧
    (diagRelease g s).keypad = s.keypad ∧ (diagRelease g s).events = s.events ∧
    (diagRelease g s).posting = s.posting ∧ (diagRelease g s).queue = s.queue ∧ (diagRelease g s).missed = s.missed ∧
    (diagRelease g s).headers = s.headers ∧ (diagRelease g s).lastUser = s.lastUser ∧
    (diagRelease g s).resetInput = s.resetInput ∧ (diagRelease g s).requests = s.requests ∧
    (diagRelease g s).holdReleases = s.holdReleases ∧ (diagRelease g s).outcomes = s.outcomes ∧
    (diagRelease g s).watchReports = s.watchReports ∧ (diagRelease g s).snoopReports = s.snoopReports ∧
    (diagRelease g s).freeCount = s.freeCount ∧ (diagRelease g s).pending = s.pending ∧
    (diagRelease g s).engine.submit = s.engine.submit ∧ (diagRelease g s).engine.done = s.engine.done ∧
    (diagRelease g s).engine.record = s.engine.record ∧
    (diagRelease g s).engine.faultPending = s.engine.faultPending ∧ (diagRelease g s).engine.work = s.engine.work := by
  unfold diagRelease; (try dsimp only); (repeat' split) <;> simp

/-- A reservation's release (R57). -/
@[simp] theorem releaseReservation_frame (g : Nat) (s : State) :
    (releaseReservation g s).loader = s.loader ∧ (releaseReservation g s).ctl = s.ctl ∧
    (releaseReservation g s).clock = s.clock ∧ (releaseReservation g s).lamp = s.lamp ∧
    (releaseReservation g s).restarts = s.restarts ∧ (releaseReservation g s).windows = s.windows ∧
    (releaseReservation g s).port = s.port ∧ (releaseReservation g s).mem = s.mem ∧
    (releaseReservation g s).memEpoch = s.memEpoch ∧ (releaseReservation g s).log = s.log ∧
    (releaseReservation g s).thermal = s.thermal ∧ (releaseReservation g s).watch = s.watch ∧
    (releaseReservation g s).dog = s.dog ∧ (releaseReservation g s).trace = s.trace ∧
    (releaseReservation g s).keypad = s.keypad ∧ (releaseReservation g s).events = s.events ∧
    (releaseReservation g s).posting = s.posting ∧ (releaseReservation g s).queue = s.queue ∧
    (releaseReservation g s).missed = s.missed ∧ (releaseReservation g s).headers = s.headers ∧
    (releaseReservation g s).lastUser = s.lastUser ∧ (releaseReservation g s).resetInput = s.resetInput ∧
    (releaseReservation g s).holdReleases = s.holdReleases ∧ (releaseReservation g s).outcomes = s.outcomes ∧
    (releaseReservation g s).snoopReports = s.snoopReports ∧ (releaseReservation g s).freeCount = s.freeCount ∧
    (releaseReservation g s).pending = s.pending ∧ (releaseReservation g s).repair.table = s.repair.table ∧
    (releaseReservation g s).repair.spent = s.repair.spent ∧
    (releaseReservation g s).repair.requests = s.repair.requests ∧
    (releaseReservation g s).repair.completed = s.repair.completed ∧
    (releaseReservation g s).repair.reRepaired = s.repair.reRepaired ∧
    (releaseReservation g s).repair.refused = s.repair.refused ∧
    (releaseReservation g s).repair.declined = s.repair.declined ∧
    (releaseReservation g s).repair.dropped = s.repair.dropped ∧
    (releaseReservation g s).repair.abandoned = s.repair.abandoned ∧
    (releaseReservation g s).repair.migration = s.repair.migration ∧
    (releaseReservation g s).prep.activity = s.prep.activity ∧ (releaseReservation g s).prep.pass = s.prep.pass ∧
    (releaseReservation g s).prep.position = s.prep.position ∧ (releaseReservation g s).prep.step = s.prep.step ∧
    (releaseReservation g s).prep.corrected = s.prep.corrected ∧
    (releaseReservation g s).prep.uncorrectable = s.prep.uncorrectable ∧
    (releaseReservation g s).prep.retry = s.prep.retry ∧ (releaseReservation g s).prep.range = s.prep.range ∧
    (releaseReservation g s).scrub.fixList = s.scrub.fixList ∧
    (releaseReservation g s).scrub.position = s.scrub.position ∧
    (releaseReservation g s).scrub.count = s.scrub.count ∧ (releaseReservation g s).scrub.due = s.scrub.due ∧
    (releaseReservation g s).scrub.timer = s.scrub.timer ∧ (releaseReservation g s).scrub.cold = s.scrub.cold ∧
    (releaseReservation g s).engine.submit = s.engine.submit ∧ (releaseReservation g s).engine.done = s.engine.done ∧
    (releaseReservation g s).engine.record = s.engine.record ∧
    (releaseReservation g s).engine.faultPending = s.engine.faultPending ∧
    (releaseReservation g s).engine.work = s.engine.work := by
  simp [releaseReservation]

/-- A migration's end (R61, R62). -/
@[simp] theorem endMigration_frame (n : RepairNotice) (s : State) :
    (endMigration n s).loader = s.loader ∧ (endMigration n s).ctl = s.ctl ∧ (endMigration n s).clock = s.clock ∧
    (endMigration n s).lamp = s.lamp ∧ (endMigration n s).restarts = s.restarts ∧
    (endMigration n s).windows = s.windows ∧ (endMigration n s).port = s.port ∧ (endMigration n s).mem = s.mem ∧
    (endMigration n s).memEpoch = s.memEpoch ∧ (endMigration n s).log = s.log ∧
    (endMigration n s).thermal = s.thermal ∧ (endMigration n s).watch = s.watch ∧ (endMigration n s).dog = s.dog ∧
    (endMigration n s).trace = s.trace ∧ (endMigration n s).keypad = s.keypad ∧ (endMigration n s).events = s.events ∧
    (endMigration n s).posting = s.posting ∧ (endMigration n s).headers = s.headers ∧
    (endMigration n s).lastUser = s.lastUser ∧ (endMigration n s).resetInput = s.resetInput ∧
    (endMigration n s).holdReleases = s.holdReleases ∧ (endMigration n s).outcomes = s.outcomes ∧
    (endMigration n s).snoopReports = s.snoopReports ∧ (endMigration n s).pending = s.pending ∧
    (endMigration n s).repair.table = s.repair.table ∧ (endMigration n s).repair.spent = s.repair.spent ∧
    (endMigration n s).repair.completed = s.repair.completed ∧
    (endMigration n s).repair.reRepaired = s.repair.reRepaired ∧
    (endMigration n s).repair.declined = s.repair.declined ∧
    (endMigration n s).repair.abandoned = s.repair.abandoned ∧ (endMigration n s).repair.dropped = s.repair.dropped ∧
    (endMigration n s).prep.activity = s.prep.activity ∧ (endMigration n s).prep.pass = s.prep.pass ∧
    (endMigration n s).prep.position = s.prep.position ∧ (endMigration n s).prep.step = s.prep.step ∧
    (endMigration n s).prep.corrected = s.prep.corrected ∧
    (endMigration n s).prep.uncorrectable = s.prep.uncorrectable ∧ (endMigration n s).prep.retry = s.prep.retry ∧
    (endMigration n s).prep.range = s.prep.range ∧ (endMigration n s).scrub.fixList = s.scrub.fixList ∧
    (endMigration n s).scrub.position = s.scrub.position ∧ (endMigration n s).scrub.count = s.scrub.count ∧
    (endMigration n s).scrub.due = s.scrub.due ∧ (endMigration n s).scrub.timer = s.scrub.timer ∧
    (endMigration n s).scrub.cold = s.scrub.cold ∧ (endMigration n s).engine.submit = s.engine.submit ∧
    (endMigration n s).engine.done = s.engine.done ∧ (endMigration n s).engine.record = s.engine.record ∧
    (endMigration n s).engine.faultPending = s.engine.faultPending := by
  simp [endMigration]

/-- Board power off at the repair unit (R64). -/
@[simp] theorem repairPowerOff_frame (s : State) :
    (repairPowerOff s).loader = s.loader ∧ (repairPowerOff s).ctl = s.ctl ∧ (repairPowerOff s).clock = s.clock ∧
    (repairPowerOff s).lamp = s.lamp ∧ (repairPowerOff s).restarts = s.restarts ∧ (repairPowerOff s).front = s.front ∧
    (repairPowerOff s).frontResponse = s.frontResponse ∧ (repairPowerOff s).windows = s.windows ∧
    (repairPowerOff s).port = s.port ∧ (repairPowerOff s).mem = s.mem ∧ (repairPowerOff s).memEpoch = s.memEpoch ∧
    (repairPowerOff s).log = s.log ∧ (repairPowerOff s).scrub = s.scrub ∧ (repairPowerOff s).prep = s.prep ∧
    (repairPowerOff s).thermal = s.thermal ∧ (repairPowerOff s).watch = s.watch ∧ (repairPowerOff s).dog = s.dog ∧
    (repairPowerOff s).trace = s.trace ∧ (repairPowerOff s).keypad = s.keypad ∧ (repairPowerOff s).engine = s.engine ∧
    (repairPowerOff s).events = s.events ∧ (repairPowerOff s).posting = s.posting ∧
    (repairPowerOff s).queue = s.queue ∧ (repairPowerOff s).missed = s.missed ∧
    (repairPowerOff s).headers = s.headers ∧ (repairPowerOff s).lastUser = s.lastUser ∧
    (repairPowerOff s).resetInput = s.resetInput ∧ (repairPowerOff s).requests = s.requests ∧
    (repairPowerOff s).holdReleases = s.holdReleases ∧ (repairPowerOff s).outcomes = s.outcomes ∧
    (repairPowerOff s).watchReports = s.watchReports ∧ (repairPowerOff s).snoopReports = s.snoopReports ∧
    (repairPowerOff s).freeCount = s.freeCount ∧ (repairPowerOff s).pending = s.pending ∧
    (repairPowerOff s).repair.table = s.repair.table ∧ (repairPowerOff s).repair.spent = s.repair.spent ∧
    (repairPowerOff s).repair.completed = s.repair.completed ∧
    (repairPowerOff s).repair.reRepaired = s.repair.reRepaired ∧
    (repairPowerOff s).repair.refused = s.repair.refused ∧ (repairPowerOff s).repair.declined = s.repair.declined ∧
    (repairPowerOff s).repair.dropped = s.repair.dropped := by
  simp [repairPowerOff]

/-- A detection counted (R31, R35). -/
@[simp] theorem countDetection_frame (d : Detection) (s : State) :
    (countDetection d s).loader = s.loader ∧ (countDetection d s).ctl = s.ctl ∧ (countDetection d s).clock = s.clock ∧
    (countDetection d s).restarts = s.restarts ∧ (countDetection d s).front = s.front ∧
    (countDetection d s).frontResponse = s.frontResponse ∧ (countDetection d s).windows = s.windows ∧
    (countDetection d s).port = s.port ∧ (countDetection d s).arbiter = s.arbiter ∧ (countDetection d s).mem = s.mem ∧
    (countDetection d s).memEpoch = s.memEpoch ∧ (countDetection d s).scrub = s.scrub ∧
    (countDetection d s).repair = s.repair ∧ (countDetection d s).prep = s.prep ∧
    (countDetection d s).thermal = s.thermal ∧ (countDetection d s).watch = s.watch ∧
    (countDetection d s).dog = s.dog ∧ (countDetection d s).trace = s.trace ∧ (countDetection d s).keypad = s.keypad ∧
    (countDetection d s).engine = s.engine ∧ (countDetection d s).events = s.events ∧
    (countDetection d s).posting = s.posting ∧ (countDetection d s).queue = s.queue ∧
    (countDetection d s).missed = s.missed ∧ (countDetection d s).headers = s.headers ∧
    (countDetection d s).lastUser = s.lastUser ∧ (countDetection d s).resetInput = s.resetInput ∧
    (countDetection d s).requests = s.requests ∧ (countDetection d s).holdReleases = s.holdReleases ∧
    (countDetection d s).outcomes = s.outcomes ∧ (countDetection d s).watchReports = s.watchReports ∧
    (countDetection d s).snoopReports = s.snoopReports ∧ (countDetection d s).freeCount = s.freeCount ∧
    (countDetection d s).pending = s.pending ∧ (countDetection d s).log.entries = s.log.entries ∧
    (countDetection d s).log.overflow = s.log.overflow := by
  unfold countDetection; (try dsimp only); (repeat' split) <;> simp

/-- A detection coalesced (R28, R32). -/
@[simp] theorem coalesce_frame (d : Detection) (e : LogEntry) (s : State) :
    (coalesce d e s).loader = s.loader ∧ (coalesce d e s).ctl = s.ctl ∧ (coalesce d e s).clock = s.clock ∧
    (coalesce d e s).lamp = s.lamp ∧ (coalesce d e s).restarts = s.restarts ∧
    (coalesce d e s).frontResponse = s.frontResponse ∧ (coalesce d e s).windows = s.windows ∧
    (coalesce d e s).port = s.port ∧ (coalesce d e s).mem = s.mem ∧ (coalesce d e s).memEpoch = s.memEpoch ∧
    (coalesce d e s).thermal = s.thermal ∧ (coalesce d e s).watch = s.watch ∧ (coalesce d e s).dog = s.dog ∧
    (coalesce d e s).trace = s.trace ∧ (coalesce d e s).keypad = s.keypad ∧ (coalesce d e s).events = s.events ∧
    (coalesce d e s).posting = s.posting ∧ (coalesce d e s).headers = s.headers ∧
    (coalesce d e s).lastUser = s.lastUser ∧ (coalesce d e s).resetInput = s.resetInput ∧
    (coalesce d e s).requests = s.requests ∧ (coalesce d e s).holdReleases = s.holdReleases ∧
    (coalesce d e s).outcomes = s.outcomes ∧ (coalesce d e s).watchReports = s.watchReports ∧
    (coalesce d e s).snoopReports = s.snoopReports ∧ (coalesce d e s).pending = s.pending ∧
    (coalesce d e s).repair.table = s.repair.table ∧ (coalesce d e s).repair.spent = s.repair.spent ∧
    (coalesce d e s).repair.completed = s.repair.completed ∧
    (coalesce d e s).repair.reRepaired = s.repair.reRepaired ∧ (coalesce d e s).repair.declined = s.repair.declined ∧
    (coalesce d e s).repair.abandoned = s.repair.abandoned ∧ (coalesce d e s).prep.activity = s.prep.activity ∧
    (coalesce d e s).prep.pass = s.prep.pass ∧ (coalesce d e s).prep.position = s.prep.position ∧
    (coalesce d e s).prep.step = s.prep.step ∧ (coalesce d e s).prep.corrected = s.prep.corrected ∧
    (coalesce d e s).prep.uncorrectable = s.prep.uncorrectable ∧ (coalesce d e s).prep.retry = s.prep.retry ∧
    (coalesce d e s).prep.range = s.prep.range ∧ (coalesce d e s).scrub.fixList = s.scrub.fixList ∧
    (coalesce d e s).scrub.position = s.scrub.position ∧ (coalesce d e s).scrub.count = s.scrub.count ∧
    (coalesce d e s).scrub.timer = s.scrub.timer ∧ (coalesce d e s).scrub.inHand = s.scrub.inHand ∧
    (coalesce d e s).scrub.cold = s.scrub.cold ∧ (coalesce d e s).scrub.due = s.scrub.due ∧
    (coalesce d e s).engine.submit = s.engine.submit ∧ (coalesce d e s).engine.done = s.engine.done ∧
    (coalesce d e s).engine.record = s.engine.record ∧ (coalesce d e s).engine.faultPending = s.engine.faultPending ∧
    (coalesce d e s).log.corrected = s.log.corrected ∧ (coalesce d e s).log.reported = s.log.reported ∧
    (coalesce d e s).log.uncorrectable = s.log.uncorrectable ∧ (coalesce d e s).log.overflow = s.log.overflow ∧
    (coalesce d e s).log.session = s.log.session := by
  unfold coalesce; (try dsimp only); (repeat' split) <;> simp

/-- A detection entered (R29, R33). -/
@[simp] theorem enterDetection_frame (d : Detection) (s : State) :
    (enterDetection d s).loader = s.loader ∧ (enterDetection d s).ctl = s.ctl ∧ (enterDetection d s).clock = s.clock ∧
    (enterDetection d s).lamp = s.lamp ∧ (enterDetection d s).restarts = s.restarts ∧
    (enterDetection d s).frontResponse = s.frontResponse ∧ (enterDetection d s).windows = s.windows ∧
    (enterDetection d s).port = s.port ∧ (enterDetection d s).mem = s.mem ∧
    (enterDetection d s).memEpoch = s.memEpoch ∧ (enterDetection d s).thermal = s.thermal ∧
    (enterDetection d s).watch = s.watch ∧ (enterDetection d s).dog = s.dog ∧ (enterDetection d s).trace = s.trace ∧
    (enterDetection d s).keypad = s.keypad ∧ (enterDetection d s).events = s.events ∧
    (enterDetection d s).posting = s.posting ∧ (enterDetection d s).headers = s.headers ∧
    (enterDetection d s).lastUser = s.lastUser ∧ (enterDetection d s).resetInput = s.resetInput ∧
    (enterDetection d s).requests = s.requests ∧ (enterDetection d s).holdReleases = s.holdReleases ∧
    (enterDetection d s).outcomes = s.outcomes ∧ (enterDetection d s).watchReports = s.watchReports ∧
    (enterDetection d s).snoopReports = s.snoopReports ∧ (enterDetection d s).pending = s.pending ∧
    (enterDetection d s).repair.table = s.repair.table ∧ (enterDetection d s).repair.spent = s.repair.spent ∧
    (enterDetection d s).repair.completed = s.repair.completed ∧
    (enterDetection d s).repair.reRepaired = s.repair.reRepaired ∧
    (enterDetection d s).repair.declined = s.repair.declined ∧
    (enterDetection d s).repair.abandoned = s.repair.abandoned ∧
    (enterDetection d s).prep.activity = s.prep.activity ∧ (enterDetection d s).prep.pass = s.prep.pass ∧
    (enterDetection d s).prep.position = s.prep.position ∧ (enterDetection d s).prep.step = s.prep.step ∧
    (enterDetection d s).prep.corrected = s.prep.corrected ∧
    (enterDetection d s).prep.uncorrectable = s.prep.uncorrectable ∧ (enterDetection d s).prep.retry = s.prep.retry ∧
    (enterDetection d s).prep.range = s.prep.range ∧ (enterDetection d s).scrub.fixList = s.scrub.fixList ∧
    (enterDetection d s).scrub.position = s.scrub.position ∧ (enterDetection d s).scrub.count = s.scrub.count ∧
    (enterDetection d s).scrub.timer = s.scrub.timer ∧ (enterDetection d s).scrub.inHand = s.scrub.inHand ∧
    (enterDetection d s).scrub.cold = s.scrub.cold ∧ (enterDetection d s).scrub.due = s.scrub.due ∧
    (enterDetection d s).engine.submit = s.engine.submit ∧ (enterDetection d s).engine.done = s.engine.done ∧
    (enterDetection d s).engine.record = s.engine.record ∧
    (enterDetection d s).engine.faultPending = s.engine.faultPending ∧
    (enterDetection d s).log.corrected = s.log.corrected ∧ (enterDetection d s).log.reported = s.log.reported ∧
    (enterDetection d s).log.uncorrectable = s.log.uncorrectable ∧
    (enterDetection d s).log.overflow = s.log.overflow ∧ (enterDetection d s).log.session = s.log.session := by
  unfold enterDetection; (try dsimp only); (repeat' split) <;> simp

/-- A detection (R28 to R35). -/
@[simp] theorem detect_frame (d : Detection) (s : State) :
    (detect d s).loader = s.loader ∧ (detect d s).ctl = s.ctl ∧ (detect d s).clock = s.clock ∧
    (detect d s).restarts = s.restarts ∧ (detect d s).frontResponse = s.frontResponse ∧
    (detect d s).windows = s.windows ∧ (detect d s).port = s.port ∧ (detect d s).mem = s.mem ∧
    (detect d s).memEpoch = s.memEpoch ∧ (detect d s).thermal = s.thermal ∧ (detect d s).watch = s.watch ∧
    (detect d s).dog = s.dog ∧ (detect d s).trace = s.trace ∧ (detect d s).keypad = s.keypad ∧
    (detect d s).events = s.events ∧ (detect d s).posting = s.posting ∧ (detect d s).headers = s.headers ∧
    (detect d s).lastUser = s.lastUser ∧ (detect d s).resetInput = s.resetInput ∧ (detect d s).requests = s.requests ∧
    (detect d s).holdReleases = s.holdReleases ∧ (detect d s).outcomes = s.outcomes ∧
    (detect d s).watchReports = s.watchReports ∧ (detect d s).snoopReports = s.snoopReports ∧
    (detect d s).pending = s.pending ∧ (detect d s).repair.table = s.repair.table ∧
    (detect d s).repair.spent = s.repair.spent ∧ (detect d s).repair.completed = s.repair.completed ∧
    (detect d s).repair.reRepaired = s.repair.reRepaired ∧ (detect d s).repair.declined = s.repair.declined ∧
    (detect d s).repair.abandoned = s.repair.abandoned ∧ (detect d s).prep.activity = s.prep.activity ∧
    (detect d s).prep.pass = s.prep.pass ∧ (detect d s).prep.position = s.prep.position ∧
    (detect d s).prep.step = s.prep.step ∧ (detect d s).prep.corrected = s.prep.corrected ∧
    (detect d s).prep.uncorrectable = s.prep.uncorrectable ∧ (detect d s).prep.retry = s.prep.retry ∧
    (detect d s).prep.range = s.prep.range ∧ (detect d s).scrub.fixList = s.scrub.fixList ∧
    (detect d s).scrub.position = s.scrub.position ∧ (detect d s).scrub.count = s.scrub.count ∧
    (detect d s).scrub.timer = s.scrub.timer ∧ (detect d s).scrub.inHand = s.scrub.inHand ∧
    (detect d s).scrub.cold = s.scrub.cold ∧ (detect d s).scrub.due = s.scrub.due ∧
    (detect d s).engine.submit = s.engine.submit ∧ (detect d s).engine.done = s.engine.done ∧
    (detect d s).engine.record = s.engine.record ∧ (detect d s).engine.faultPending = s.engine.faultPending := by
  unfold detect; (try dsimp only); (repeat' split) <;> simp

/-- The detections of one access (R27). -/
@[simp] theorem detectAll_frame (ds : List Detection) (s : State) :
    (detectAll ds s).loader = s.loader ∧ (detectAll ds s).ctl = s.ctl ∧ (detectAll ds s).clock = s.clock ∧
    (detectAll ds s).restarts = s.restarts ∧ (detectAll ds s).frontResponse = s.frontResponse ∧
    (detectAll ds s).windows = s.windows ∧ (detectAll ds s).port = s.port ∧ (detectAll ds s).mem = s.mem ∧
    (detectAll ds s).memEpoch = s.memEpoch ∧ (detectAll ds s).thermal = s.thermal ∧ (detectAll ds s).watch = s.watch ∧
    (detectAll ds s).dog = s.dog ∧ (detectAll ds s).trace = s.trace ∧ (detectAll ds s).keypad = s.keypad ∧
    (detectAll ds s).events = s.events ∧ (detectAll ds s).posting = s.posting ∧ (detectAll ds s).headers = s.headers ∧
    (detectAll ds s).lastUser = s.lastUser ∧ (detectAll ds s).resetInput = s.resetInput ∧
    (detectAll ds s).requests = s.requests ∧ (detectAll ds s).holdReleases = s.holdReleases ∧
    (detectAll ds s).outcomes = s.outcomes ∧ (detectAll ds s).watchReports = s.watchReports ∧
    (detectAll ds s).snoopReports = s.snoopReports ∧ (detectAll ds s).pending = s.pending ∧
    (detectAll ds s).repair.table = s.repair.table ∧ (detectAll ds s).repair.spent = s.repair.spent ∧
    (detectAll ds s).repair.completed = s.repair.completed ∧
    (detectAll ds s).repair.reRepaired = s.repair.reRepaired ∧ (detectAll ds s).repair.declined = s.repair.declined ∧
    (detectAll ds s).repair.abandoned = s.repair.abandoned ∧ (detectAll ds s).prep.activity = s.prep.activity ∧
    (detectAll ds s).prep.pass = s.prep.pass ∧ (detectAll ds s).prep.position = s.prep.position ∧
    (detectAll ds s).prep.step = s.prep.step ∧ (detectAll ds s).prep.corrected = s.prep.corrected ∧
    (detectAll ds s).prep.uncorrectable = s.prep.uncorrectable ∧ (detectAll ds s).prep.retry = s.prep.retry ∧
    (detectAll ds s).prep.range = s.prep.range ∧ (detectAll ds s).scrub.fixList = s.scrub.fixList ∧
    (detectAll ds s).scrub.position = s.scrub.position ∧ (detectAll ds s).scrub.count = s.scrub.count ∧
    (detectAll ds s).scrub.timer = s.scrub.timer ∧ (detectAll ds s).scrub.inHand = s.scrub.inHand ∧
    (detectAll ds s).scrub.cold = s.scrub.cold ∧ (detectAll ds s).scrub.due = s.scrub.due ∧
    (detectAll ds s).engine.submit = s.engine.submit ∧ (detectAll ds s).engine.done = s.engine.done ∧
    (detectAll ds s).engine.record = s.engine.record ∧ (detectAll ds s).engine.faultPending = s.engine.faultPending := by
  unfold detectAll; induction ds generalizing s with
  | nil => simp
  | cons d ds ih => simp only [List.foldl_cons]; have h := ih (detect d s); simp [h]

end Sys2Proof.Machine
end

