-- ==== Sys2Proof/Laws/Findings.lean ====
section
/-! SUPPORT. What the words of an access come to: the findings of a read-back word by word, and the carried places a write
clears; and that the bound on the groups the repair unit takes in one step cuts nothing off. -/

namespace Sys2Proof.Machine

/-! ## The words of a read -/

/-- The words of an access with their offsets, as a list over the places. -/
theorem offsetWords_eq (o : Nat) (ws : List MemWord) :
    offsetWords o ws = (List.range ws.length).map fun k => (o + 8 * k, ws.getD k (made 0)) := by
  induction ws generalizing o with
  | nil => rfl
  | cons w ws ih =>
    simp only [offsetWords, ih, List.length_cons, List.range_succ_eq_map, List.map_cons, List.map_map]
    congr 1
    apply List.map_congr_left
    intro k _
    have h : o + 8 * (k + 1) = o + 8 + 8 * k := by omega
    simp [h]

/-- Finding `k` compares word `k` with the pattern word of its own offset (R104, R108). -/
theorem findings_at (pass g : Nat) (ws : List MemWord) (k : Nat) : (findings pass g ws)[k]? =
    if k < 8 then (ws[k]?).map (compareWord (patternWord pass (g + 8 * k))) else none := by
  unfold findings patternWords
  rw [List.getElem?_map, List.zip_eq_zipWith, List.getElem?_zipWith, List.getElem?_map]
  by_cases h : k < 8
  · rw [List.getElem?_range h]; cases ws[k]? <;> simp [h]
  · rw [List.getElem?_eq_none (l := List.range 8) (by rw [List.length_range]; omega)]; cases ws[k]? <;> simp [h]

/-- The findings of at most a group's words, as a list over the places. -/
theorem findings_eq (pass g : Nat) (ws : List MemWord) (h : ws.length ≤ 8) : findings pass g ws =
    (List.range ws.length).map fun k => compareWord (patternWord pass (g + 8 * k)) (ws.getD k (made 0)) := by
  apply List.ext_getElem?
  intro k
  rw [findings_at, List.getElem?_map]
  by_cases hk : k < ws.length
  · rw [List.getElem?_range hk, if_pos (by omega)]; simp [List.getElem?_eq_getElem hk]
  · rw [List.getElem?_eq_none (by omega), List.getElem?_eq_none (l := List.range _) (by rw [List.length_range]; omega)]; simp

/-! ## Carried places -/

/-- The places that an access does not cover (R63). -/
theorem places_not_covered (a : Access) (k : Nat) (hk : k < 8) :
    (~~~a.places).getLsbD k = true ↔ ¬ (a.line = true ∨ k = a.offset % 64 / 8) := by
  have ho : a.offset % 64 / 8 < 8 := by omega
  unfold Access.places
  generalize a.offset % 64 / 8 = j at *
  cases a.line
  · simp; revert k j; decide
  · simp

/-- A write at HOME changes no carried place (R63). -/
theorem clearCarried_home (a : Access) (s : State) (h : a.loc = .home) : clearCarried a s = s := by
  simp [clearCarried, h]

/-- A write whose check bits the check unit did not make changes no carried place (R63). -/
theorem clearCarried_raw (a : Access) (s : State) (h : a.purpose.madeChecks = false) : clearCarried a s = s := by
  simp only [clearCarried, h]; split <;> simp

/-! ## The groups the repair unit takes in one step -/

/-- Whether a REPAIR-GROUP waits for room on the list. -/
def offersAgain (e : Engine) : Bool :=
  match e.state, e.work with
  | .waiting, .repairGroup _ false => true
  | _, _ => false

/-- The groups still to be taken: those on the list, and one offered again. -/
def groupsLeft (s : State) : Nat := s.repair.requests.length + (offersAgain s.engine).toNat

theorem groupsLeft_le (s : State) : groupsLeft s ≤ s.repair.requests.length + 2 := by
  have : (offersAgain s.engine).toNat ≤ 1 := by cases offersAgain s.engine <;> decide
  unfold groupsLeft; omega

theorem queueNotice_engine_repair (b : NoticeBody) (s : State) :
    (queueNotice b s).engine = s.engine ∧ (queueNotice b s).repair = s.repair := by
  unfold queueNotice; dsimp only; (repeat' split) <;> exact ⟨rfl, rfl⟩

/-- An outcome leaves no more groups to be taken. -/
theorem groupsLeft_reportOutcome (n : RepairNotice) (s : State) : groupsLeft (reportOutcome n s) ≤ groupsLeft s := by
  obtain ⟨h1, h2⟩ := queueNotice_engine_repair (.repair n) s
  unfold reportOutcome groupsLeft
  dsimp only
  split
  · rw [show (completeCommand Status.done (repairResults n) (queueNotice (.repair n) s)).repair = s.repair from h2]
    exact Nat.le_add_right _ _
  · exact Nat.le_of_eq (by rw [h1, h2])

/-- A group offered again is taken from the one that waited. -/
theorem groupsLeft_reoffer (s : State) : groupsLeft (reoffer s) ≤ groupsLeft s := by
  unfold reoffer
  split
  · rename_i g hg
    split
    · exact Nat.le_refl _
    · rename_i hst
      have hst : s.engine.state = .waiting := by simpa using hst
      have ho : offersAgain s.engine = true := by simp [offersAgain, hg, hst]
      dsimp only
      split
      · simp [groupsLeft, offersAgain, hst]
      · split
        · simp [groupsLeft, ho]; simp [offersAgain, hst]
        · exact Nat.le_refl _
  · exact Nat.le_refl _

/-- The groups left after a refusal: one fewer than with the refused group on the list. -/
theorem groupsLeft_refused (g : Nat) (rest : List Nat) (s : State) :
    groupsLeft (reoffer (refuseFull g { s with repair := { s.repair with requests := rest } })) ≤
      rest.length + (offersAgain s.engine).toNat := by
  refine Nat.le_trans (groupsLeft_reoffer _) ?_
  unfold refuseFull
  exact groupsLeft_reportOutcome _ _

/-- Any bound that reaches the groups left gives the same result, so `nextMigration`'s bound cuts nothing off. -/
theorem startMigrations_enough (n m : Nat) (s : State) (hn : groupsLeft s ≤ n) (hm : groupsLeft s ≤ m) :
    startMigrations n s = startMigrations m s := by
  have hnil : groupsLeft s ≤ 0 → s.repair.requests = [] := fun h =>
    List.eq_nil_of_length_eq_zero (by unfold groupsLeft at h; omega)
  induction n generalizing m s with
  | zero => cases m <;> simp [startMigrations, hnil hn]
  | succ n ih =>
    cases m with
    | zero => simp [startMigrations, hnil hm]
    | succ m =>
      unfold startMigrations
      split
      · rfl
      · split
        · rfl
        · rename_i g rest hreq
          dsimp only
          split
          · have hle : groupsLeft (reoffer (refuseFull g { s with repair := { s.repair with requests := rest } })) + 1 ≤
                groupsLeft s := by
              have h := groupsLeft_refused g rest s
              have : groupsLeft s = rest.length + 1 + (offersAgain s.engine).toNat := by simp [groupsLeft, hreq]
              omega
            exact ih _ _ (Nat.le_of_succ_le_succ (Nat.le_trans hle hn)) (Nat.le_of_succ_le_succ (Nat.le_trans hle hm))
              fun h => List.eq_nil_of_length_eq_zero (by unfold groupsLeft at h; omega)
          · rfl

end Sys2Proof.Machine
end

