-- ==== Sys2Proof/Laws/Formats.lean ====
section
/-! SUPPORT. The result formats, the taking of a command that is handed over, and the validation of a setting image: what
each operation gives. -/

namespace Sys2Proof.Machine

/-! ## Results -/

@[simp] theorem le_length (n v : Nat) : (le n v).length = n := by simp [le]

theorem le_one (v : Nat) : le 1 v = [BitVec.ofNat 8 v] := by simp [le]

theorem byteField_eq (v : Nat) : byteField v = [BitVec.ofNat 8 v] := le_one v

theorem optField_one (v : Option Nat) :
    optField 1 v = [match v with | some v => BitVec.ofNat 8 v | none => 0xFF] := by
  cases v <;> simp [optField, le]

/-- A command that is handed over is taken by its owner. -/
theorem taking_handed (c : CommandCode) (k : State → State) (s : State) (h : s.handed c) :
    taking c k s = .next (finish (k s)) := by
  obtain ⟨executing, work⟩ := h
  simp [taking, executing, work]

/-- A command that is not handed over is not taken. -/
theorem taking_not_handed (c : CommandCode) (k : State → State) (s : State) (h : ¬ s.handed c) :
    taking c k s = .next s := if_neg h

/-- The results of STATUS, field by field. -/
theorem statusResults_fields (s : State) :
    statusResults s =
      [BitVec.ofNat 8 s.ctl.regime.code, if s.ctl.sessionForced then 1 else 0, if s.ctl.sessionDoubtful then 1 else 0,
        if s.loader.defaultsFlag then 1 else 0, if s.loader.partialFlag then 1 else 0, BitVec.ofNat 8 s.dog.state.code,
        BitVec.ofNat 8 s.engine.state.code, if s.engine.faultPending then 1 else 0, BitVec.ofNat 8 s.events.state.code,
        BitVec.ofNat 8 s.queue.length, s.missed] ++
      le 4 s.log.corrected.toNat ++ le 4 s.log.reported.toNat ++ le 4 s.log.uncorrectable.toNat ++
      le 4 s.log.overflow.toNat ++
      [BitVec.ofNat 8 s.repair.table.length, BitVec.ofNat 8 s.repair.free.length, BitVec.ofNat 8 s.repair.spent.length] ++
      le 4 s.scrub.position ++ le 4 s.scrub.count.toNat ++
      [BitVec.ofNat 8 s.restarts.coldCount, BitVec.ofNat 8 s.restarts.escalation.length] ++
      le 4 s.clock.uptime.toNat ++ le 4 s.clock.session.toNat := by
  unfold statusResults
  simp only [byteField_eq, flagField, bitsField, List.append_assoc, List.cons_append, List.nil_append]

/-! ## The checks of single fields (R195) -/

theorem inRange_spec (v lo hi dflt : Nat) :
    (lo ≤ v ∧ v ≤ hi → inRange v lo hi dflt = (v, false)) ∧
    (¬ (lo ≤ v ∧ v ≤ hi) → inRange v lo hi dflt = (dflt, true)) :=
  ⟨fun h => if_pos h, fun h => if_neg h⟩

theorem tempRange_spec (t dflt : Int) :
    (-110 ≤ t ∧ t ≤ 250 → tempRange t dflt = (t, false)) ∧
    (¬ (-110 ≤ t ∧ t ≤ 250) → tempRange t dflt = (dflt, true)) :=
  ⟨fun h => if_pos h, fun h => if_neg h⟩

theorem yesNo_spec (v : Nat) (dflt : Bool) :
    (v ≤ 1 → (yesNo v dflt).1.toNat = v ∧ (yesNo v dflt).2 = false) ∧ (1 < v → yesNo v dflt = (dflt, true)) := by
  match v with
  | 0 => simp [yesNo, boolOfCode]
  | 1 => simp [yesNo, boolOfCode]
  | n + 2 => simp [yesNo, boolOfCode]

theorem oneOf_spec (v dflt : Nat) (values : List Nat) :
    (v ∈ values → oneOf v values dflt = (v, false)) ∧ (v ∉ values → oneOf v values dflt = (dflt, true)) := by
  constructor <;> intro h <;> simp [oneOf, h]

/-! ## The checks across fields (R195, R134, R100) -/

/-- The checks across fields change MIN_INTERVAL, POWER_BUDGET and BOARD_DRAW alone, and keep a PARTIAL already set. -/
theorem crossChecks_frame (x : Checked Settings) :
    (crossChecks x).1 = { x.1 with
      minInterval := (crossChecks x).1.minInterval, powerBudget := (crossChecks x).1.powerBudget
      boardDraw := (crossChecks x).1.boardDraw } ∧
    (x.2 = true → (crossChecks x).2 = true) := by
  unfold crossChecks
  by_cases h : x.1.minInterval ≤ x.1.period / 2 <;> simp only [h, if_true, if_false] <;> (split; · simp) <;>
    split <;> simp

theorem crossChecks_values (x : Checked Settings) :
    (x.1.minInterval ≤ x.1.period / 2 → (crossChecks x).1.minInterval = x.1.minInterval) ∧
    (x.1.period / 2 < x.1.minInterval → (crossChecks x).1.minInterval = 0 ∧ (crossChecks x).2 = true) ∧
    (x.1.boardDraw ≤ x.1.powerBudget →
      (crossChecks x).1.powerBudget = x.1.powerBudget ∧ (crossChecks x).1.boardDraw = x.1.boardDraw) ∧
    (x.1.powerBudget < x.1.boardDraw →
      (crossChecks x).1.powerBudget = 60 ∧
      (crossChecks x).1.boardDraw = (if x.1.boardDraw ≤ 60 then x.1.boardDraw else 25) ∧ (crossChecks x).2 = true) := by
  unfold crossChecks
  by_cases h : x.1.minInterval ≤ x.1.period / 2 <;> by_cases h2 : x.1.boardDraw ≤ x.1.powerBudget <;>
    by_cases h3 : x.1.boardDraw ≤ 60 <;> simp [h, h2, h3, builtIn] <;> omega

/-- The ring sizes' check changes the two ring sizes alone, and keeps a PARTIAL already set. -/
theorem ringSizes_frame (x : Checked Settings) :
    (ringSizes x).1 = { x.1 with
      cmdRingSlots := (ringSizes x).1.cmdRingSlots, eventRingEntries := (ringSizes x).1.eventRingEntries } ∧
    (x.2 = true → (ringSizes x).2 = true) := by
  unfold ringSizes
  cases ringIn x.1.windows .commandRing with
  | none =>
    simp only []
    cases ringIn x.1.windows .eventRing with
    | none => simp
    | some w => simp only []; split <;> simp
  | some w =>
    simp only []
    by_cases h : commandRingBytes x.1.cmdRingSlots ≤ w.size <;> simp only [h, if_true, if_false] <;>
      cases ringIn x.1.windows .eventRing with
      | none => simp
      | some w => simp only []; split <;> simp

/-- The loaded copy and PARTIAL in terms of the parts of the image. -/
theorem validate_parts (b : List Byte) (straps : Nat) :
    let g := crossChecks (globalFields b straps)
    let windows := windowEntries b (g.1.memSize - 2048) 16
    let rings := ringSizes ({ g.1 with windows := windows.1 }, windows.2)
    let channels := collect ((List.range 4).map (channelEntry b))
    let watches := collect ((List.range 8).map (watchEntry b (g.1.memSize - 2048)))
    let keys := collect ((List.range 64).map (keyEntry b))
    let chords := chordEntries b g.1.rows g.1.cols 4
    (validate b straps).1 = { rings.1 with
      channels := channels.1, watches := watches.1, keys := keys.1, chords := chords.1 } ∧
    (validate b straps).2 = (g.2 || channels.2 || rings.2 || watches.2 || keys.2 || chords.2) := by
  simp only [validate, and_self]

end Sys2Proof.Machine
end

