-- ==== Sys2Proof/Laws/Regime.lean ====
section
/-! SUPPORT. The operations of the board control unit and the thermal unit: what each leaves as it was. -/

namespace Sys2Proof.Machine

/-- The heaters decided afresh (R97 to R99). -/
@[simp] theorem evalHeaters_frame (s : State) :
    (evalHeaters s).loader = s.loader ∧ (evalHeaters s).ctl = s.ctl ∧ (evalHeaters s).clock = s.clock ∧
    (evalHeaters s).lamp = s.lamp ∧ (evalHeaters s).restarts = s.restarts ∧ (evalHeaters s).front = s.front ∧
    (evalHeaters s).frontResponse = s.frontResponse ∧ (evalHeaters s).windows = s.windows ∧
    (evalHeaters s).port = s.port ∧ (evalHeaters s).arbiter = s.arbiter ∧ (evalHeaters s).mem = s.mem ∧
    (evalHeaters s).memEpoch = s.memEpoch ∧ (evalHeaters s).log = s.log ∧ (evalHeaters s).scrub = s.scrub ∧
    (evalHeaters s).repair = s.repair ∧ (evalHeaters s).prep = s.prep ∧ (evalHeaters s).watch = s.watch ∧
    (evalHeaters s).dog = s.dog ∧ (evalHeaters s).trace = s.trace ∧ (evalHeaters s).keypad = s.keypad ∧
    (evalHeaters s).engine = s.engine ∧ (evalHeaters s).events = s.events ∧ (evalHeaters s).posting = s.posting ∧
    (evalHeaters s).queue = s.queue ∧ (evalHeaters s).missed = s.missed ∧ (evalHeaters s).headers = s.headers ∧
    (evalHeaters s).lastUser = s.lastUser ∧ (evalHeaters s).resetInput = s.resetInput ∧
    (evalHeaters s).requests = s.requests ∧ (evalHeaters s).holdReleases = s.holdReleases ∧
    (evalHeaters s).outcomes = s.outcomes ∧ (evalHeaters s).watchReports = s.watchReports ∧
    (evalHeaters s).snoopReports = s.snoopReports ∧ (evalHeaters s).freeCount = s.freeCount ∧
    (evalHeaters s).pending = s.pending ∧ (evalHeaters s).thermal.channels = s.thermal.channels ∧
    (evalHeaters s).thermal.polling = s.thermal.polling ∧ (evalHeaters s).thermal.pollTimer = s.thermal.pollTimer ∧
    (evalHeaters s).thermal.readiness = s.thermal.readiness := by
  simp [evalHeaters]

/-- The front port as the regime leaves RUNNING (R14). -/
@[simp] theorem frontLeave_frame (s : State) :
    (frontLeave s).loader = s.loader ∧ (frontLeave s).ctl = s.ctl ∧ (frontLeave s).clock = s.clock ∧
    (frontLeave s).lamp = s.lamp ∧ (frontLeave s).restarts = s.restarts ∧
    (frontLeave s).frontResponse = s.frontResponse ∧ (frontLeave s).windows = s.windows ∧
    (frontLeave s).port = s.port ∧ (frontLeave s).mem = s.mem ∧ (frontLeave s).memEpoch = s.memEpoch ∧
    (frontLeave s).log = s.log ∧ (frontLeave s).scrub = s.scrub ∧ (frontLeave s).repair = s.repair ∧
    (frontLeave s).prep = s.prep ∧ (frontLeave s).thermal = s.thermal ∧ (frontLeave s).watch = s.watch ∧
    (frontLeave s).dog = s.dog ∧ (frontLeave s).trace = s.trace ∧ (frontLeave s).keypad = s.keypad ∧
    (frontLeave s).engine = s.engine ∧ (frontLeave s).events = s.events ∧ (frontLeave s).posting = s.posting ∧
    (frontLeave s).queue = s.queue ∧ (frontLeave s).missed = s.missed ∧ (frontLeave s).headers = s.headers ∧
    (frontLeave s).lastUser = s.lastUser ∧ (frontLeave s).resetInput = s.resetInput ∧
    (frontLeave s).requests = s.requests ∧ (frontLeave s).holdReleases = s.holdReleases ∧
    (frontLeave s).outcomes = s.outcomes ∧ (frontLeave s).watchReports = s.watchReports ∧
    (frontLeave s).snoopReports = s.snoopReports ∧ (frontLeave s).freeCount = s.freeCount ∧
    (frontLeave s).pending = s.pending := by
  unfold frontLeave; (try dsimp only); (repeat' split) <;> simp

/-- The port as the regime leaves RUNNING (R14). -/
@[simp] theorem portLeave_frame (s : State) :
    (portLeave s).loader = s.loader ∧ (portLeave s).ctl = s.ctl ∧ (portLeave s).clock = s.clock ∧
    (portLeave s).lamp = s.lamp ∧ (portLeave s).restarts = s.restarts ∧ (portLeave s).front = s.front ∧
    (portLeave s).frontResponse = s.frontResponse ∧ (portLeave s).windows = s.windows ∧
    (portLeave s).arbiter = s.arbiter ∧ (portLeave s).mem = s.mem ∧ (portLeave s).memEpoch = s.memEpoch ∧
    (portLeave s).log = s.log ∧ (portLeave s).scrub = s.scrub ∧ (portLeave s).repair = s.repair ∧
    (portLeave s).prep = s.prep ∧ (portLeave s).thermal = s.thermal ∧ (portLeave s).watch = s.watch ∧
    (portLeave s).dog = s.dog ∧ (portLeave s).trace = s.trace ∧ (portLeave s).keypad = s.keypad ∧
    (portLeave s).engine = s.engine ∧ (portLeave s).events = s.events ∧ (portLeave s).posting = s.posting ∧
    (portLeave s).queue = s.queue ∧ (portLeave s).missed = s.missed ∧ (portLeave s).headers = s.headers ∧
    (portLeave s).lastUser = s.lastUser ∧ (portLeave s).resetInput = s.resetInput ∧
    (portLeave s).requests = s.requests ∧ (portLeave s).holdReleases = s.holdReleases ∧
    (portLeave s).outcomes = s.outcomes ∧ (portLeave s).watchReports = s.watchReports ∧
    (portLeave s).snoopReports = s.snoopReports ∧ (portLeave s).freeCount = s.freeCount ∧
    (portLeave s).pending = s.pending := by
  unfold portLeave; (try dsimp only); (repeat' split) <;> simp

/-- The watch table as the regime leaves RUNNING (R126). -/
@[simp] theorem watchLeave_frame (s : State) :
    (watchLeave s).loader = s.loader ∧ (watchLeave s).ctl = s.ctl ∧ (watchLeave s).clock = s.clock ∧
    (watchLeave s).lamp = s.lamp ∧ (watchLeave s).restarts = s.restarts ∧ (watchLeave s).front = s.front ∧
    (watchLeave s).frontResponse = s.frontResponse ∧ (watchLeave s).windows = s.windows ∧
    (watchLeave s).port = s.port ∧ (watchLeave s).arbiter = s.arbiter ∧ (watchLeave s).mem = s.mem ∧
    (watchLeave s).memEpoch = s.memEpoch ∧ (watchLeave s).log = s.log ∧ (watchLeave s).scrub = s.scrub ∧
    (watchLeave s).repair = s.repair ∧ (watchLeave s).prep = s.prep ∧ (watchLeave s).thermal = s.thermal ∧
    (watchLeave s).dog = s.dog ∧ (watchLeave s).trace = s.trace ∧ (watchLeave s).keypad = s.keypad ∧
    (watchLeave s).engine = s.engine ∧ (watchLeave s).events = s.events ∧ (watchLeave s).posting = s.posting ∧
    (watchLeave s).queue = s.queue ∧ (watchLeave s).missed = s.missed ∧ (watchLeave s).headers = s.headers ∧
    (watchLeave s).lastUser = s.lastUser ∧ (watchLeave s).resetInput = s.resetInput ∧
    (watchLeave s).requests = s.requests ∧ (watchLeave s).holdReleases = s.holdReleases ∧
    (watchLeave s).outcomes = s.outcomes ∧ (watchLeave s).watchReports = s.watchReports ∧
    (watchLeave s).snoopReports = s.snoopReports ∧ (watchLeave s).freeCount = s.freeCount ∧
    (watchLeave s).pending = s.pending ∧ (watchLeave s).watch.lastStage = s.watch.lastStage ∧
    (watchLeave s).watch.violations = s.watch.violations := by
  unfold watchLeave; (try dsimp only); (repeat' split) <;> simp

/-- The watchdog as the regime leaves RUNNING (R135). -/
@[simp] theorem dogLeave_frame (s : State) :
    (dogLeave s).loader = s.loader ∧ (dogLeave s).ctl = s.ctl ∧ (dogLeave s).clock = s.clock ∧
    (dogLeave s).lamp = s.lamp ∧ (dogLeave s).restarts = s.restarts ∧ (dogLeave s).front = s.front ∧
    (dogLeave s).frontResponse = s.frontResponse ∧ (dogLeave s).windows = s.windows ∧ (dogLeave s).port = s.port ∧
    (dogLeave s).arbiter = s.arbiter ∧ (dogLeave s).mem = s.mem ∧ (dogLeave s).memEpoch = s.memEpoch ∧
    (dogLeave s).log = s.log ∧ (dogLeave s).scrub = s.scrub ∧ (dogLeave s).repair = s.repair ∧
    (dogLeave s).prep = s.prep ∧ (dogLeave s).thermal = s.thermal ∧ (dogLeave s).watch = s.watch ∧
    (dogLeave s).trace = s.trace ∧ (dogLeave s).keypad = s.keypad ∧ (dogLeave s).engine = s.engine ∧
    (dogLeave s).events = s.events ∧ (dogLeave s).posting = s.posting ∧ (dogLeave s).queue = s.queue ∧
    (dogLeave s).missed = s.missed ∧ (dogLeave s).headers = s.headers ∧ (dogLeave s).lastUser = s.lastUser ∧
    (dogLeave s).resetInput = s.resetInput ∧ (dogLeave s).requests = s.requests ∧
    (dogLeave s).holdReleases = s.holdReleases ∧ (dogLeave s).outcomes = s.outcomes ∧
    (dogLeave s).watchReports = s.watchReports ∧ (dogLeave s).snoopReports = s.snoopReports ∧
    (dogLeave s).freeCount = s.freeCount ∧ (dogLeave s).pending = s.pending ∧
    (dogLeave s).dog.reference = s.dog.reference ∧ (dogLeave s).dog.period = s.dog.period ∧
    (dogLeave s).dog.warnWindow = s.dog.warnWindow ∧ (dogLeave s).dog.minInterval = s.dog.minInterval ∧
    (dogLeave s).dog.warnings = s.dog.warnings := by
  unfold dogLeave; (try dsimp only); (repeat' split) <;> simp

/-- The mailbox unit as the regime leaves RUNNING (R184, R191). -/
@[simp] theorem mailboxLeave_frame (s : State) :
    (mailboxLeave s).loader = s.loader ∧ (mailboxLeave s).ctl = s.ctl ∧ (mailboxLeave s).clock = s.clock ∧
    (mailboxLeave s).lamp = s.lamp ∧ (mailboxLeave s).restarts = s.restarts ∧ (mailboxLeave s).front = s.front ∧
    (mailboxLeave s).frontResponse = s.frontResponse ∧ (mailboxLeave s).windows = s.windows ∧
    (mailboxLeave s).port = s.port ∧ (mailboxLeave s).mem = s.mem ∧ (mailboxLeave s).memEpoch = s.memEpoch ∧
    (mailboxLeave s).log = s.log ∧ (mailboxLeave s).scrub = s.scrub ∧ (mailboxLeave s).repair = s.repair ∧
    (mailboxLeave s).prep = s.prep ∧ (mailboxLeave s).thermal = s.thermal ∧ (mailboxLeave s).watch = s.watch ∧
    (mailboxLeave s).dog = s.dog ∧ (mailboxLeave s).trace = s.trace ∧ (mailboxLeave s).keypad = s.keypad ∧
    (mailboxLeave s).events = s.events ∧ (mailboxLeave s).headers = s.headers ∧
    (mailboxLeave s).lastUser = s.lastUser ∧ (mailboxLeave s).resetInput = s.resetInput ∧
    (mailboxLeave s).requests = s.requests ∧ (mailboxLeave s).holdReleases = s.holdReleases ∧
    (mailboxLeave s).outcomes = s.outcomes ∧ (mailboxLeave s).watchReports = s.watchReports ∧
    (mailboxLeave s).snoopReports = s.snoopReports ∧ (mailboxLeave s).freeCount = s.freeCount ∧
    (mailboxLeave s).pending = s.pending ∧ (mailboxLeave s).engine.submit = s.engine.submit ∧
    (mailboxLeave s).engine.done = s.engine.done := by
  simp [mailboxLeave]

/-- The keypad scanner as the regime leaves RUNNING (R168). -/
@[simp] theorem keypadLeave_frame (s : State) :
    (keypadLeave s).loader = s.loader ∧ (keypadLeave s).ctl = s.ctl ∧ (keypadLeave s).clock = s.clock ∧
    (keypadLeave s).lamp = s.lamp ∧ (keypadLeave s).restarts = s.restarts ∧ (keypadLeave s).front = s.front ∧
    (keypadLeave s).frontResponse = s.frontResponse ∧ (keypadLeave s).windows = s.windows ∧
    (keypadLeave s).port = s.port ∧ (keypadLeave s).arbiter = s.arbiter ∧ (keypadLeave s).mem = s.mem ∧
    (keypadLeave s).memEpoch = s.memEpoch ∧ (keypadLeave s).log = s.log ∧ (keypadLeave s).scrub = s.scrub ∧
    (keypadLeave s).repair = s.repair ∧ (keypadLeave s).prep = s.prep ∧ (keypadLeave s).thermal = s.thermal ∧
    (keypadLeave s).watch = s.watch ∧ (keypadLeave s).dog = s.dog ∧ (keypadLeave s).trace = s.trace ∧
    (keypadLeave s).engine = s.engine ∧ (keypadLeave s).events = s.events ∧ (keypadLeave s).posting = s.posting ∧
    (keypadLeave s).queue = s.queue ∧ (keypadLeave s).missed = s.missed ∧ (keypadLeave s).headers = s.headers ∧
    (keypadLeave s).lastUser = s.lastUser ∧ (keypadLeave s).resetInput = s.resetInput ∧
    (keypadLeave s).requests = s.requests ∧ (keypadLeave s).holdReleases = s.holdReleases ∧
    (keypadLeave s).outcomes = s.outcomes ∧ (keypadLeave s).watchReports = s.watchReports ∧
    (keypadLeave s).snoopReports = s.snoopReports ∧ (keypadLeave s).freeCount = s.freeCount ∧
    (keypadLeave s).pending = s.pending ∧ (keypadLeave s).keypad.map = s.keypad.map ∧
    (keypadLeave s).keypad.chords = s.keypad.chords ∧ (keypadLeave s).keypad.coldDebounce = s.keypad.coldDebounce ∧
    (keypadLeave s).keypad.scanTimer = s.keypad.scanTimer := by
  unfold keypadLeave; (try dsimp only); (repeat' split) <;> simp

/-- A CHECK-RANGE as the regime leaves RUNNING (R116). -/
@[simp] theorem checkLeave_frame (s : State) :
    (checkLeave s).loader = s.loader ∧ (checkLeave s).ctl = s.ctl ∧ (checkLeave s).clock = s.clock ∧
    (checkLeave s).lamp = s.lamp ∧ (checkLeave s).restarts = s.restarts ∧ (checkLeave s).front = s.front ∧
    (checkLeave s).frontResponse = s.frontResponse ∧ (checkLeave s).windows = s.windows ∧
    (checkLeave s).port = s.port ∧ (checkLeave s).mem = s.mem ∧ (checkLeave s).memEpoch = s.memEpoch ∧
    (checkLeave s).log = s.log ∧ (checkLeave s).scrub = s.scrub ∧ (checkLeave s).repair = s.repair ∧
    (checkLeave s).thermal = s.thermal ∧ (checkLeave s).watch = s.watch ∧ (checkLeave s).dog = s.dog ∧
    (checkLeave s).trace = s.trace ∧ (checkLeave s).keypad = s.keypad ∧ (checkLeave s).engine = s.engine ∧
    (checkLeave s).events = s.events ∧ (checkLeave s).posting = s.posting ∧ (checkLeave s).queue = s.queue ∧
    (checkLeave s).missed = s.missed ∧ (checkLeave s).headers = s.headers ∧ (checkLeave s).lastUser = s.lastUser ∧
    (checkLeave s).resetInput = s.resetInput ∧ (checkLeave s).requests = s.requests ∧
    (checkLeave s).holdReleases = s.holdReleases ∧ (checkLeave s).outcomes = s.outcomes ∧
    (checkLeave s).watchReports = s.watchReports ∧ (checkLeave s).snoopReports = s.snoopReports ∧
    (checkLeave s).freeCount = s.freeCount ∧ (checkLeave s).pending = s.pending := by
  unfold checkLeave; (try dsimp only); (repeat' split) <;> simp

/-- The reports as the regime leaves RUNNING (R119). -/
@[simp] theorem reportsLeave_frame (s : State) :
    (reportsLeave s).loader = s.loader ∧ (reportsLeave s).ctl = s.ctl ∧ (reportsLeave s).clock = s.clock ∧
    (reportsLeave s).lamp = s.lamp ∧ (reportsLeave s).restarts = s.restarts ∧ (reportsLeave s).front = s.front ∧
    (reportsLeave s).frontResponse = s.frontResponse ∧ (reportsLeave s).windows = s.windows ∧
    (reportsLeave s).port = s.port ∧ (reportsLeave s).arbiter = s.arbiter ∧ (reportsLeave s).mem = s.mem ∧
    (reportsLeave s).memEpoch = s.memEpoch ∧ (reportsLeave s).log = s.log ∧ (reportsLeave s).scrub = s.scrub ∧
    (reportsLeave s).repair = s.repair ∧ (reportsLeave s).prep = s.prep ∧ (reportsLeave s).thermal = s.thermal ∧
    (reportsLeave s).watch = s.watch ∧ (reportsLeave s).dog = s.dog ∧ (reportsLeave s).trace = s.trace ∧
    (reportsLeave s).keypad = s.keypad ∧ (reportsLeave s).engine = s.engine ∧ (reportsLeave s).events = s.events ∧
    (reportsLeave s).posting = s.posting ∧ (reportsLeave s).queue = s.queue ∧ (reportsLeave s).missed = s.missed ∧
    (reportsLeave s).headers = s.headers ∧ (reportsLeave s).lastUser = s.lastUser ∧
    (reportsLeave s).resetInput = s.resetInput ∧ (reportsLeave s).requests = s.requests ∧
    (reportsLeave s).holdReleases = s.holdReleases ∧ (reportsLeave s).outcomes = s.outcomes ∧
    (reportsLeave s).freeCount = s.freeCount ∧ (reportsLeave s).pending = s.pending := by
  unfold reportsLeave; (try dsimp only); (repeat' split) <;> simp

/-- What leaving RUNNING keeps. -/
@[simp] theorem leaveRunning_frame (s : State) :
    (leaveRunning s).loader = s.loader ∧ (leaveRunning s).ctl = s.ctl ∧ (leaveRunning s).clock = s.clock ∧
    (leaveRunning s).lamp = s.lamp ∧ (leaveRunning s).restarts = s.restarts ∧
    (leaveRunning s).frontResponse = s.frontResponse ∧ (leaveRunning s).windows = s.windows ∧
    (leaveRunning s).mem = s.mem ∧ (leaveRunning s).memEpoch = s.memEpoch ∧ (leaveRunning s).log = s.log ∧
    (leaveRunning s).scrub = s.scrub ∧ (leaveRunning s).repair = s.repair ∧ (leaveRunning s).thermal = s.thermal ∧
    (leaveRunning s).trace = s.trace ∧ (leaveRunning s).events = s.events ∧ (leaveRunning s).headers = s.headers ∧
    (leaveRunning s).lastUser = s.lastUser ∧ (leaveRunning s).resetInput = s.resetInput ∧
    (leaveRunning s).requests = s.requests ∧ (leaveRunning s).holdReleases = s.holdReleases ∧
    (leaveRunning s).outcomes = s.outcomes ∧ (leaveRunning s).freeCount = s.freeCount ∧
    (leaveRunning s).pending = s.pending ∧ (leaveRunning s).keypad.map = s.keypad.map ∧
    (leaveRunning s).keypad.chords = s.keypad.chords ∧ (leaveRunning s).keypad.coldDebounce = s.keypad.coldDebounce ∧
    (leaveRunning s).keypad.scanTimer = s.keypad.scanTimer ∧ (leaveRunning s).dog.reference = s.dog.reference ∧
    (leaveRunning s).dog.period = s.dog.period ∧ (leaveRunning s).dog.warnWindow = s.dog.warnWindow ∧
    (leaveRunning s).dog.minInterval = s.dog.minInterval ∧ (leaveRunning s).dog.warnings = s.dog.warnings ∧
    (leaveRunning s).watch.lastStage = s.watch.lastStage ∧ (leaveRunning s).watch.violations = s.watch.violations ∧
    (leaveRunning s).engine.submit = s.engine.submit ∧ (leaveRunning s).engine.done = s.engine.done := by
  simp [leaveRunning]

/-- What the loss of board power keeps (R73). -/
@[simp] theorem losePower_frame (s : State) :
    (losePower s).loader = s.loader ∧ (losePower s).clock = s.clock ∧ (losePower s).lamp = s.lamp ∧
    (losePower s).restarts = s.restarts ∧ (losePower s).frontResponse = s.frontResponse ∧
    (losePower s).windows = s.windows ∧ (losePower s).log = s.log ∧ (losePower s).prep = s.prep ∧
    (losePower s).thermal = s.thermal ∧ (losePower s).watch = s.watch ∧ (losePower s).dog = s.dog ∧
    (losePower s).trace = s.trace ∧ (losePower s).keypad = s.keypad ∧ (losePower s).engine = s.engine ∧
    (losePower s).events = s.events ∧ (losePower s).posting = s.posting ∧ (losePower s).queue = s.queue ∧
    (losePower s).missed = s.missed ∧ (losePower s).lastUser = s.lastUser ∧ (losePower s).resetInput = s.resetInput ∧
    (losePower s).requests = s.requests ∧ (losePower s).holdReleases = s.holdReleases ∧
    (losePower s).outcomes = s.outcomes ∧ (losePower s).watchReports = s.watchReports ∧
    (losePower s).snoopReports = s.snoopReports ∧ (losePower s).freeCount = s.freeCount ∧
    (losePower s).pending = s.pending ∧ (losePower s).ctl.regime = s.ctl.regime ∧
    (losePower s).ctl.power = s.ctl.power ∧ (losePower s).ctl.processorReset = s.ctl.processorReset ∧
    (losePower s).ctl.pendingForced = s.ctl.pendingForced ∧
    (losePower s).ctl.pendingDoubtful = s.ctl.pendingDoubtful ∧
    (losePower s).ctl.sessionForced = s.ctl.sessionForced ∧
    (losePower s).ctl.sessionDoubtful = s.ctl.sessionDoubtful ∧ (losePower s).ctl.heatLimit = s.ctl.heatLimit ∧
    (losePower s).ctl.soak = s.ctl.soak ∧ (losePower s).ctl.off = s.ctl.off ∧ (losePower s).ctl.pulse = s.ctl.pulse ∧
    (losePower s).scrub.count = s.scrub.count ∧ (losePower s).scrub.cold = s.scrub.cold ∧
    (losePower s).repair.table = s.repair.table ∧ (losePower s).repair.spent = s.repair.spent ∧
    (losePower s).repair.completed = s.repair.completed ∧ (losePower s).repair.reRepaired = s.repair.reRepaired ∧
    (losePower s).repair.refused = s.repair.refused ∧ (losePower s).repair.declined = s.repair.declined ∧
    (losePower s).repair.dropped = s.repair.dropped := by
  simp [losePower]

/-- A change of regime at the preparation engine (R105, R112). -/
@[simp] theorem prepNews_frame (old new : Regime) (s : State) :
    (prepNews old new s).loader = s.loader ∧ (prepNews old new s).ctl = s.ctl ∧ (prepNews old new s).clock = s.clock ∧
    (prepNews old new s).lamp = s.lamp ∧ (prepNews old new s).restarts = s.restarts ∧
    (prepNews old new s).front = s.front ∧ (prepNews old new s).frontResponse = s.frontResponse ∧
    (prepNews old new s).windows = s.windows ∧ (prepNews old new s).port = s.port ∧ (prepNews old new s).mem = s.mem ∧
    (prepNews old new s).memEpoch = s.memEpoch ∧ (prepNews old new s).log = s.log ∧
    (prepNews old new s).scrub = s.scrub ∧ (prepNews old new s).repair = s.repair ∧
    (prepNews old new s).thermal = s.thermal ∧ (prepNews old new s).watch = s.watch ∧
    (prepNews old new s).dog = s.dog ∧ (prepNews old new s).trace = s.trace ∧ (prepNews old new s).keypad = s.keypad ∧
    (prepNews old new s).events = s.events ∧ (prepNews old new s).posting = s.posting ∧
    (prepNews old new s).queue = s.queue ∧ (prepNews old new s).missed = s.missed ∧
    (prepNews old new s).headers = s.headers ∧ (prepNews old new s).lastUser = s.lastUser ∧
    (prepNews old new s).resetInput = s.resetInput ∧ (prepNews old new s).requests = s.requests ∧
    (prepNews old new s).holdReleases = s.holdReleases ∧ (prepNews old new s).outcomes = s.outcomes ∧
    (prepNews old new s).watchReports = s.watchReports ∧ (prepNews old new s).snoopReports = s.snoopReports ∧
    (prepNews old new s).freeCount = s.freeCount ∧ (prepNews old new s).pending = s.pending ∧
    (prepNews old new s).engine.submit = s.engine.submit ∧ (prepNews old new s).engine.done = s.engine.done ∧
    (prepNews old new s).engine.record = s.engine.record ∧
    (prepNews old new s).engine.faultPending = s.engine.faultPending ∧
    (prepNews old new s).engine.work = s.engine.work := by
  unfold prepNews; (try dsimp only); (repeat' split) <;> simp

/-- What a change of regime keeps (R71). -/
@[simp] theorem changeRegime_frame (new : Regime) (s : State) :
    (changeRegime new s).loader = s.loader ∧ (changeRegime new s).restarts = s.restarts ∧
    (changeRegime new s).frontResponse = s.frontResponse ∧ (changeRegime new s).windows = s.windows ∧
    (changeRegime new s).events = s.events ∧ (changeRegime new s).lastUser = s.lastUser ∧
    (changeRegime new s).resetInput = s.resetInput ∧ (changeRegime new s).requests = s.requests ∧
    (changeRegime new s).holdReleases = s.holdReleases ∧ (changeRegime new s).outcomes = s.outcomes ∧
    (changeRegime new s).freeCount = s.freeCount ∧ (changeRegime new s).pending = s.pending ∧
    (changeRegime new s).clock.uptime = s.clock.uptime ∧ (changeRegime new s).log.entries = s.log.entries ∧
    (changeRegime new s).log.corrected = s.log.corrected ∧ (changeRegime new s).log.reported = s.log.reported ∧
    (changeRegime new s).log.uncorrectable = s.log.uncorrectable ∧
    (changeRegime new s).log.overflow = s.log.overflow ∧ (changeRegime new s).lamp.error = s.lamp.error ∧
    (changeRegime new s).scrub.count = s.scrub.count ∧ (changeRegime new s).scrub.cold = s.scrub.cold ∧
    (changeRegime new s).keypad.map = s.keypad.map ∧ (changeRegime new s).keypad.chords = s.keypad.chords ∧
    (changeRegime new s).keypad.coldDebounce = s.keypad.coldDebounce ∧
    (changeRegime new s).keypad.scanTimer = s.keypad.scanTimer ∧
    (changeRegime new s).watch.violations = s.watch.violations ∧
    (changeRegime new s).engine.submit = s.engine.submit ∧ (changeRegime new s).engine.done = s.engine.done ∧
    (changeRegime new s).ctl.pendingForced = s.ctl.pendingForced ∧
    (changeRegime new s).ctl.pendingDoubtful = s.ctl.pendingDoubtful ∧
    (changeRegime new s).thermal.channels = s.thermal.channels ∧
    (changeRegime new s).thermal.polling = s.thermal.polling ∧
    (changeRegime new s).thermal.pollTimer = s.thermal.pollTimer ∧
    (changeRegime new s).thermal.readiness = s.thermal.readiness ∧
    (changeRegime new s).repair.table = s.repair.table ∧ (changeRegime new s).repair.spent = s.repair.spent ∧
    (changeRegime new s).repair.completed = s.repair.completed ∧
    (changeRegime new s).repair.reRepaired = s.repair.reRepaired ∧
    (changeRegime new s).repair.refused = s.repair.refused ∧
    (changeRegime new s).repair.declined = s.repair.declined ∧
    (changeRegime new s).repair.dropped = s.repair.dropped := by
  unfold changeRegime; (try dsimp only); (repeat' split) <;> simp

/-- What an entry into HEATING keeps (R76). -/
@[simp] theorem enterHeating_frame (s : State) :
    (enterHeating s).loader = s.loader ∧ (enterHeating s).restarts = s.restarts ∧
    (enterHeating s).frontResponse = s.frontResponse ∧ (enterHeating s).windows = s.windows ∧
    (enterHeating s).events = s.events ∧ (enterHeating s).lastUser = s.lastUser ∧
    (enterHeating s).resetInput = s.resetInput ∧ (enterHeating s).requests = s.requests ∧
    (enterHeating s).holdReleases = s.holdReleases ∧ (enterHeating s).outcomes = s.outcomes ∧
    (enterHeating s).freeCount = s.freeCount ∧ (enterHeating s).pending = s.pending ∧
    (enterHeating s).clock.uptime = s.clock.uptime ∧ (enterHeating s).log.entries = s.log.entries ∧
    (enterHeating s).log.corrected = s.log.corrected ∧ (enterHeating s).log.reported = s.log.reported ∧
    (enterHeating s).log.uncorrectable = s.log.uncorrectable ∧ (enterHeating s).log.overflow = s.log.overflow ∧
    (enterHeating s).lamp.error = s.lamp.error ∧ (enterHeating s).scrub.count = s.scrub.count ∧
    (enterHeating s).scrub.cold = s.scrub.cold ∧ (enterHeating s).keypad.map = s.keypad.map ∧
    (enterHeating s).keypad.chords = s.keypad.chords ∧ (enterHeating s).keypad.coldDebounce = s.keypad.coldDebounce ∧
    (enterHeating s).keypad.scanTimer = s.keypad.scanTimer ∧ (enterHeating s).watch.violations = s.watch.violations ∧
    (enterHeating s).thermal.channels = s.thermal.channels ∧ (enterHeating s).thermal.polling = s.thermal.polling ∧
    (enterHeating s).thermal.pollTimer = s.thermal.pollTimer ∧
    (enterHeating s).thermal.readiness = s.thermal.readiness ∧ (enterHeating s).repair.table = s.repair.table ∧
    (enterHeating s).repair.spent = s.repair.spent ∧ (enterHeating s).repair.completed = s.repair.completed ∧
    (enterHeating s).repair.reRepaired = s.repair.reRepaired ∧ (enterHeating s).repair.refused = s.repair.refused ∧
    (enterHeating s).repair.declined = s.repair.declined ∧ (enterHeating s).repair.dropped = s.repair.dropped := by
  unfold enterHeating; (try dsimp only); (repeat' split) <;> simp

/-- What a release keeps (R81). -/
@[simp] theorem releaseBoard_frame (s : State) :
    (releaseBoard s).loader = s.loader ∧ (releaseBoard s).restarts = s.restarts ∧
    (releaseBoard s).frontResponse = s.frontResponse ∧ (releaseBoard s).windows = s.windows ∧
    (releaseBoard s).events = s.events ∧ (releaseBoard s).lastUser = s.lastUser ∧
    (releaseBoard s).resetInput = s.resetInput ∧ (releaseBoard s).requests = s.requests ∧
    (releaseBoard s).holdReleases = s.holdReleases ∧ (releaseBoard s).outcomes = s.outcomes ∧
    (releaseBoard s).freeCount = s.freeCount ∧ (releaseBoard s).pending = s.pending ∧
    (releaseBoard s).clock.uptime = s.clock.uptime ∧ (releaseBoard s).log.entries = s.log.entries ∧
    (releaseBoard s).log.corrected = s.log.corrected ∧ (releaseBoard s).log.reported = s.log.reported ∧
    (releaseBoard s).log.uncorrectable = s.log.uncorrectable ∧ (releaseBoard s).log.overflow = s.log.overflow ∧
    (releaseBoard s).lamp.error = s.lamp.error ∧ (releaseBoard s).scrub.count = s.scrub.count ∧
    (releaseBoard s).scrub.cold = s.scrub.cold ∧ (releaseBoard s).keypad.map = s.keypad.map ∧
    (releaseBoard s).keypad.chords = s.keypad.chords ∧ (releaseBoard s).keypad.coldDebounce = s.keypad.coldDebounce ∧
    (releaseBoard s).keypad.scanTimer = s.keypad.scanTimer ∧ (releaseBoard s).watch.violations = s.watch.violations ∧
    (releaseBoard s).engine.submit = s.engine.submit ∧ (releaseBoard s).engine.done = s.engine.done ∧
    (releaseBoard s).ctl.pendingForced = s.ctl.pendingForced ∧
    (releaseBoard s).ctl.pendingDoubtful = s.ctl.pendingDoubtful ∧
    (releaseBoard s).thermal.channels = s.thermal.channels ∧ (releaseBoard s).thermal.polling = s.thermal.polling ∧
    (releaseBoard s).thermal.pollTimer = s.thermal.pollTimer ∧
    (releaseBoard s).thermal.readiness = s.thermal.readiness ∧ (releaseBoard s).repair.table = s.repair.table ∧
    (releaseBoard s).repair.spent = s.repair.spent ∧ (releaseBoard s).repair.completed = s.repair.completed ∧
    (releaseBoard s).repair.reRepaired = s.repair.reRepaired ∧ (releaseBoard s).repair.refused = s.repair.refused ∧
    (releaseBoard s).repair.declined = s.repair.declined ∧ (releaseBoard s).repair.dropped = s.repair.dropped := by
  simp [releaseBoard]

/-- What an entry into RELEASING keeps (R81, R177). -/
@[simp] theorem enterReleasing_frame (s : State) :
    (enterReleasing s).loader = s.loader ∧ (enterReleasing s).restarts = s.restarts ∧
    (enterReleasing s).frontResponse = s.frontResponse ∧ (enterReleasing s).windows = s.windows ∧
    (enterReleasing s).lastUser = s.lastUser ∧ (enterReleasing s).resetInput = s.resetInput ∧
    (enterReleasing s).requests = s.requests ∧ (enterReleasing s).holdReleases = s.holdReleases ∧
    (enterReleasing s).outcomes = s.outcomes ∧ (enterReleasing s).freeCount = s.freeCount ∧
    (enterReleasing s).pending = s.pending ∧ (enterReleasing s).clock.uptime = s.clock.uptime ∧
    (enterReleasing s).log.entries = s.log.entries ∧ (enterReleasing s).log.corrected = s.log.corrected ∧
    (enterReleasing s).log.reported = s.log.reported ∧ (enterReleasing s).log.uncorrectable = s.log.uncorrectable ∧
    (enterReleasing s).log.overflow = s.log.overflow ∧ (enterReleasing s).scrub.count = s.scrub.count ∧
    (enterReleasing s).scrub.cold = s.scrub.cold ∧ (enterReleasing s).keypad.map = s.keypad.map ∧
    (enterReleasing s).keypad.chords = s.keypad.chords ∧
    (enterReleasing s).keypad.coldDebounce = s.keypad.coldDebounce ∧
    (enterReleasing s).keypad.scanTimer = s.keypad.scanTimer ∧
    (enterReleasing s).watch.violations = s.watch.violations ∧
    (enterReleasing s).thermal.channels = s.thermal.channels ∧
    (enterReleasing s).thermal.polling = s.thermal.polling ∧
    (enterReleasing s).thermal.pollTimer = s.thermal.pollTimer ∧
    (enterReleasing s).thermal.readiness = s.thermal.readiness ∧ (enterReleasing s).repair.table = s.repair.table ∧
    (enterReleasing s).repair.spent = s.repair.spent ∧ (enterReleasing s).repair.completed = s.repair.completed ∧
    (enterReleasing s).repair.reRepaired = s.repair.reRepaired ∧
    (enterReleasing s).repair.refused = s.repair.refused ∧ (enterReleasing s).repair.declined = s.repair.declined ∧
    (enterReleasing s).repair.dropped = s.repair.dropped := by
  unfold enterReleasing; (try dsimp only); (repeat' split) <;> simp

/-- The escalation state (R147). -/
@[simp] theorem escalate_frame (kind : RestartKind) (s : State) :
    (escalate kind s).loader = s.loader ∧ (escalate kind s).ctl = s.ctl ∧ (escalate kind s).clock = s.clock ∧
    (escalate kind s).lamp = s.lamp ∧ (escalate kind s).front = s.front ∧
    (escalate kind s).frontResponse = s.frontResponse ∧ (escalate kind s).windows = s.windows ∧
    (escalate kind s).port = s.port ∧ (escalate kind s).arbiter = s.arbiter ∧ (escalate kind s).mem = s.mem ∧
    (escalate kind s).memEpoch = s.memEpoch ∧ (escalate kind s).log = s.log ∧ (escalate kind s).scrub = s.scrub ∧
    (escalate kind s).repair = s.repair ∧ (escalate kind s).prep = s.prep ∧ (escalate kind s).thermal = s.thermal ∧
    (escalate kind s).watch = s.watch ∧ (escalate kind s).dog = s.dog ∧ (escalate kind s).trace = s.trace ∧
    (escalate kind s).keypad = s.keypad ∧ (escalate kind s).engine = s.engine ∧ (escalate kind s).events = s.events ∧
    (escalate kind s).posting = s.posting ∧ (escalate kind s).queue = s.queue ∧ (escalate kind s).missed = s.missed ∧
    (escalate kind s).headers = s.headers ∧ (escalate kind s).lastUser = s.lastUser ∧
    (escalate kind s).resetInput = s.resetInput ∧ (escalate kind s).requests = s.requests ∧
    (escalate kind s).holdReleases = s.holdReleases ∧ (escalate kind s).outcomes = s.outcomes ∧
    (escalate kind s).watchReports = s.watchReports ∧ (escalate kind s).snoopReports = s.snoopReports ∧
    (escalate kind s).freeCount = s.freeCount ∧ (escalate kind s).pending = s.pending ∧
    (escalate kind s).restarts.history = s.restarts.history ∧ (escalate kind s).restarts.total = s.restarts.total := by
  cases kind <;> simp [escalate]

/-- The cause told (R125). -/
@[simp] theorem tellCause_frame (cause : RestartCause) (s : State) :
    (tellCause cause s).loader = s.loader ∧ (tellCause cause s).ctl = s.ctl ∧ (tellCause cause s).clock = s.clock ∧
    (tellCause cause s).lamp = s.lamp ∧ (tellCause cause s).restarts = s.restarts ∧
    (tellCause cause s).front = s.front ∧ (tellCause cause s).frontResponse = s.frontResponse ∧
    (tellCause cause s).windows = s.windows ∧ (tellCause cause s).port = s.port ∧
    (tellCause cause s).arbiter = s.arbiter ∧ (tellCause cause s).mem = s.mem ∧
    (tellCause cause s).memEpoch = s.memEpoch ∧ (tellCause cause s).log = s.log ∧
    (tellCause cause s).scrub = s.scrub ∧ (tellCause cause s).repair = s.repair ∧ (tellCause cause s).prep = s.prep ∧
    (tellCause cause s).thermal = s.thermal ∧ (tellCause cause s).dog = s.dog ∧ (tellCause cause s).trace = s.trace ∧
    (tellCause cause s).keypad = s.keypad ∧ (tellCause cause s).engine = s.engine ∧
    (tellCause cause s).events = s.events ∧ (tellCause cause s).posting = s.posting ∧
    (tellCause cause s).queue = s.queue ∧ (tellCause cause s).missed = s.missed ∧
    (tellCause cause s).headers = s.headers ∧ (tellCause cause s).lastUser = s.lastUser ∧
    (tellCause cause s).resetInput = s.resetInput ∧ (tellCause cause s).requests = s.requests ∧
    (tellCause cause s).holdReleases = s.holdReleases ∧ (tellCause cause s).outcomes = s.outcomes ∧
    (tellCause cause s).watchReports = s.watchReports ∧ (tellCause cause s).snoopReports = s.snoopReports ∧
    (tellCause cause s).freeCount = s.freeCount ∧ (tellCause cause s).pending = s.pending ∧
    (tellCause cause s).watch.hits = s.watch.hits ∧ (tellCause cause s).watch.lastStage = s.watch.lastStage ∧
    (tellCause cause s).watch.senders = s.watch.senders ∧ (tellCause cause s).watch.lock = s.watch.lock ∧
    (tellCause cause s).watch.violations = s.watch.violations := by
  unfold tellCause; (try dsimp only); (repeat' split) <;> simp

/-- What a restart keeps (R148). -/
@[simp] theorem takeRestart_frame (cause : RestartCause) (cold : Bool) (s : State) :
    (takeRestart cause cold s).loader = s.loader ∧ (takeRestart cause cold s).frontResponse = s.frontResponse ∧
    (takeRestart cause cold s).events = s.events ∧ (takeRestart cause cold s).lastUser = s.lastUser ∧
    (takeRestart cause cold s).resetInput = s.resetInput ∧ (takeRestart cause cold s).requests = s.requests ∧
    (takeRestart cause cold s).holdReleases = s.holdReleases ∧ (takeRestart cause cold s).outcomes = s.outcomes ∧
    (takeRestart cause cold s).freeCount = s.freeCount ∧ (takeRestart cause cold s).pending = s.pending ∧
    (takeRestart cause cold s).clock.uptime = s.clock.uptime ∧
    (takeRestart cause cold s).log.entries = s.log.entries ∧
    (takeRestart cause cold s).log.corrected = s.log.corrected ∧
    (takeRestart cause cold s).log.reported = s.log.reported ∧
    (takeRestart cause cold s).log.uncorrectable = s.log.uncorrectable ∧
    (takeRestart cause cold s).log.overflow = s.log.overflow ∧ (takeRestart cause cold s).lamp.error = s.lamp.error ∧
    (takeRestart cause cold s).scrub.count = s.scrub.count ∧ (takeRestart cause cold s).scrub.cold = s.scrub.cold ∧
    (takeRestart cause cold s).keypad.map = s.keypad.map ∧
    (takeRestart cause cold s).keypad.chords = s.keypad.chords ∧
    (takeRestart cause cold s).keypad.coldDebounce = s.keypad.coldDebounce ∧
    (takeRestart cause cold s).keypad.scanTimer = s.keypad.scanTimer ∧
    (takeRestart cause cold s).watch.violations = s.watch.violations ∧
    (takeRestart cause cold s).engine.submit = s.engine.submit ∧
    (takeRestart cause cold s).engine.done = s.engine.done ∧
    (takeRestart cause cold s).ctl.pendingForced = s.ctl.pendingForced ∧
    (takeRestart cause cold s).ctl.pendingDoubtful = s.ctl.pendingDoubtful ∧
    (takeRestart cause cold s).thermal.channels = s.thermal.channels ∧
    (takeRestart cause cold s).thermal.polling = s.thermal.polling ∧
    (takeRestart cause cold s).thermal.pollTimer = s.thermal.pollTimer ∧
    (takeRestart cause cold s).thermal.readiness = s.thermal.readiness ∧
    (takeRestart cause cold s).repair.table = s.repair.table ∧
    (takeRestart cause cold s).repair.spent = s.repair.spent ∧
    (takeRestart cause cold s).repair.completed = s.repair.completed ∧
    (takeRestart cause cold s).repair.reRepaired = s.repair.reRepaired ∧
    (takeRestart cause cold s).repair.refused = s.repair.refused ∧
    (takeRestart cause cold s).repair.declined = s.repair.declined ∧
    (takeRestart cause cold s).repair.dropped = s.repair.dropped := by
  simp [takeRestart]

/-- What an overheat keeps (R83). -/
@[simp] theorem takeOverheat_frame (s : State) :
    (takeOverheat s).loader = s.loader ∧ (takeOverheat s).frontResponse = s.frontResponse ∧
    (takeOverheat s).windows = s.windows ∧ (takeOverheat s).events = s.events ∧
    (takeOverheat s).lastUser = s.lastUser ∧ (takeOverheat s).resetInput = s.resetInput ∧
    (takeOverheat s).requests = s.requests ∧ (takeOverheat s).holdReleases = s.holdReleases ∧
    (takeOverheat s).outcomes = s.outcomes ∧ (takeOverheat s).freeCount = s.freeCount ∧
    (takeOverheat s).pending = s.pending ∧ (takeOverheat s).clock.uptime = s.clock.uptime ∧
    (takeOverheat s).log.entries = s.log.entries ∧ (takeOverheat s).log.corrected = s.log.corrected ∧
    (takeOverheat s).log.reported = s.log.reported ∧ (takeOverheat s).log.uncorrectable = s.log.uncorrectable ∧
    (takeOverheat s).log.overflow = s.log.overflow ∧ (takeOverheat s).lamp.error = s.lamp.error ∧
    (takeOverheat s).scrub.count = s.scrub.count ∧ (takeOverheat s).scrub.cold = s.scrub.cold ∧
    (takeOverheat s).keypad.map = s.keypad.map ∧ (takeOverheat s).keypad.chords = s.keypad.chords ∧
    (takeOverheat s).keypad.coldDebounce = s.keypad.coldDebounce ∧
    (takeOverheat s).keypad.scanTimer = s.keypad.scanTimer ∧ (takeOverheat s).watch.violations = s.watch.violations ∧
    (takeOverheat s).engine.submit = s.engine.submit ∧ (takeOverheat s).engine.done = s.engine.done ∧
    (takeOverheat s).ctl.pendingForced = s.ctl.pendingForced ∧
    (takeOverheat s).ctl.pendingDoubtful = s.ctl.pendingDoubtful ∧
    (takeOverheat s).thermal.channels = s.thermal.channels ∧ (takeOverheat s).thermal.polling = s.thermal.polling ∧
    (takeOverheat s).thermal.pollTimer = s.thermal.pollTimer ∧
    (takeOverheat s).thermal.readiness = s.thermal.readiness ∧ (takeOverheat s).repair.table = s.repair.table ∧
    (takeOverheat s).repair.spent = s.repair.spent ∧ (takeOverheat s).repair.completed = s.repair.completed ∧
    (takeOverheat s).repair.reRepaired = s.repair.reRepaired ∧ (takeOverheat s).repair.refused = s.repair.refused ∧
    (takeOverheat s).repair.declined = s.repair.declined ∧ (takeOverheat s).repair.dropped = s.repair.dropped ∧
    (takeOverheat s).restarts.escalation = s.restarts.escalation ∧
    (takeOverheat s).restarts.coldCount = s.restarts.coldCount := by
  unfold takeOverheat; (try dsimp only); (repeat' split) <;> simp

/-- What a hold release keeps (R149). -/
@[simp] theorem takeHoldRelease_frame (s : State) :
    (takeHoldRelease s).loader = s.loader ∧ (takeHoldRelease s).frontResponse = s.frontResponse ∧
    (takeHoldRelease s).windows = s.windows ∧ (takeHoldRelease s).events = s.events ∧
    (takeHoldRelease s).lastUser = s.lastUser ∧ (takeHoldRelease s).resetInput = s.resetInput ∧
    (takeHoldRelease s).requests = s.requests ∧ (takeHoldRelease s).holdReleases = s.holdReleases ∧
    (takeHoldRelease s).outcomes = s.outcomes ∧ (takeHoldRelease s).freeCount = s.freeCount ∧
    (takeHoldRelease s).pending = s.pending ∧ (takeHoldRelease s).clock.uptime = s.clock.uptime ∧
    (takeHoldRelease s).log.entries = s.log.entries ∧ (takeHoldRelease s).log.corrected = s.log.corrected ∧
    (takeHoldRelease s).log.reported = s.log.reported ∧ (takeHoldRelease s).log.uncorrectable = s.log.uncorrectable ∧
    (takeHoldRelease s).log.overflow = s.log.overflow ∧ (takeHoldRelease s).lamp.error = s.lamp.error ∧
    (takeHoldRelease s).scrub.count = s.scrub.count ∧ (takeHoldRelease s).scrub.cold = s.scrub.cold ∧
    (takeHoldRelease s).keypad.map = s.keypad.map ∧ (takeHoldRelease s).keypad.chords = s.keypad.chords ∧
    (takeHoldRelease s).keypad.coldDebounce = s.keypad.coldDebounce ∧
    (takeHoldRelease s).keypad.scanTimer = s.keypad.scanTimer ∧
    (takeHoldRelease s).watch.violations = s.watch.violations ∧
    (takeHoldRelease s).thermal.channels = s.thermal.channels ∧
    (takeHoldRelease s).thermal.polling = s.thermal.polling ∧
    (takeHoldRelease s).thermal.pollTimer = s.thermal.pollTimer ∧
    (takeHoldRelease s).thermal.readiness = s.thermal.readiness ∧ (takeHoldRelease s).repair.table = s.repair.table ∧
    (takeHoldRelease s).repair.spent = s.repair.spent ∧ (takeHoldRelease s).repair.completed = s.repair.completed ∧
    (takeHoldRelease s).repair.reRepaired = s.repair.reRepaired ∧
    (takeHoldRelease s).repair.refused = s.repair.refused ∧ (takeHoldRelease s).repair.declined = s.repair.declined ∧
    (takeHoldRelease s).repair.dropped = s.repair.dropped ∧
    (takeHoldRelease s).restarts.history = s.restarts.history ∧
    (takeHoldRelease s).restarts.total = s.restarts.total := by
  simp [takeHoldRelease]

/-- A THERMAL notice (R96). -/
@[simp] theorem thermalNotice_frame (event : ThermalEvent) (k : Nat) (reading : Option Int) (s : State) :
    (thermalNotice event k reading s).loader = s.loader ∧ (thermalNotice event k reading s).ctl = s.ctl ∧
    (thermalNotice event k reading s).clock = s.clock ∧ (thermalNotice event k reading s).lamp = s.lamp ∧
    (thermalNotice event k reading s).restarts = s.restarts ∧ (thermalNotice event k reading s).front = s.front ∧
    (thermalNotice event k reading s).frontResponse = s.frontResponse ∧
    (thermalNotice event k reading s).windows = s.windows ∧ (thermalNotice event k reading s).port = s.port ∧
    (thermalNotice event k reading s).arbiter = s.arbiter ∧ (thermalNotice event k reading s).mem = s.mem ∧
    (thermalNotice event k reading s).memEpoch = s.memEpoch ∧ (thermalNotice event k reading s).log = s.log ∧
    (thermalNotice event k reading s).scrub = s.scrub ∧ (thermalNotice event k reading s).repair = s.repair ∧
    (thermalNotice event k reading s).prep = s.prep ∧ (thermalNotice event k reading s).thermal = s.thermal ∧
    (thermalNotice event k reading s).watch = s.watch ∧ (thermalNotice event k reading s).dog = s.dog ∧
    (thermalNotice event k reading s).trace = s.trace ∧ (thermalNotice event k reading s).keypad = s.keypad ∧
    (thermalNotice event k reading s).engine = s.engine ∧ (thermalNotice event k reading s).events = s.events ∧
    (thermalNotice event k reading s).posting = s.posting ∧ (thermalNotice event k reading s).headers = s.headers ∧
    (thermalNotice event k reading s).lastUser = s.lastUser ∧
    (thermalNotice event k reading s).resetInput = s.resetInput ∧
    (thermalNotice event k reading s).requests = s.requests ∧
    (thermalNotice event k reading s).holdReleases = s.holdReleases ∧
    (thermalNotice event k reading s).outcomes = s.outcomes ∧
    (thermalNotice event k reading s).watchReports = s.watchReports ∧
    (thermalNotice event k reading s).snoopReports = s.snoopReports ∧
    (thermalNotice event k reading s).freeCount = s.freeCount ∧
    (thermalNotice event k reading s).pending = s.pending := by
  simp [thermalNotice]

/-- A reply (R91). -/
@[simp] theorem channelReply_frame (k : Nat) (t : Int) (s : State) :
    (channelReply k t s).loader = s.loader ∧ (channelReply k t s).ctl = s.ctl ∧ (channelReply k t s).clock = s.clock ∧
    (channelReply k t s).lamp = s.lamp ∧ (channelReply k t s).restarts = s.restarts ∧
    (channelReply k t s).front = s.front ∧ (channelReply k t s).frontResponse = s.frontResponse ∧
    (channelReply k t s).windows = s.windows ∧ (channelReply k t s).port = s.port ∧
    (channelReply k t s).arbiter = s.arbiter ∧ (channelReply k t s).mem = s.mem ∧
    (channelReply k t s).memEpoch = s.memEpoch ∧ (channelReply k t s).log = s.log ∧
    (channelReply k t s).scrub = s.scrub ∧ (channelReply k t s).repair = s.repair ∧
    (channelReply k t s).prep = s.prep ∧ (channelReply k t s).watch = s.watch ∧ (channelReply k t s).dog = s.dog ∧
    (channelReply k t s).trace = s.trace ∧ (channelReply k t s).keypad = s.keypad ∧
    (channelReply k t s).engine = s.engine ∧ (channelReply k t s).events = s.events ∧
    (channelReply k t s).posting = s.posting ∧ (channelReply k t s).headers = s.headers ∧
    (channelReply k t s).lastUser = s.lastUser ∧ (channelReply k t s).resetInput = s.resetInput ∧
    (channelReply k t s).requests = s.requests ∧ (channelReply k t s).holdReleases = s.holdReleases ∧
    (channelReply k t s).outcomes = s.outcomes ∧ (channelReply k t s).watchReports = s.watchReports ∧
    (channelReply k t s).snoopReports = s.snoopReports ∧ (channelReply k t s).freeCount = s.freeCount ∧
    (channelReply k t s).pending = s.pending ∧ (channelReply k t s).thermal.polling = s.thermal.polling ∧
    (channelReply k t s).thermal.pollTimer = s.thermal.pollTimer ∧
    (channelReply k t s).thermal.readiness = s.thermal.readiness ∧
    (channelReply k t s).thermal.boardDemand = s.thermal.boardDemand ∧
    (channelReply k t s).thermal.panelDemand = s.thermal.panelDemand ∧
    (channelReply k t s).thermal.boardOutput = s.thermal.boardOutput ∧
    (channelReply k t s).thermal.panelOutput = s.thermal.panelOutput := by
  unfold channelReply; (try dsimp only); (repeat' split) <;> simp

/-- A timeout (R91). -/
@[simp] theorem channelTimeout_frame (k : Nat) (s : State) :
    (channelTimeout k s).loader = s.loader ∧ (channelTimeout k s).ctl = s.ctl ∧ (channelTimeout k s).clock = s.clock ∧
    (channelTimeout k s).lamp = s.lamp ∧ (channelTimeout k s).restarts = s.restarts ∧
    (channelTimeout k s).front = s.front ∧ (channelTimeout k s).frontResponse = s.frontResponse ∧
    (channelTimeout k s).windows = s.windows ∧ (channelTimeout k s).port = s.port ∧
    (channelTimeout k s).arbiter = s.arbiter ∧ (channelTimeout k s).mem = s.mem ∧
    (channelTimeout k s).memEpoch = s.memEpoch ∧ (channelTimeout k s).log = s.log ∧
    (channelTimeout k s).scrub = s.scrub ∧ (channelTimeout k s).repair = s.repair ∧
    (channelTimeout k s).prep = s.prep ∧ (channelTimeout k s).watch = s.watch ∧ (channelTimeout k s).dog = s.dog ∧
    (channelTimeout k s).trace = s.trace ∧ (channelTimeout k s).keypad = s.keypad ∧
    (channelTimeout k s).engine = s.engine ∧ (channelTimeout k s).events = s.events ∧
    (channelTimeout k s).posting = s.posting ∧ (channelTimeout k s).headers = s.headers ∧
    (channelTimeout k s).lastUser = s.lastUser ∧ (channelTimeout k s).resetInput = s.resetInput ∧
    (channelTimeout k s).requests = s.requests ∧ (channelTimeout k s).holdReleases = s.holdReleases ∧
    (channelTimeout k s).outcomes = s.outcomes ∧ (channelTimeout k s).watchReports = s.watchReports ∧
    (channelTimeout k s).snoopReports = s.snoopReports ∧ (channelTimeout k s).freeCount = s.freeCount ∧
    (channelTimeout k s).pending = s.pending ∧ (channelTimeout k s).thermal.polling = s.thermal.polling ∧
    (channelTimeout k s).thermal.pollTimer = s.thermal.pollTimer ∧
    (channelTimeout k s).thermal.readiness = s.thermal.readiness ∧
    (channelTimeout k s).thermal.boardDemand = s.thermal.boardDemand ∧
    (channelTimeout k s).thermal.panelDemand = s.thermal.panelDemand ∧
    (channelTimeout k s).thermal.boardOutput = s.thermal.boardOutput ∧
    (channelTimeout k s).thermal.panelOutput = s.thermal.panelOutput := by
  unfold channelTimeout; (try dsimp only); (repeat' split) <;> simp

/-- Readiness reported (R92). -/
@[simp] theorem reportReadiness_frame (s : State) :
    (reportReadiness s).loader = s.loader ∧ (reportReadiness s).restarts = s.restarts ∧
    (reportReadiness s).frontResponse = s.frontResponse ∧ (reportReadiness s).windows = s.windows ∧
    (reportReadiness s).events = s.events ∧ (reportReadiness s).lastUser = s.lastUser ∧
    (reportReadiness s).resetInput = s.resetInput ∧ (reportReadiness s).requests = s.requests ∧
    (reportReadiness s).holdReleases = s.holdReleases ∧ (reportReadiness s).outcomes = s.outcomes ∧
    (reportReadiness s).freeCount = s.freeCount ∧ (reportReadiness s).pending = s.pending ∧
    (reportReadiness s).clock.uptime = s.clock.uptime ∧ (reportReadiness s).log.entries = s.log.entries ∧
    (reportReadiness s).log.corrected = s.log.corrected ∧ (reportReadiness s).log.reported = s.log.reported ∧
    (reportReadiness s).log.uncorrectable = s.log.uncorrectable ∧ (reportReadiness s).log.overflow = s.log.overflow ∧
    (reportReadiness s).lamp.error = s.lamp.error ∧ (reportReadiness s).scrub.count = s.scrub.count ∧
    (reportReadiness s).scrub.cold = s.scrub.cold ∧ (reportReadiness s).keypad.map = s.keypad.map ∧
    (reportReadiness s).keypad.chords = s.keypad.chords ∧
    (reportReadiness s).keypad.coldDebounce = s.keypad.coldDebounce ∧
    (reportReadiness s).keypad.scanTimer = s.keypad.scanTimer ∧
    (reportReadiness s).watch.violations = s.watch.violations ∧
    (reportReadiness s).thermal.channels = s.thermal.channels ∧
    (reportReadiness s).thermal.polling = s.thermal.polling ∧
    (reportReadiness s).thermal.pollTimer = s.thermal.pollTimer ∧ (reportReadiness s).repair.table = s.repair.table ∧
    (reportReadiness s).repair.spent = s.repair.spent ∧ (reportReadiness s).repair.completed = s.repair.completed ∧
    (reportReadiness s).repair.reRepaired = s.repair.reRepaired ∧
    (reportReadiness s).repair.refused = s.repair.refused ∧ (reportReadiness s).repair.declined = s.repair.declined ∧
    (reportReadiness s).repair.dropped = s.repair.dropped := by
  unfold reportReadiness; (try dsimp only); (repeat' split) <;> simp

/-- Overheat reported (R93). -/
@[simp] theorem reportOverheat_frame (s : State) :
    (reportOverheat s).loader = s.loader ∧ (reportOverheat s).frontResponse = s.frontResponse ∧
    (reportOverheat s).windows = s.windows ∧ (reportOverheat s).events = s.events ∧
    (reportOverheat s).lastUser = s.lastUser ∧ (reportOverheat s).resetInput = s.resetInput ∧
    (reportOverheat s).requests = s.requests ∧ (reportOverheat s).holdReleases = s.holdReleases ∧
    (reportOverheat s).outcomes = s.outcomes ∧ (reportOverheat s).freeCount = s.freeCount ∧
    (reportOverheat s).pending = s.pending ∧ (reportOverheat s).clock.uptime = s.clock.uptime ∧
    (reportOverheat s).log.entries = s.log.entries ∧ (reportOverheat s).log.corrected = s.log.corrected ∧
    (reportOverheat s).log.reported = s.log.reported ∧ (reportOverheat s).log.uncorrectable = s.log.uncorrectable ∧
    (reportOverheat s).log.overflow = s.log.overflow ∧ (reportOverheat s).lamp.error = s.lamp.error ∧
    (reportOverheat s).scrub.count = s.scrub.count ∧ (reportOverheat s).scrub.cold = s.scrub.cold ∧
    (reportOverheat s).keypad.map = s.keypad.map ∧ (reportOverheat s).keypad.chords = s.keypad.chords ∧
    (reportOverheat s).keypad.coldDebounce = s.keypad.coldDebounce ∧
    (reportOverheat s).keypad.scanTimer = s.keypad.scanTimer ∧
    (reportOverheat s).watch.violations = s.watch.violations ∧ (reportOverheat s).engine.submit = s.engine.submit ∧
    (reportOverheat s).engine.done = s.engine.done ∧ (reportOverheat s).ctl.pendingForced = s.ctl.pendingForced ∧
    (reportOverheat s).ctl.pendingDoubtful = s.ctl.pendingDoubtful ∧
    (reportOverheat s).thermal.channels = s.thermal.channels ∧
    (reportOverheat s).thermal.polling = s.thermal.polling ∧
    (reportOverheat s).thermal.pollTimer = s.thermal.pollTimer ∧
    (reportOverheat s).thermal.readiness = s.thermal.readiness ∧ (reportOverheat s).repair.table = s.repair.table ∧
    (reportOverheat s).repair.spent = s.repair.spent ∧ (reportOverheat s).repair.completed = s.repair.completed ∧
    (reportOverheat s).repair.reRepaired = s.repair.reRepaired ∧
    (reportOverheat s).repair.refused = s.repair.refused ∧ (reportOverheat s).repair.declined = s.repair.declined ∧
    (reportOverheat s).repair.dropped = s.repair.dropped ∧
    (reportOverheat s).restarts.escalation = s.restarts.escalation ∧
    (reportOverheat s).restarts.coldCount = s.restarts.coldCount := by
  unfold reportOverheat; (try dsimp only); (repeat' split) <;> simp

/-- Resume reported (R94). -/
@[simp] theorem reportResume_frame (s : State) :
    (reportResume s).loader = s.loader ∧ (reportResume s).restarts = s.restarts ∧
    (reportResume s).frontResponse = s.frontResponse ∧ (reportResume s).windows = s.windows ∧
    (reportResume s).events = s.events ∧ (reportResume s).lastUser = s.lastUser ∧
    (reportResume s).resetInput = s.resetInput ∧ (reportResume s).requests = s.requests ∧
    (reportResume s).holdReleases = s.holdReleases ∧ (reportResume s).outcomes = s.outcomes ∧
    (reportResume s).freeCount = s.freeCount ∧ (reportResume s).pending = s.pending ∧
    (reportResume s).clock.uptime = s.clock.uptime ∧ (reportResume s).log.entries = s.log.entries ∧
    (reportResume s).log.corrected = s.log.corrected ∧ (reportResume s).log.reported = s.log.reported ∧
    (reportResume s).log.uncorrectable = s.log.uncorrectable ∧ (reportResume s).log.overflow = s.log.overflow ∧
    (reportResume s).lamp.error = s.lamp.error ∧ (reportResume s).scrub.count = s.scrub.count ∧
    (reportResume s).scrub.cold = s.scrub.cold ∧ (reportResume s).keypad.map = s.keypad.map ∧
    (reportResume s).keypad.chords = s.keypad.chords ∧ (reportResume s).keypad.coldDebounce = s.keypad.coldDebounce ∧
    (reportResume s).keypad.scanTimer = s.keypad.scanTimer ∧ (reportResume s).watch.violations = s.watch.violations ∧
    (reportResume s).thermal.channels = s.thermal.channels ∧ (reportResume s).thermal.polling = s.thermal.polling ∧
    (reportResume s).thermal.pollTimer = s.thermal.pollTimer ∧
    (reportResume s).thermal.readiness = s.thermal.readiness ∧ (reportResume s).repair.table = s.repair.table ∧
    (reportResume s).repair.spent = s.repair.spent ∧ (reportResume s).repair.completed = s.repair.completed ∧
    (reportResume s).repair.reRepaired = s.repair.reRepaired ∧ (reportResume s).repair.refused = s.repair.refused ∧
    (reportResume s).repair.declined = s.repair.declined ∧ (reportResume s).repair.dropped = s.repair.dropped := by
  unfold reportResume; (try dsimp only); (repeat' split) <;> simp

/-- The soak floor reported (R92). -/
@[simp] theorem reportSoakFloor_frame (k : Nat) (t : Int) (s : State) :
    (reportSoakFloor k t s).loader = s.loader ∧ (reportSoakFloor k t s).restarts = s.restarts ∧
    (reportSoakFloor k t s).frontResponse = s.frontResponse ∧ (reportSoakFloor k t s).windows = s.windows ∧
    (reportSoakFloor k t s).events = s.events ∧ (reportSoakFloor k t s).lastUser = s.lastUser ∧
    (reportSoakFloor k t s).resetInput = s.resetInput ∧ (reportSoakFloor k t s).requests = s.requests ∧
    (reportSoakFloor k t s).holdReleases = s.holdReleases ∧ (reportSoakFloor k t s).outcomes = s.outcomes ∧
    (reportSoakFloor k t s).freeCount = s.freeCount ∧ (reportSoakFloor k t s).pending = s.pending ∧
    (reportSoakFloor k t s).clock.uptime = s.clock.uptime ∧ (reportSoakFloor k t s).log.entries = s.log.entries ∧
    (reportSoakFloor k t s).log.corrected = s.log.corrected ∧ (reportSoakFloor k t s).log.reported = s.log.reported ∧
    (reportSoakFloor k t s).log.uncorrectable = s.log.uncorrectable ∧
    (reportSoakFloor k t s).log.overflow = s.log.overflow ∧ (reportSoakFloor k t s).lamp.error = s.lamp.error ∧
    (reportSoakFloor k t s).scrub.count = s.scrub.count ∧ (reportSoakFloor k t s).scrub.cold = s.scrub.cold ∧
    (reportSoakFloor k t s).keypad.map = s.keypad.map ∧ (reportSoakFloor k t s).keypad.chords = s.keypad.chords ∧
    (reportSoakFloor k t s).keypad.coldDebounce = s.keypad.coldDebounce ∧
    (reportSoakFloor k t s).keypad.scanTimer = s.keypad.scanTimer ∧
    (reportSoakFloor k t s).watch.violations = s.watch.violations ∧
    (reportSoakFloor k t s).thermal.channels = s.thermal.channels ∧
    (reportSoakFloor k t s).thermal.polling = s.thermal.polling ∧
    (reportSoakFloor k t s).thermal.pollTimer = s.thermal.pollTimer ∧
    (reportSoakFloor k t s).thermal.readiness = s.thermal.readiness ∧
    (reportSoakFloor k t s).repair.table = s.repair.table ∧ (reportSoakFloor k t s).repair.spent = s.repair.spent ∧
    (reportSoakFloor k t s).repair.completed = s.repair.completed ∧
    (reportSoakFloor k t s).repair.reRepaired = s.repair.reRepaired ∧
    (reportSoakFloor k t s).repair.refused = s.repair.refused ∧
    (reportSoakFloor k t s).repair.declined = s.repair.declined ∧
    (reportSoakFloor k t s).repair.dropped = s.repair.dropped := by
  unfold reportSoakFloor; (try dsimp only); (repeat' split) <;> simp

/-- The warn-hot arming (R95). -/
@[simp] theorem armHot_frame (k : Nat) (s : State) :
    (armHot k s).loader = s.loader ∧ (armHot k s).ctl = s.ctl ∧ (armHot k s).clock = s.clock ∧
    (armHot k s).lamp = s.lamp ∧ (armHot k s).restarts = s.restarts ∧ (armHot k s).front = s.front ∧
    (armHot k s).frontResponse = s.frontResponse ∧ (armHot k s).windows = s.windows ∧ (armHot k s).port = s.port ∧
    (armHot k s).arbiter = s.arbiter ∧ (armHot k s).mem = s.mem ∧ (armHot k s).memEpoch = s.memEpoch ∧
    (armHot k s).log = s.log ∧ (armHot k s).scrub = s.scrub ∧ (armHot k s).repair = s.repair ∧
    (armHot k s).prep = s.prep ∧ (armHot k s).watch = s.watch ∧ (armHot k s).dog = s.dog ∧
    (armHot k s).trace = s.trace ∧ (armHot k s).keypad = s.keypad ∧ (armHot k s).engine = s.engine ∧
    (armHot k s).events = s.events ∧ (armHot k s).posting = s.posting ∧ (armHot k s).headers = s.headers ∧
    (armHot k s).lastUser = s.lastUser ∧ (armHot k s).resetInput = s.resetInput ∧ (armHot k s).requests = s.requests ∧
    (armHot k s).holdReleases = s.holdReleases ∧ (armHot k s).outcomes = s.outcomes ∧
    (armHot k s).watchReports = s.watchReports ∧ (armHot k s).snoopReports = s.snoopReports ∧
    (armHot k s).freeCount = s.freeCount ∧ (armHot k s).pending = s.pending ∧
    (armHot k s).thermal.polling = s.thermal.polling ∧ (armHot k s).thermal.pollTimer = s.thermal.pollTimer ∧
    (armHot k s).thermal.readiness = s.thermal.readiness ∧ (armHot k s).thermal.boardDemand = s.thermal.boardDemand ∧
    (armHot k s).thermal.panelDemand = s.thermal.panelDemand ∧
    (armHot k s).thermal.boardOutput = s.thermal.boardOutput ∧
    (armHot k s).thermal.panelOutput = s.thermal.panelOutput := by
  unfold armHot; (try dsimp only); (repeat' split) <;> simp

/-- The cold conditions reported (R50, R159). -/
@[simp] theorem reportCold_frame (s : State) :
    (reportCold s).loader = s.loader ∧ (reportCold s).ctl = s.ctl ∧ (reportCold s).clock = s.clock ∧
    (reportCold s).lamp = s.lamp ∧ (reportCold s).restarts = s.restarts ∧ (reportCold s).front = s.front ∧
    (reportCold s).frontResponse = s.frontResponse ∧ (reportCold s).windows = s.windows ∧
    (reportCold s).port = s.port ∧ (reportCold s).arbiter = s.arbiter ∧ (reportCold s).mem = s.mem ∧
    (reportCold s).memEpoch = s.memEpoch ∧ (reportCold s).log = s.log ∧ (reportCold s).repair = s.repair ∧
    (reportCold s).prep = s.prep ∧ (reportCold s).thermal = s.thermal ∧ (reportCold s).watch = s.watch ∧
    (reportCold s).dog = s.dog ∧ (reportCold s).trace = s.trace ∧ (reportCold s).engine = s.engine ∧
    (reportCold s).events = s.events ∧ (reportCold s).posting = s.posting ∧ (reportCold s).queue = s.queue ∧
    (reportCold s).missed = s.missed ∧ (reportCold s).headers = s.headers ∧ (reportCold s).lastUser = s.lastUser ∧
    (reportCold s).resetInput = s.resetInput ∧ (reportCold s).requests = s.requests ∧
    (reportCold s).holdReleases = s.holdReleases ∧ (reportCold s).outcomes = s.outcomes ∧
    (reportCold s).watchReports = s.watchReports ∧ (reportCold s).snoopReports = s.snoopReports ∧
    (reportCold s).freeCount = s.freeCount ∧ (reportCold s).pending = s.pending ∧
    (reportCold s).scrub.activity = s.scrub.activity ∧ (reportCold s).scrub.fixList = s.scrub.fixList ∧
    (reportCold s).scrub.position = s.scrub.position ∧ (reportCold s).scrub.count = s.scrub.count ∧
    (reportCold s).scrub.due = s.scrub.due ∧ (reportCold s).scrub.timer = s.scrub.timer ∧
    (reportCold s).scrub.inHand = s.scrub.inHand ∧ (reportCold s).keypad.positions = s.keypad.positions ∧
    (reportCold s).keypad.map = s.keypad.map ∧ (reportCold s).keypad.chords = s.keypad.chords ∧
    (reportCold s).keypad.scanTimer = s.keypad.scanTimer := by
  simp [reportCold]

/-- What the end of a poll with a reply keeps (R91). -/
@[simp] theorem pollEndsReply_frame (k : Nat) (t : Int) (s : State) :
    (pollEnds k (reportSoakFloor k t) s).loader = s.loader ∧
    (pollEnds k (reportSoakFloor k t) s).frontResponse = s.frontResponse ∧
    (pollEnds k (reportSoakFloor k t) s).windows = s.windows ∧
    (pollEnds k (reportSoakFloor k t) s).events = s.events ∧
    (pollEnds k (reportSoakFloor k t) s).lastUser = s.lastUser ∧
    (pollEnds k (reportSoakFloor k t) s).resetInput = s.resetInput ∧
    (pollEnds k (reportSoakFloor k t) s).requests = s.requests ∧
    (pollEnds k (reportSoakFloor k t) s).holdReleases = s.holdReleases ∧
    (pollEnds k (reportSoakFloor k t) s).outcomes = s.outcomes ∧
    (pollEnds k (reportSoakFloor k t) s).freeCount = s.freeCount ∧
    (pollEnds k (reportSoakFloor k t) s).pending = s.pending ∧
    (pollEnds k (reportSoakFloor k t) s).clock.uptime = s.clock.uptime ∧
    (pollEnds k (reportSoakFloor k t) s).log.entries = s.log.entries ∧
    (pollEnds k (reportSoakFloor k t) s).log.corrected = s.log.corrected ∧
    (pollEnds k (reportSoakFloor k t) s).log.reported = s.log.reported ∧
    (pollEnds k (reportSoakFloor k t) s).log.uncorrectable = s.log.uncorrectable ∧
    (pollEnds k (reportSoakFloor k t) s).log.overflow = s.log.overflow ∧
    (pollEnds k (reportSoakFloor k t) s).lamp.error = s.lamp.error ∧
    (pollEnds k (reportSoakFloor k t) s).scrub.count = s.scrub.count ∧
    (pollEnds k (reportSoakFloor k t) s).keypad.map = s.keypad.map ∧
    (pollEnds k (reportSoakFloor k t) s).keypad.chords = s.keypad.chords ∧
    (pollEnds k (reportSoakFloor k t) s).keypad.scanTimer = s.keypad.scanTimer ∧
    (pollEnds k (reportSoakFloor k t) s).watch.violations = s.watch.violations ∧
    (pollEnds k (reportSoakFloor k t) s).thermal.pollTimer = s.thermal.pollTimer ∧
    (pollEnds k (reportSoakFloor k t) s).repair.table = s.repair.table ∧
    (pollEnds k (reportSoakFloor k t) s).repair.spent = s.repair.spent ∧
    (pollEnds k (reportSoakFloor k t) s).repair.completed = s.repair.completed ∧
    (pollEnds k (reportSoakFloor k t) s).repair.reRepaired = s.repair.reRepaired ∧
    (pollEnds k (reportSoakFloor k t) s).repair.refused = s.repair.refused ∧
    (pollEnds k (reportSoakFloor k t) s).repair.declined = s.repair.declined ∧
    (pollEnds k (reportSoakFloor k t) s).repair.dropped = s.repair.dropped := by
  simp [pollEnds]

/-- What the end of a poll with a timeout keeps (R91). -/
@[simp] theorem pollTimesOut_frame (k : Nat) (s : State) :
    (pollTimesOut k s).loader = s.loader ∧ (pollTimesOut k s).frontResponse = s.frontResponse ∧
    (pollTimesOut k s).windows = s.windows ∧ (pollTimesOut k s).events = s.events ∧
    (pollTimesOut k s).lastUser = s.lastUser ∧ (pollTimesOut k s).resetInput = s.resetInput ∧
    (pollTimesOut k s).requests = s.requests ∧ (pollTimesOut k s).holdReleases = s.holdReleases ∧
    (pollTimesOut k s).outcomes = s.outcomes ∧ (pollTimesOut k s).freeCount = s.freeCount ∧
    (pollTimesOut k s).pending = s.pending ∧ (pollTimesOut k s).clock.uptime = s.clock.uptime ∧
    (pollTimesOut k s).log.entries = s.log.entries ∧ (pollTimesOut k s).log.corrected = s.log.corrected ∧
    (pollTimesOut k s).log.reported = s.log.reported ∧ (pollTimesOut k s).log.uncorrectable = s.log.uncorrectable ∧
    (pollTimesOut k s).log.overflow = s.log.overflow ∧ (pollTimesOut k s).lamp.error = s.lamp.error ∧
    (pollTimesOut k s).scrub.count = s.scrub.count ∧ (pollTimesOut k s).keypad.map = s.keypad.map ∧
    (pollTimesOut k s).keypad.chords = s.keypad.chords ∧ (pollTimesOut k s).keypad.scanTimer = s.keypad.scanTimer ∧
    (pollTimesOut k s).watch.violations = s.watch.violations ∧
    (pollTimesOut k s).thermal.pollTimer = s.thermal.pollTimer ∧ (pollTimesOut k s).repair.table = s.repair.table ∧
    (pollTimesOut k s).repair.spent = s.repair.spent ∧ (pollTimesOut k s).repair.completed = s.repair.completed ∧
    (pollTimesOut k s).repair.reRepaired = s.repair.reRepaired ∧
    (pollTimesOut k s).repair.refused = s.repair.refused ∧ (pollTimesOut k s).repair.declined = s.repair.declined ∧
    (pollTimesOut k s).repair.dropped = s.repair.dropped := by
  simp [pollTimesOut, pollEnds]

/-- What a reply keeps (R91). -/
@[simp] theorem takeReply_frame (k : Nat) (t : Int) (s : State) :
    (takeReply k t s).loader = s.loader ∧ (takeReply k t s).frontResponse = s.frontResponse ∧
    (takeReply k t s).windows = s.windows ∧ (takeReply k t s).events = s.events ∧
    (takeReply k t s).lastUser = s.lastUser ∧ (takeReply k t s).resetInput = s.resetInput ∧
    (takeReply k t s).requests = s.requests ∧ (takeReply k t s).holdReleases = s.holdReleases ∧
    (takeReply k t s).outcomes = s.outcomes ∧ (takeReply k t s).freeCount = s.freeCount ∧
    (takeReply k t s).pending = s.pending ∧ (takeReply k t s).clock.uptime = s.clock.uptime ∧
    (takeReply k t s).log.entries = s.log.entries ∧ (takeReply k t s).log.corrected = s.log.corrected ∧
    (takeReply k t s).log.reported = s.log.reported ∧ (takeReply k t s).log.uncorrectable = s.log.uncorrectable ∧
    (takeReply k t s).log.overflow = s.log.overflow ∧ (takeReply k t s).lamp.error = s.lamp.error ∧
    (takeReply k t s).scrub.count = s.scrub.count ∧ (takeReply k t s).keypad.map = s.keypad.map ∧
    (takeReply k t s).keypad.chords = s.keypad.chords ∧ (takeReply k t s).keypad.scanTimer = s.keypad.scanTimer ∧
    (takeReply k t s).watch.violations = s.watch.violations ∧
    (takeReply k t s).thermal.pollTimer = s.thermal.pollTimer ∧ (takeReply k t s).repair.table = s.repair.table ∧
    (takeReply k t s).repair.spent = s.repair.spent ∧ (takeReply k t s).repair.completed = s.repair.completed ∧
    (takeReply k t s).repair.reRepaired = s.repair.reRepaired ∧ (takeReply k t s).repair.refused = s.repair.refused ∧
    (takeReply k t s).repair.declined = s.repair.declined ∧ (takeReply k t s).repair.dropped = s.repair.dropped := by
  unfold takeReply; (try dsimp only); (repeat' split) <;> simp

/-- What a finish report keeps (R80). -/
@[simp] theorem finishReport_frame (doubtful : Bool) (s : State) :
    (finishReport doubtful s).loader = s.loader ∧ (finishReport doubtful s).restarts = s.restarts ∧
    (finishReport doubtful s).frontResponse = s.frontResponse ∧ (finishReport doubtful s).windows = s.windows ∧
    (finishReport doubtful s).lastUser = s.lastUser ∧ (finishReport doubtful s).resetInput = s.resetInput ∧
    (finishReport doubtful s).requests = s.requests ∧ (finishReport doubtful s).holdReleases = s.holdReleases ∧
    (finishReport doubtful s).outcomes = s.outcomes ∧ (finishReport doubtful s).freeCount = s.freeCount ∧
    (finishReport doubtful s).pending = s.pending ∧ (finishReport doubtful s).clock.uptime = s.clock.uptime ∧
    (finishReport doubtful s).log.entries = s.log.entries ∧
    (finishReport doubtful s).log.corrected = s.log.corrected ∧
    (finishReport doubtful s).log.reported = s.log.reported ∧
    (finishReport doubtful s).log.uncorrectable = s.log.uncorrectable ∧
    (finishReport doubtful s).log.overflow = s.log.overflow ∧ (finishReport doubtful s).scrub.count = s.scrub.count ∧
    (finishReport doubtful s).scrub.cold = s.scrub.cold ∧ (finishReport doubtful s).keypad.map = s.keypad.map ∧
    (finishReport doubtful s).keypad.chords = s.keypad.chords ∧
    (finishReport doubtful s).keypad.coldDebounce = s.keypad.coldDebounce ∧
    (finishReport doubtful s).keypad.scanTimer = s.keypad.scanTimer ∧
    (finishReport doubtful s).watch.violations = s.watch.violations ∧
    (finishReport doubtful s).thermal.channels = s.thermal.channels ∧
    (finishReport doubtful s).thermal.polling = s.thermal.polling ∧
    (finishReport doubtful s).thermal.pollTimer = s.thermal.pollTimer ∧
    (finishReport doubtful s).thermal.readiness = s.thermal.readiness ∧
    (finishReport doubtful s).repair.table = s.repair.table ∧
    (finishReport doubtful s).repair.spent = s.repair.spent ∧
    (finishReport doubtful s).repair.completed = s.repair.completed ∧
    (finishReport doubtful s).repair.reRepaired = s.repair.reRepaired ∧
    (finishReport doubtful s).repair.refused = s.repair.refused ∧
    (finishReport doubtful s).repair.declined = s.repair.declined ∧
    (finishReport doubtful s).repair.dropped = s.repair.dropped := by
  unfold finishReport; (try dsimp only); (repeat' split) <;> simp

/-- What the end of a pass keeps (R109). -/
@[simp] theorem endPass_frame (s : State) :
    (endPass s).loader = s.loader ∧ (endPass s).restarts = s.restarts ∧ (endPass s).frontResponse = s.frontResponse ∧
    (endPass s).windows = s.windows ∧ (endPass s).lastUser = s.lastUser ∧ (endPass s).resetInput = s.resetInput ∧
    (endPass s).requests = s.requests ∧ (endPass s).holdReleases = s.holdReleases ∧
    (endPass s).outcomes = s.outcomes ∧ (endPass s).freeCount = s.freeCount ∧ (endPass s).pending = s.pending ∧
    (endPass s).clock.uptime = s.clock.uptime ∧ (endPass s).log.entries = s.log.entries ∧
    (endPass s).log.corrected = s.log.corrected ∧ (endPass s).log.reported = s.log.reported ∧
    (endPass s).log.uncorrectable = s.log.uncorrectable ∧ (endPass s).log.overflow = s.log.overflow ∧
    (endPass s).scrub.count = s.scrub.count ∧ (endPass s).scrub.cold = s.scrub.cold ∧
    (endPass s).keypad.map = s.keypad.map ∧ (endPass s).keypad.chords = s.keypad.chords ∧
    (endPass s).keypad.coldDebounce = s.keypad.coldDebounce ∧ (endPass s).keypad.scanTimer = s.keypad.scanTimer ∧
    (endPass s).watch.violations = s.watch.violations ∧ (endPass s).thermal.channels = s.thermal.channels ∧
    (endPass s).thermal.polling = s.thermal.polling ∧ (endPass s).thermal.pollTimer = s.thermal.pollTimer ∧
    (endPass s).thermal.readiness = s.thermal.readiness ∧ (endPass s).repair.table = s.repair.table ∧
    (endPass s).repair.spent = s.repair.spent ∧ (endPass s).repair.completed = s.repair.completed ∧
    (endPass s).repair.reRepaired = s.repair.reRepaired ∧ (endPass s).repair.refused = s.repair.refused ∧
    (endPass s).repair.declined = s.repair.declined ∧ (endPass s).repair.dropped = s.repair.dropped := by
  unfold endPass zeroSweepReport; (try dsimp only); (repeat' split) <;> simp

/-- What the next group of a CHECK-RANGE keeps (R114). -/
@[simp] theorem checkAdvance_frame (r : CheckRange) (s : State) :
    (checkAdvance r s).loader = s.loader ∧ (checkAdvance r s).ctl = s.ctl ∧ (checkAdvance r s).clock = s.clock ∧
    (checkAdvance r s).lamp = s.lamp ∧ (checkAdvance r s).restarts = s.restarts ∧ (checkAdvance r s).front = s.front ∧
    (checkAdvance r s).frontResponse = s.frontResponse ∧ (checkAdvance r s).windows = s.windows ∧
    (checkAdvance r s).port = s.port ∧ (checkAdvance r s).mem = s.mem ∧ (checkAdvance r s).memEpoch = s.memEpoch ∧
    (checkAdvance r s).log = s.log ∧ (checkAdvance r s).scrub = s.scrub ∧ (checkAdvance r s).repair = s.repair ∧
    (checkAdvance r s).thermal = s.thermal ∧ (checkAdvance r s).watch = s.watch ∧ (checkAdvance r s).dog = s.dog ∧
    (checkAdvance r s).trace = s.trace ∧ (checkAdvance r s).keypad = s.keypad ∧ (checkAdvance r s).events = s.events ∧
    (checkAdvance r s).posting = s.posting ∧ (checkAdvance r s).queue = s.queue ∧
    (checkAdvance r s).missed = s.missed ∧ (checkAdvance r s).headers = s.headers ∧
    (checkAdvance r s).lastUser = s.lastUser ∧ (checkAdvance r s).resetInput = s.resetInput ∧
    (checkAdvance r s).requests = s.requests ∧ (checkAdvance r s).holdReleases = s.holdReleases ∧
    (checkAdvance r s).outcomes = s.outcomes ∧ (checkAdvance r s).watchReports = s.watchReports ∧
    (checkAdvance r s).snoopReports = s.snoopReports ∧ (checkAdvance r s).pending = s.pending ∧
    (checkAdvance r s).engine.submit = s.engine.submit ∧ (checkAdvance r s).engine.done = s.engine.done ∧
    (checkAdvance r s).engine.record = s.engine.record ∧
    (checkAdvance r s).engine.faultPending = s.engine.faultPending := by
  unfold checkAdvance; (try dsimp only); (repeat' split) <;> simp

end Sys2Proof.Machine
end

