-- ==== Sys2Proof/Laws/Leaving.lean ====
section
/-! SUPPORT. The change of regime, block by block: what each block does when RUNNING is left, the scrubber's news, the loss
of board power, and what a change of regime leaves at the scrubber, the repair unit and the preparation engine. -/

namespace Sys2Proof.Machine

/-! ## Leaving RUNNING -/

/-- A front transaction in its access stays (R14). -/
theorem frontLeave_granted (s : State) (x : FrontTxn) (h : s.front = some x) (hx : x.phase = .access) :
    frontLeave s = s := by
  unfold frontLeave; rw [h]; exact if_pos hx

/-- A front transaction not yet granted is discarded with its request (R14). -/
theorem frontLeave_waiting (s : State) (x : FrontTxn) (h : s.front = some x) (hx : x.phase ≠ .access) :
    frontLeave s = withdraw .front { s with front := none } := by
  unfold frontLeave; rw [h]; exact if_neg hx

/-- An empty front port is left as it is. -/
theorem frontLeave_empty (s : State) (h : s.front = none) : frontLeave s = s := by
  unfold frontLeave; rw [h]

/-- A CHECK-RANGE is abandoned (R116). -/
theorem checkLeave_checking (s : State) (h : s.prep.activity = .checking) : checkLeave s = prepAbandon s := if_pos h

/-- An engine that checks no range is left as it is. -/
theorem checkLeave_other (s : State) (h : s.prep.activity ≠ .checking) : checkLeave s = s := if_neg h

/-- What abandoning a CHECK-RANGE leaves at the arbiter. -/
theorem checkLeave_arbiter (s : State) :
    (checkLeave s).arbiter.front = s.arbiter.front ∧ (checkLeave s).arbiter.repair = s.arbiter.repair ∧
      (checkLeave s).arbiter.scrub = s.arbiter.scrub := by
  unfold checkLeave prepAbandon withdraw; split <;> simp [Arbiter.set]

/-- What discarding a front transaction leaves at the arbiter. -/
theorem frontLeave_arbiter (s : State) :
    (frontLeave s).arbiter.repair = s.arbiter.repair ∧ (frontLeave s).arbiter.prep = s.arbiter.prep ∧
      (frontLeave s).arbiter.scrub = s.arbiter.scrub := by
  unfold frontLeave withdraw; split
  · split <;> simp [Arbiter.set]
  · simp

/-- The blocks after the preparation engine leave the front port, the port and the engine as they are, and the arbiter but
for the mailbox unit's request. -/
theorem laterBlocks_leave (s : State) :
    let t := keypadLeave (mailboxLeave (dogLeave (watchLeave s)))
    t.front = s.front ∧ t.port = s.port ∧ t.prep = s.prep ∧ t.arbiter = { s.arbiter with mailbox := none } :=
  ⟨rfl, rfl, rfl, rfl⟩

/-- The front port and its request when RUNNING is left are those of `frontLeave` (R14). -/
theorem leaveRunning_front (s : State) :
    (leaveRunning s).front = (frontLeave s).front ∧ (leaveRunning s).arbiter.front = (frontLeave s).arbiter.front := by
  unfold leaveRunning
  obtain ⟨h1, _, _, h4⟩ := laterBlocks_leave (checkLeave (portLeave (reportsLeave (frontLeave s))))
  rw [h1, h4]
  exact ⟨by simp, (checkLeave_arbiter _).1⟩

/-- The access at the port when RUNNING is left: marked where it is abandoned (R14, R42, R116, R184). -/
theorem leaveRunning_port (s : State) :
    (leaveRunning s).port = s.port.map fun a => if a.abandoned then { a with discarded := true } else a := by
  have h : ∀ y : State, (portLeave y).port = y.port.map fun a => if a.abandoned then { a with discarded := true } else a :=
    fun y => rfl
  unfold leaveRunning
  rw [(laterBlocks_leave _).2.1, (show ∀ y : State, (checkLeave y).port = y.port from fun y => by simp), h]
  simp

/-- The requests of the mailbox unit, the repair unit and the scrubber when RUNNING is left (R44, R65, R184). -/
theorem leaveRunning_arbiter (s : State) :
    (leaveRunning s).arbiter.mailbox = none ∧ (leaveRunning s).arbiter.repair = s.arbiter.repair ∧
      (leaveRunning s).arbiter.scrub = s.arbiter.scrub := by
  unfold leaveRunning
  rw [(laterBlocks_leave _).2.2.2]
  obtain ⟨_, h2, h3⟩ := checkLeave_arbiter (portLeave (reportsLeave (frontLeave s)))
  refine ⟨rfl, ?_, ?_⟩
  · exact h2.trans (frontLeave_arbiter s).1
  · exact h3.trans (frontLeave_arbiter s).2.2

/-! ## The blocks' news of a change -/

/-- The step in hand is handled without a change to the other requesters' requests. -/
theorem prepHandle_arbiter (s : State) :
    (prepHandle s).arbiter.scrub = s.arbiter.scrub ∧ (prepHandle s).arbiter.repair = s.arbiter.repair ∧
      (prepHandle s).arbiter.front = s.arbiter.front ∧ (prepHandle s).arbiter.mailbox = s.arbiter.mailbox := by
  have hreq : s.prepAccess.requester = .prep := by
    unfold State.prepAccess; split
    · rfl
    · split <;> rfl
  unfold prepHandle enterWaiting place; dsimp only; rw [hreq]
  split
  · split <;> simp
  · simp [Arbiter.set]

/-- The preparation engine's news leaves the other requesters' requests as they are. -/
theorem prepNews_arbiter (old new : Regime) (s : State) :
    (prepNews old new s).arbiter.scrub = s.arbiter.scrub ∧ (prepNews old new s).arbiter.repair = s.arbiter.repair ∧
      (prepNews old new s).arbiter.front = s.arbiter.front ∧
      (prepNews old new s).arbiter.mailbox = s.arbiter.mailbox := by
  unfold prepNews; split
  · unfold beginPass; exact prepHandle_arbiter _
  · split
    · simp [prepAbandon, withdraw, Arbiter.set]
    · simp

/-- The scrubber's news leaves the other requesters' requests as they are. -/
theorem scrubNews_arbiter (s : State) :
    (scrubNews s).arbiter.prep = s.arbiter.prep ∧ (scrubNews s).arbiter.front = s.arbiter.front ∧
      (scrubNews s).arbiter.mailbox = s.arbiter.mailbox ∧ (scrubNews s).arbiter.repair = s.arbiter.repair := by
  unfold scrubNews chooseWork scrubServe withdraw place; dsimp only
  (repeat' split) <;> simp [Arbiter.set, State.scrubAccess, State.accessAt] <;> (repeat' split) <;> simp

/-! ## A change of regime -/

/-- The state that the scrubber has its news in, in a change of regime. -/
def beforeScrubNews (new : Regime) (s : State) : State :=
  let old := s.ctl.regime
  let s := if old = .running ∧ new ≠ .running then leaveRunning s else s
  let s := setRegime new s
  let s := if old.powered && !new.powered then losePower s else s
  let s := if new = .running then enterRunning s else s
  prepNews old new s

theorem changeRegime_eq (new : Regime) (s : State) :
    changeRegime new s = lampUpdate (evalHeaters (scrubNews (beforeScrubNews new s))) := rfl

/-- The lamp and the heaters alone change after the scrubber's news. -/
theorem lampUpdate_evalHeaters (s : State) :
    let t := lampUpdate (evalHeaters s)
    t = { s with lamp := t.lamp, thermal := t.thermal } := by
  unfold lampUpdate evalHeaters admitHeaters evalDemands
  dsimp only
  split <;> rfl

/-- With board power kept, the scrubber, the repair unit and their requests come to the news as they were. -/
theorem beforeScrubNews_kept (new : Regime) (s : State) (h : ¬ (s.ctl.regime.powered = true ∧ new.powered = false)) :
    let b := beforeScrubNews new s
    b.scrub = s.scrub ∧ b.repair = s.repair ∧ b.arbiter.scrub = s.arbiter.scrub ∧
      b.arbiter.repair = s.arbiter.repair ∧ b.windows = s.windows ∧ b.loader = s.loader ∧
      b.ctl.memValid = s.ctl.memValid ∧ b.ctl.regime = new := by
  have hl : (s.ctl.regime.powered && !new.powered) = false := by
    cases h1 : s.ctl.regime.powered <;> cases h2 : new.powered <;> simp_all
  unfold beforeScrubNews
  dsimp only
  rw [hl]
  simp only [Bool.false_eq_true, if_false]
  have := leaveRunning_arbiter s
  have := prepNews_arbiter
  (repeat' split) <;> simp [enterRunning, setRegime, regimeTimers, *]

/-- With board power lost, the work on the contents of memory is discarded (R14, R23, R45, R64, R177). -/
theorem beforeScrubNews_lost (new : Regime) (s : State) (h : s.ctl.regime.powered = true ∧ new.powered = false) :
    let b := beforeScrubNews new s
    b.scrub = { s.scrub with
      activity := .paused, fixList := [], position := 0, due := false, timer := .stopped, inHand := none } ∧
    b.repair = { s.repair with
      migration := none, reservation := none, requests := []
      abandoned := if s.repair.migration.isSome then satInc s.repair.abandoned else s.repair.abandoned } ∧
    b.arbiter.scrub = none ∧ b.arbiter.repair = none ∧ b.arbiter.front = none ∧ b.arbiter.mailbox = none ∧
    b.ctl.memValid = false ∧ b.mem = [] ∧ b.port = none ∧ b.front = none ∧ b.headers = [] := by
  have hl : (s.ctl.regime.powered && !new.powered) = true := by simp [h]
  have hn : new ≠ .running := by rintro rfl; exact absurd h.2 (by decide)
  have hn2 : new ≠ .preparing := by rintro rfl; exact absurd h.2 (by decide)
  unfold beforeScrubNews
  dsimp only
  rw [hl]
  simp only [if_true, if_neg hn]
  have := prepNews_arbiter
  (repeat' split) <;>
    simp [setRegime, regimeTimers, losePower, scrubPowerOff, repairPowerOff, withdraw, Arbiter.set, *]

end Sys2Proof.Machine
end

