-- ==== Sys2Proof/Laws/Watch.lean ====
section
/-! SUPPORT. The operations of the restart supervisor, the keypad scanner and the mailbox unit: what each leaves as it was. -/

namespace Sys2Proof.Machine

/-- A watch signal at the watchdog (R136 to R139). -/
@[simp] theorem dogSignal_frame (kick boot : Bool) (s : State) :
    (dogSignal kick boot s).loader = s.loader ∧ (dogSignal kick boot s).ctl = s.ctl ∧
    (dogSignal kick boot s).clock = s.clock ∧ (dogSignal kick boot s).lamp = s.lamp ∧
    (dogSignal kick boot s).restarts = s.restarts ∧ (dogSignal kick boot s).front = s.front ∧
    (dogSignal kick boot s).frontResponse = s.frontResponse ∧ (dogSignal kick boot s).windows = s.windows ∧
    (dogSignal kick boot s).port = s.port ∧ (dogSignal kick boot s).arbiter = s.arbiter ∧
    (dogSignal kick boot s).mem = s.mem ∧ (dogSignal kick boot s).memEpoch = s.memEpoch ∧
    (dogSignal kick boot s).log = s.log ∧ (dogSignal kick boot s).scrub = s.scrub ∧
    (dogSignal kick boot s).repair = s.repair ∧ (dogSignal kick boot s).prep = s.prep ∧
    (dogSignal kick boot s).thermal = s.thermal ∧ (dogSignal kick boot s).watch = s.watch ∧
    (dogSignal kick boot s).trace = s.trace ∧ (dogSignal kick boot s).keypad = s.keypad ∧
    (dogSignal kick boot s).engine = s.engine ∧ (dogSignal kick boot s).events = s.events ∧
    (dogSignal kick boot s).posting = s.posting ∧ (dogSignal kick boot s).queue = s.queue ∧
    (dogSignal kick boot s).missed = s.missed ∧ (dogSignal kick boot s).headers = s.headers ∧
    (dogSignal kick boot s).lastUser = s.lastUser ∧ (dogSignal kick boot s).resetInput = s.resetInput ∧
    (dogSignal kick boot s).holdReleases = s.holdReleases ∧ (dogSignal kick boot s).outcomes = s.outcomes ∧
    (dogSignal kick boot s).watchReports = s.watchReports ∧ (dogSignal kick boot s).snoopReports = s.snoopReports ∧
    (dogSignal kick boot s).freeCount = s.freeCount ∧ (dogSignal kick boot s).pending = s.pending ∧
    (dogSignal kick boot s).dog.period = s.dog.period ∧ (dogSignal kick boot s).dog.warnWindow = s.dog.warnWindow ∧
    (dogSignal kick boot s).dog.minInterval = s.dog.minInterval ∧
    (dogSignal kick boot s).dog.warnings = s.dog.warnings := by
  unfold dogSignal; (try dsimp only); (repeat' split) <;> simp

/-- What the matches of a report do (R122 to R125). -/
@[simp] theorem actOn_frame (r : FrontReport) (s : State) :
    (actOn r s).loader = s.loader ∧ (actOn r s).ctl = s.ctl ∧ (actOn r s).clock = s.clock ∧
    (actOn r s).lamp = s.lamp ∧ (actOn r s).front = s.front ∧ (actOn r s).frontResponse = s.frontResponse ∧
    (actOn r s).windows = s.windows ∧ (actOn r s).port = s.port ∧ (actOn r s).arbiter = s.arbiter ∧
    (actOn r s).mem = s.mem ∧ (actOn r s).memEpoch = s.memEpoch ∧ (actOn r s).log = s.log ∧
    (actOn r s).scrub = s.scrub ∧ (actOn r s).repair = s.repair ∧ (actOn r s).prep = s.prep ∧
    (actOn r s).thermal = s.thermal ∧ (actOn r s).trace = s.trace ∧ (actOn r s).keypad = s.keypad ∧
    (actOn r s).engine = s.engine ∧ (actOn r s).events = s.events ∧ (actOn r s).posting = s.posting ∧
    (actOn r s).queue = s.queue ∧ (actOn r s).missed = s.missed ∧ (actOn r s).headers = s.headers ∧
    (actOn r s).lastUser = s.lastUser ∧ (actOn r s).resetInput = s.resetInput ∧
    (actOn r s).holdReleases = s.holdReleases ∧ (actOn r s).outcomes = s.outcomes ∧
    (actOn r s).watchReports = s.watchReports ∧ (actOn r s).snoopReports = s.snoopReports ∧
    (actOn r s).freeCount = s.freeCount ∧ (actOn r s).pending = s.pending ∧ (actOn r s).watch.lock = s.watch.lock ∧
    (actOn r s).watch.violations = s.watch.violations ∧ (actOn r s).restarts.history = s.restarts.history ∧
    (actOn r s).restarts.total = s.restarts.total ∧ (actOn r s).restarts.escalation = s.restarts.escalation ∧
    (actOn r s).dog.period = s.dog.period ∧ (actOn r s).dog.warnWindow = s.dog.warnWindow ∧
    (actOn r s).dog.minInterval = s.dog.minInterval ∧ (actOn r s).dog.warnings = s.dog.warnings := by
  unfold actOn; (try dsimp only); (repeat' split) <;> simp

/-- A lock violation (R132). -/
@[simp] theorem lockViolation_frame (s : State) :
    (lockViolation s).loader = s.loader ∧ (lockViolation s).ctl = s.ctl ∧ (lockViolation s).clock = s.clock ∧
    (lockViolation s).lamp = s.lamp ∧ (lockViolation s).restarts = s.restarts ∧ (lockViolation s).front = s.front ∧
    (lockViolation s).frontResponse = s.frontResponse ∧ (lockViolation s).windows = s.windows ∧
    (lockViolation s).port = s.port ∧ (lockViolation s).arbiter = s.arbiter ∧ (lockViolation s).mem = s.mem ∧
    (lockViolation s).memEpoch = s.memEpoch ∧ (lockViolation s).log = s.log ∧ (lockViolation s).scrub = s.scrub ∧
    (lockViolation s).repair = s.repair ∧ (lockViolation s).prep = s.prep ∧ (lockViolation s).thermal = s.thermal ∧
    (lockViolation s).dog = s.dog ∧ (lockViolation s).trace = s.trace ∧ (lockViolation s).keypad = s.keypad ∧
    (lockViolation s).engine = s.engine ∧ (lockViolation s).events = s.events ∧
    (lockViolation s).posting = s.posting ∧ (lockViolation s).queue = s.queue ∧ (lockViolation s).missed = s.missed ∧
    (lockViolation s).headers = s.headers ∧ (lockViolation s).lastUser = s.lastUser ∧
    (lockViolation s).resetInput = s.resetInput ∧ (lockViolation s).holdReleases = s.holdReleases ∧
    (lockViolation s).outcomes = s.outcomes ∧ (lockViolation s).watchReports = s.watchReports ∧
    (lockViolation s).snoopReports = s.snoopReports ∧ (lockViolation s).freeCount = s.freeCount ∧
    (lockViolation s).pending = s.pending ∧ (lockViolation s).watch.entries = s.watch.entries ∧
    (lockViolation s).watch.hits = s.watch.hits ∧ (lockViolation s).watch.lastStage = s.watch.lastStage ∧
    (lockViolation s).watch.senders = s.watch.senders ∧ (lockViolation s).watch.lock = s.watch.lock := by
  unfold lockViolation; (try dsimp only); (repeat' split) <;> simp

/-- A KEY notice (R167). -/
@[simp] theorem keyNotice_frame (event : KeyEvent) (p : Nat) (repeats stuckCount : Option Byte) (s : State) :
    (keyNotice event p repeats stuckCount s).loader = s.loader ∧
    (keyNotice event p repeats stuckCount s).ctl = s.ctl ∧ (keyNotice event p repeats stuckCount s).clock = s.clock ∧
    (keyNotice event p repeats stuckCount s).lamp = s.lamp ∧
    (keyNotice event p repeats stuckCount s).restarts = s.restarts ∧
    (keyNotice event p repeats stuckCount s).front = s.front ∧
    (keyNotice event p repeats stuckCount s).frontResponse = s.frontResponse ∧
    (keyNotice event p repeats stuckCount s).windows = s.windows ∧
    (keyNotice event p repeats stuckCount s).port = s.port ∧
    (keyNotice event p repeats stuckCount s).arbiter = s.arbiter ∧
    (keyNotice event p repeats stuckCount s).mem = s.mem ∧
    (keyNotice event p repeats stuckCount s).memEpoch = s.memEpoch ∧
    (keyNotice event p repeats stuckCount s).log = s.log ∧ (keyNotice event p repeats stuckCount s).scrub = s.scrub ∧
    (keyNotice event p repeats stuckCount s).repair = s.repair ∧
    (keyNotice event p repeats stuckCount s).prep = s.prep ∧
    (keyNotice event p repeats stuckCount s).thermal = s.thermal ∧
    (keyNotice event p repeats stuckCount s).watch = s.watch ∧ (keyNotice event p repeats stuckCount s).dog = s.dog ∧
    (keyNotice event p repeats stuckCount s).trace = s.trace ∧
    (keyNotice event p repeats stuckCount s).keypad = s.keypad ∧
    (keyNotice event p repeats stuckCount s).engine = s.engine ∧
    (keyNotice event p repeats stuckCount s).events = s.events ∧
    (keyNotice event p repeats stuckCount s).posting = s.posting ∧
    (keyNotice event p repeats stuckCount s).headers = s.headers ∧
    (keyNotice event p repeats stuckCount s).lastUser = s.lastUser ∧
    (keyNotice event p repeats stuckCount s).resetInput = s.resetInput ∧
    (keyNotice event p repeats stuckCount s).requests = s.requests ∧
    (keyNotice event p repeats stuckCount s).holdReleases = s.holdReleases ∧
    (keyNotice event p repeats stuckCount s).outcomes = s.outcomes ∧
    (keyNotice event p repeats stuckCount s).watchReports = s.watchReports ∧
    (keyNotice event p repeats stuckCount s).snoopReports = s.snoopReports ∧
    (keyNotice event p repeats stuckCount s).freeCount = s.freeCount ∧
    (keyNotice event p repeats stuckCount s).pending = s.pending := by
  simp [keyNotice]

/-- A CHORD notice (R171). -/
@[simp] theorem chordNotice_frame (i : Nat) (result : ChordResult) (regime : Regime) (s : State) :
    (chordNotice i result regime s).loader = s.loader ∧ (chordNotice i result regime s).ctl = s.ctl ∧
    (chordNotice i result regime s).clock = s.clock ∧ (chordNotice i result regime s).lamp = s.lamp ∧
    (chordNotice i result regime s).restarts = s.restarts ∧ (chordNotice i result regime s).front = s.front ∧
    (chordNotice i result regime s).frontResponse = s.frontResponse ∧
    (chordNotice i result regime s).windows = s.windows ∧ (chordNotice i result regime s).port = s.port ∧
    (chordNotice i result regime s).arbiter = s.arbiter ∧ (chordNotice i result regime s).mem = s.mem ∧
    (chordNotice i result regime s).memEpoch = s.memEpoch ∧ (chordNotice i result regime s).log = s.log ∧
    (chordNotice i result regime s).scrub = s.scrub ∧ (chordNotice i result regime s).repair = s.repair ∧
    (chordNotice i result regime s).prep = s.prep ∧ (chordNotice i result regime s).thermal = s.thermal ∧
    (chordNotice i result regime s).watch = s.watch ∧ (chordNotice i result regime s).dog = s.dog ∧
    (chordNotice i result regime s).trace = s.trace ∧ (chordNotice i result regime s).keypad = s.keypad ∧
    (chordNotice i result regime s).engine = s.engine ∧ (chordNotice i result regime s).events = s.events ∧
    (chordNotice i result regime s).posting = s.posting ∧ (chordNotice i result regime s).headers = s.headers ∧
    (chordNotice i result regime s).lastUser = s.lastUser ∧
    (chordNotice i result regime s).resetInput = s.resetInput ∧
    (chordNotice i result regime s).requests = s.requests ∧
    (chordNotice i result regime s).holdReleases = s.holdReleases ∧
    (chordNotice i result regime s).outcomes = s.outcomes ∧
    (chordNotice i result regime s).watchReports = s.watchReports ∧
    (chordNotice i result regime s).snoopReports = s.snoopReports ∧
    (chordNotice i result regime s).freeCount = s.freeCount ∧ (chordNotice i result regime s).pending = s.pending := by
  simp [chordNotice]

/-- A position becomes DOWN (R160). -/
@[simp] theorem becomeDown_frame (p : Nat) (s : State) :
    (becomeDown p s).loader = s.loader ∧ (becomeDown p s).ctl = s.ctl ∧ (becomeDown p s).clock = s.clock ∧
    (becomeDown p s).lamp = s.lamp ∧ (becomeDown p s).restarts = s.restarts ∧ (becomeDown p s).front = s.front ∧
    (becomeDown p s).frontResponse = s.frontResponse ∧ (becomeDown p s).windows = s.windows ∧
    (becomeDown p s).port = s.port ∧ (becomeDown p s).arbiter = s.arbiter ∧ (becomeDown p s).mem = s.mem ∧
    (becomeDown p s).memEpoch = s.memEpoch ∧ (becomeDown p s).log = s.log ∧ (becomeDown p s).scrub = s.scrub ∧
    (becomeDown p s).repair = s.repair ∧ (becomeDown p s).prep = s.prep ∧ (becomeDown p s).thermal = s.thermal ∧
    (becomeDown p s).watch = s.watch ∧ (becomeDown p s).dog = s.dog ∧ (becomeDown p s).trace = s.trace ∧
    (becomeDown p s).engine = s.engine ∧ (becomeDown p s).events = s.events ∧ (becomeDown p s).posting = s.posting ∧
    (becomeDown p s).headers = s.headers ∧ (becomeDown p s).lastUser = s.lastUser ∧
    (becomeDown p s).resetInput = s.resetInput ∧ (becomeDown p s).requests = s.requests ∧
    (becomeDown p s).holdReleases = s.holdReleases ∧ (becomeDown p s).outcomes = s.outcomes ∧
    (becomeDown p s).watchReports = s.watchReports ∧ (becomeDown p s).snoopReports = s.snoopReports ∧
    (becomeDown p s).freeCount = s.freeCount ∧ (becomeDown p s).pending = s.pending ∧
    (becomeDown p s).keypad.map = s.keypad.map ∧ (becomeDown p s).keypad.chords = s.keypad.chords ∧
    (becomeDown p s).keypad.coldDebounce = s.keypad.coldDebounce ∧
    (becomeDown p s).keypad.scanTimer = s.keypad.scanTimer := by
  unfold becomeDown; (try dsimp only); (repeat' split) <;> simp

/-- A press completes (R160). -/
@[simp] theorem pressCompletes_frame (p : Nat) (s : State) :
    (pressCompletes p s).loader = s.loader ∧ (pressCompletes p s).ctl = s.ctl ∧ (pressCompletes p s).clock = s.clock ∧
    (pressCompletes p s).lamp = s.lamp ∧ (pressCompletes p s).restarts = s.restarts ∧
    (pressCompletes p s).front = s.front ∧ (pressCompletes p s).frontResponse = s.frontResponse ∧
    (pressCompletes p s).windows = s.windows ∧ (pressCompletes p s).port = s.port ∧
    (pressCompletes p s).arbiter = s.arbiter ∧ (pressCompletes p s).mem = s.mem ∧
    (pressCompletes p s).memEpoch = s.memEpoch ∧ (pressCompletes p s).log = s.log ∧
    (pressCompletes p s).scrub = s.scrub ∧ (pressCompletes p s).repair = s.repair ∧
    (pressCompletes p s).prep = s.prep ∧ (pressCompletes p s).thermal = s.thermal ∧
    (pressCompletes p s).watch = s.watch ∧ (pressCompletes p s).dog = s.dog ∧ (pressCompletes p s).trace = s.trace ∧
    (pressCompletes p s).engine = s.engine ∧ (pressCompletes p s).events = s.events ∧
    (pressCompletes p s).posting = s.posting ∧ (pressCompletes p s).headers = s.headers ∧
    (pressCompletes p s).lastUser = s.lastUser ∧ (pressCompletes p s).resetInput = s.resetInput ∧
    (pressCompletes p s).requests = s.requests ∧ (pressCompletes p s).holdReleases = s.holdReleases ∧
    (pressCompletes p s).outcomes = s.outcomes ∧ (pressCompletes p s).watchReports = s.watchReports ∧
    (pressCompletes p s).snoopReports = s.snoopReports ∧ (pressCompletes p s).freeCount = s.freeCount ∧
    (pressCompletes p s).pending = s.pending ∧ (pressCompletes p s).keypad.map = s.keypad.map ∧
    (pressCompletes p s).keypad.chords = s.keypad.chords ∧
    (pressCompletes p s).keypad.coldDebounce = s.keypad.coldDebounce ∧
    (pressCompletes p s).keypad.scanTimer = s.keypad.scanTimer := by
  unfold pressCompletes; (try dsimp only); (repeat' split) <;> simp

/-- A release completes (R158). -/
@[simp] theorem releaseCompletes_frame (p : Nat) (l : Leaving) (s : State) :
    (releaseCompletes p l s).loader = s.loader ∧ (releaseCompletes p l s).ctl = s.ctl ∧
    (releaseCompletes p l s).clock = s.clock ∧ (releaseCompletes p l s).lamp = s.lamp ∧
    (releaseCompletes p l s).restarts = s.restarts ∧ (releaseCompletes p l s).front = s.front ∧
    (releaseCompletes p l s).frontResponse = s.frontResponse ∧ (releaseCompletes p l s).windows = s.windows ∧
    (releaseCompletes p l s).port = s.port ∧ (releaseCompletes p l s).arbiter = s.arbiter ∧
    (releaseCompletes p l s).mem = s.mem ∧ (releaseCompletes p l s).memEpoch = s.memEpoch ∧
    (releaseCompletes p l s).log = s.log ∧ (releaseCompletes p l s).scrub = s.scrub ∧
    (releaseCompletes p l s).repair = s.repair ∧ (releaseCompletes p l s).prep = s.prep ∧
    (releaseCompletes p l s).thermal = s.thermal ∧ (releaseCompletes p l s).watch = s.watch ∧
    (releaseCompletes p l s).dog = s.dog ∧ (releaseCompletes p l s).trace = s.trace ∧
    (releaseCompletes p l s).engine = s.engine ∧ (releaseCompletes p l s).events = s.events ∧
    (releaseCompletes p l s).posting = s.posting ∧ (releaseCompletes p l s).headers = s.headers ∧
    (releaseCompletes p l s).lastUser = s.lastUser ∧ (releaseCompletes p l s).resetInput = s.resetInput ∧
    (releaseCompletes p l s).requests = s.requests ∧ (releaseCompletes p l s).holdReleases = s.holdReleases ∧
    (releaseCompletes p l s).outcomes = s.outcomes ∧ (releaseCompletes p l s).watchReports = s.watchReports ∧
    (releaseCompletes p l s).snoopReports = s.snoopReports ∧ (releaseCompletes p l s).freeCount = s.freeCount ∧
    (releaseCompletes p l s).pending = s.pending ∧ (releaseCompletes p l s).keypad.map = s.keypad.map ∧
    (releaseCompletes p l s).keypad.chords = s.keypad.chords ∧
    (releaseCompletes p l s).keypad.coldDebounce = s.keypad.coldDebounce ∧
    (releaseCompletes p l s).keypad.scanTimer = s.keypad.scanTimer := by
  unfold releaseCompletes; (try dsimp only); (repeat' split) <;> simp

/-- Debounce of one position (R158). -/
@[simp] theorem debounceKey_frame (contacts : BitVec 64) (p : Nat) (s : State) :
    (debounceKey contacts s p).loader = s.loader ∧ (debounceKey contacts s p).ctl = s.ctl ∧
    (debounceKey contacts s p).clock = s.clock ∧ (debounceKey contacts s p).lamp = s.lamp ∧
    (debounceKey contacts s p).restarts = s.restarts ∧ (debounceKey contacts s p).front = s.front ∧
    (debounceKey contacts s p).frontResponse = s.frontResponse ∧ (debounceKey contacts s p).windows = s.windows ∧
    (debounceKey contacts s p).port = s.port ∧ (debounceKey contacts s p).arbiter = s.arbiter ∧
    (debounceKey contacts s p).mem = s.mem ∧ (debounceKey contacts s p).memEpoch = s.memEpoch ∧
    (debounceKey contacts s p).log = s.log ∧ (debounceKey contacts s p).scrub = s.scrub ∧
    (debounceKey contacts s p).repair = s.repair ∧ (debounceKey contacts s p).prep = s.prep ∧
    (debounceKey contacts s p).thermal = s.thermal ∧ (debounceKey contacts s p).watch = s.watch ∧
    (debounceKey contacts s p).dog = s.dog ∧ (debounceKey contacts s p).trace = s.trace ∧
    (debounceKey contacts s p).engine = s.engine ∧ (debounceKey contacts s p).events = s.events ∧
    (debounceKey contacts s p).posting = s.posting ∧ (debounceKey contacts s p).headers = s.headers ∧
    (debounceKey contacts s p).lastUser = s.lastUser ∧ (debounceKey contacts s p).resetInput = s.resetInput ∧
    (debounceKey contacts s p).requests = s.requests ∧ (debounceKey contacts s p).holdReleases = s.holdReleases ∧
    (debounceKey contacts s p).outcomes = s.outcomes ∧ (debounceKey contacts s p).watchReports = s.watchReports ∧
    (debounceKey contacts s p).snoopReports = s.snoopReports ∧ (debounceKey contacts s p).freeCount = s.freeCount ∧
    (debounceKey contacts s p).pending = s.pending ∧ (debounceKey contacts s p).keypad.map = s.keypad.map ∧
    (debounceKey contacts s p).keypad.chords = s.keypad.chords ∧
    (debounceKey contacts s p).keypad.coldDebounce = s.keypad.coldDebounce ∧
    (debounceKey contacts s p).keypad.scanTimer = s.keypad.scanTimer := by
  unfold debounceKey; (try dsimp only); (repeat' split) <;> simp

/-- Auto-repeat (R166). -/
@[simp] theorem autoRepeat_frame (p : Nat) (s : State) :
    (autoRepeat p s).loader = s.loader ∧ (autoRepeat p s).ctl = s.ctl ∧ (autoRepeat p s).clock = s.clock ∧
    (autoRepeat p s).lamp = s.lamp ∧ (autoRepeat p s).restarts = s.restarts ∧ (autoRepeat p s).front = s.front ∧
    (autoRepeat p s).frontResponse = s.frontResponse ∧ (autoRepeat p s).windows = s.windows ∧
    (autoRepeat p s).port = s.port ∧ (autoRepeat p s).arbiter = s.arbiter ∧ (autoRepeat p s).mem = s.mem ∧
    (autoRepeat p s).memEpoch = s.memEpoch ∧ (autoRepeat p s).log = s.log ∧ (autoRepeat p s).scrub = s.scrub ∧
    (autoRepeat p s).repair = s.repair ∧ (autoRepeat p s).prep = s.prep ∧ (autoRepeat p s).thermal = s.thermal ∧
    (autoRepeat p s).watch = s.watch ∧ (autoRepeat p s).dog = s.dog ∧ (autoRepeat p s).trace = s.trace ∧
    (autoRepeat p s).engine = s.engine ∧ (autoRepeat p s).events = s.events ∧ (autoRepeat p s).posting = s.posting ∧
    (autoRepeat p s).headers = s.headers ∧ (autoRepeat p s).lastUser = s.lastUser ∧
    (autoRepeat p s).resetInput = s.resetInput ∧ (autoRepeat p s).requests = s.requests ∧
    (autoRepeat p s).holdReleases = s.holdReleases ∧ (autoRepeat p s).outcomes = s.outcomes ∧
    (autoRepeat p s).watchReports = s.watchReports ∧ (autoRepeat p s).snoopReports = s.snoopReports ∧
    (autoRepeat p s).freeCount = s.freeCount ∧ (autoRepeat p s).pending = s.pending ∧
    (autoRepeat p s).keypad.map = s.keypad.map ∧ (autoRepeat p s).keypad.chords = s.keypad.chords ∧
    (autoRepeat p s).keypad.coldDebounce = s.keypad.coldDebounce ∧
    (autoRepeat p s).keypad.scanTimer = s.keypad.scanTimer := by
  unfold autoRepeat; (try dsimp only); (repeat' split) <;> simp

/-- The time of a position advances (R162). -/
@[simp] theorem advanceKey_frame (p : Nat) (s : State) :
    (advanceKey s p).loader = s.loader ∧ (advanceKey s p).ctl = s.ctl ∧ (advanceKey s p).clock = s.clock ∧
    (advanceKey s p).lamp = s.lamp ∧ (advanceKey s p).restarts = s.restarts ∧ (advanceKey s p).front = s.front ∧
    (advanceKey s p).frontResponse = s.frontResponse ∧ (advanceKey s p).windows = s.windows ∧
    (advanceKey s p).port = s.port ∧ (advanceKey s p).arbiter = s.arbiter ∧ (advanceKey s p).mem = s.mem ∧
    (advanceKey s p).memEpoch = s.memEpoch ∧ (advanceKey s p).log = s.log ∧ (advanceKey s p).scrub = s.scrub ∧
    (advanceKey s p).repair = s.repair ∧ (advanceKey s p).prep = s.prep ∧ (advanceKey s p).thermal = s.thermal ∧
    (advanceKey s p).watch = s.watch ∧ (advanceKey s p).dog = s.dog ∧ (advanceKey s p).trace = s.trace ∧
    (advanceKey s p).engine = s.engine ∧ (advanceKey s p).events = s.events ∧ (advanceKey s p).posting = s.posting ∧
    (advanceKey s p).headers = s.headers ∧ (advanceKey s p).lastUser = s.lastUser ∧
    (advanceKey s p).resetInput = s.resetInput ∧ (advanceKey s p).requests = s.requests ∧
    (advanceKey s p).holdReleases = s.holdReleases ∧ (advanceKey s p).outcomes = s.outcomes ∧
    (advanceKey s p).watchReports = s.watchReports ∧ (advanceKey s p).snoopReports = s.snoopReports ∧
    (advanceKey s p).freeCount = s.freeCount ∧ (advanceKey s p).pending = s.pending ∧
    (advanceKey s p).keypad.map = s.keypad.map ∧ (advanceKey s p).keypad.chords = s.keypad.chords ∧
    (advanceKey s p).keypad.coldDebounce = s.keypad.coldDebounce ∧
    (advanceKey s p).keypad.scanTimer = s.keypad.scanTimer := by
  unfold advanceKey; (try dsimp only); (repeat' split) <;> simp

/-- A BLOCKED position tested again (R161). -/
@[simp] theorem retestKey_frame (p : Nat) (s : State) :
    (retestKey s p).loader = s.loader ∧ (retestKey s p).ctl = s.ctl ∧ (retestKey s p).clock = s.clock ∧
    (retestKey s p).lamp = s.lamp ∧ (retestKey s p).restarts = s.restarts ∧ (retestKey s p).front = s.front ∧
    (retestKey s p).frontResponse = s.frontResponse ∧ (retestKey s p).windows = s.windows ∧
    (retestKey s p).port = s.port ∧ (retestKey s p).arbiter = s.arbiter ∧ (retestKey s p).mem = s.mem ∧
    (retestKey s p).memEpoch = s.memEpoch ∧ (retestKey s p).log = s.log ∧ (retestKey s p).scrub = s.scrub ∧
    (retestKey s p).repair = s.repair ∧ (retestKey s p).prep = s.prep ∧ (retestKey s p).thermal = s.thermal ∧
    (retestKey s p).watch = s.watch ∧ (retestKey s p).dog = s.dog ∧ (retestKey s p).trace = s.trace ∧
    (retestKey s p).engine = s.engine ∧ (retestKey s p).events = s.events ∧ (retestKey s p).posting = s.posting ∧
    (retestKey s p).headers = s.headers ∧ (retestKey s p).lastUser = s.lastUser ∧
    (retestKey s p).resetInput = s.resetInput ∧ (retestKey s p).requests = s.requests ∧
    (retestKey s p).holdReleases = s.holdReleases ∧ (retestKey s p).outcomes = s.outcomes ∧
    (retestKey s p).watchReports = s.watchReports ∧ (retestKey s p).snoopReports = s.snoopReports ∧
    (retestKey s p).freeCount = s.freeCount ∧ (retestKey s p).pending = s.pending ∧
    (retestKey s p).keypad.map = s.keypad.map ∧ (retestKey s p).keypad.chords = s.keypad.chords ∧
    (retestKey s p).keypad.coldDebounce = s.keypad.coldDebounce ∧
    (retestKey s p).keypad.scanTimer = s.keypad.scanTimer := by
  unfold retestKey; (try dsimp only); (repeat' split) <;> simp

/-- Announced flags cleared (R171). -/
@[simp] theorem clearAnnounced_frame (ps : List Nat) (s : State) :
    (clearAnnounced ps s).loader = s.loader ∧ (clearAnnounced ps s).ctl = s.ctl ∧
    (clearAnnounced ps s).clock = s.clock ∧ (clearAnnounced ps s).lamp = s.lamp ∧
    (clearAnnounced ps s).restarts = s.restarts ∧ (clearAnnounced ps s).front = s.front ∧
    (clearAnnounced ps s).frontResponse = s.frontResponse ∧ (clearAnnounced ps s).windows = s.windows ∧
    (clearAnnounced ps s).port = s.port ∧ (clearAnnounced ps s).arbiter = s.arbiter ∧
    (clearAnnounced ps s).mem = s.mem ∧ (clearAnnounced ps s).memEpoch = s.memEpoch ∧
    (clearAnnounced ps s).log = s.log ∧ (clearAnnounced ps s).scrub = s.scrub ∧
    (clearAnnounced ps s).repair = s.repair ∧ (clearAnnounced ps s).prep = s.prep ∧
    (clearAnnounced ps s).thermal = s.thermal ∧ (clearAnnounced ps s).watch = s.watch ∧
    (clearAnnounced ps s).dog = s.dog ∧ (clearAnnounced ps s).trace = s.trace ∧
    (clearAnnounced ps s).engine = s.engine ∧ (clearAnnounced ps s).events = s.events ∧
    (clearAnnounced ps s).posting = s.posting ∧ (clearAnnounced ps s).queue = s.queue ∧
    (clearAnnounced ps s).missed = s.missed ∧ (clearAnnounced ps s).headers = s.headers ∧
    (clearAnnounced ps s).lastUser = s.lastUser ∧ (clearAnnounced ps s).resetInput = s.resetInput ∧
    (clearAnnounced ps s).requests = s.requests ∧ (clearAnnounced ps s).holdReleases = s.holdReleases ∧
    (clearAnnounced ps s).outcomes = s.outcomes ∧ (clearAnnounced ps s).watchReports = s.watchReports ∧
    (clearAnnounced ps s).snoopReports = s.snoopReports ∧ (clearAnnounced ps s).freeCount = s.freeCount ∧
    (clearAnnounced ps s).pending = s.pending ∧ (clearAnnounced ps s).keypad.map = s.keypad.map ∧
    (clearAnnounced ps s).keypad.chords = s.keypad.chords ∧
    (clearAnnounced ps s).keypad.coldDebounce = s.keypad.coldDebounce ∧
    (clearAnnounced ps s).keypad.scanTimer = s.keypad.scanTimer := by
  unfold clearAnnounced; induction ps generalizing s with
  | nil => simp
  | cons p ps ih => simp only [List.foldl_cons]; have h := ih (setKeyPos p { s.key p with announced := false } s); simp [h]

/-- A chord recognised (R171). -/
@[simp] theorem recognise_frame (i : Nat) (s : State) :
    (recognise i s).loader = s.loader ∧ (recognise i s).ctl = s.ctl ∧ (recognise i s).clock = s.clock ∧
    (recognise i s).lamp = s.lamp ∧ (recognise i s).restarts = s.restarts ∧ (recognise i s).front = s.front ∧
    (recognise i s).frontResponse = s.frontResponse ∧ (recognise i s).windows = s.windows ∧
    (recognise i s).port = s.port ∧ (recognise i s).arbiter = s.arbiter ∧ (recognise i s).mem = s.mem ∧
    (recognise i s).memEpoch = s.memEpoch ∧ (recognise i s).log = s.log ∧ (recognise i s).scrub = s.scrub ∧
    (recognise i s).repair = s.repair ∧ (recognise i s).prep = s.prep ∧ (recognise i s).thermal = s.thermal ∧
    (recognise i s).watch = s.watch ∧ (recognise i s).dog = s.dog ∧ (recognise i s).trace = s.trace ∧
    (recognise i s).engine = s.engine ∧ (recognise i s).events = s.events ∧ (recognise i s).posting = s.posting ∧
    (recognise i s).headers = s.headers ∧ (recognise i s).lastUser = s.lastUser ∧
    (recognise i s).resetInput = s.resetInput ∧ (recognise i s).outcomes = s.outcomes ∧
    (recognise i s).watchReports = s.watchReports ∧ (recognise i s).snoopReports = s.snoopReports ∧
    (recognise i s).freeCount = s.freeCount ∧ (recognise i s).pending = s.pending ∧
    (recognise i s).keypad.map = s.keypad.map ∧ (recognise i s).keypad.coldDebounce = s.keypad.coldDebounce ∧
    (recognise i s).keypad.scanTimer = s.keypad.scanTimer := by
  unfold recognise; (try dsimp only); (repeat' split) <;> simp

/-- A chord judged (R170). -/
@[simp] theorem judgeChord_frame (i : Nat) (s : State) :
    (judgeChord s i).loader = s.loader ∧ (judgeChord s i).ctl = s.ctl ∧ (judgeChord s i).clock = s.clock ∧
    (judgeChord s i).lamp = s.lamp ∧ (judgeChord s i).restarts = s.restarts ∧ (judgeChord s i).front = s.front ∧
    (judgeChord s i).frontResponse = s.frontResponse ∧ (judgeChord s i).windows = s.windows ∧
    (judgeChord s i).port = s.port ∧ (judgeChord s i).arbiter = s.arbiter ∧ (judgeChord s i).mem = s.mem ∧
    (judgeChord s i).memEpoch = s.memEpoch ∧ (judgeChord s i).log = s.log ∧ (judgeChord s i).scrub = s.scrub ∧
    (judgeChord s i).repair = s.repair ∧ (judgeChord s i).prep = s.prep ∧ (judgeChord s i).thermal = s.thermal ∧
    (judgeChord s i).watch = s.watch ∧ (judgeChord s i).dog = s.dog ∧ (judgeChord s i).trace = s.trace ∧
    (judgeChord s i).engine = s.engine ∧ (judgeChord s i).events = s.events ∧ (judgeChord s i).posting = s.posting ∧
    (judgeChord s i).headers = s.headers ∧ (judgeChord s i).lastUser = s.lastUser ∧
    (judgeChord s i).resetInput = s.resetInput ∧ (judgeChord s i).outcomes = s.outcomes ∧
    (judgeChord s i).watchReports = s.watchReports ∧ (judgeChord s i).snoopReports = s.snoopReports ∧
    (judgeChord s i).freeCount = s.freeCount ∧ (judgeChord s i).pending = s.pending ∧
    (judgeChord s i).keypad.map = s.keypad.map ∧ (judgeChord s i).keypad.coldDebounce = s.keypad.coldDebounce ∧
    (judgeChord s i).keypad.scanTimer = s.keypad.scanTimer := by
  unfold judgeChord; (try dsimp only); (repeat' split) <;> simp

/-- The same over a list of positions or chords (R173). -/
@[simp] theorem debounceFold_frame (contacts : BitVec 64) (ps : List Nat) (s : State) :
    (ps.foldl (debounceKey contacts) s).loader = s.loader ∧ (ps.foldl (debounceKey contacts) s).ctl = s.ctl ∧
    (ps.foldl (debounceKey contacts) s).clock = s.clock ∧ (ps.foldl (debounceKey contacts) s).lamp = s.lamp ∧
    (ps.foldl (debounceKey contacts) s).restarts = s.restarts ∧ (ps.foldl (debounceKey contacts) s).front = s.front ∧
    (ps.foldl (debounceKey contacts) s).frontResponse = s.frontResponse ∧
    (ps.foldl (debounceKey contacts) s).windows = s.windows ∧ (ps.foldl (debounceKey contacts) s).port = s.port ∧
    (ps.foldl (debounceKey contacts) s).arbiter = s.arbiter ∧ (ps.foldl (debounceKey contacts) s).mem = s.mem ∧
    (ps.foldl (debounceKey contacts) s).memEpoch = s.memEpoch ∧ (ps.foldl (debounceKey contacts) s).log = s.log ∧
    (ps.foldl (debounceKey contacts) s).scrub = s.scrub ∧ (ps.foldl (debounceKey contacts) s).repair = s.repair ∧
    (ps.foldl (debounceKey contacts) s).prep = s.prep ∧ (ps.foldl (debounceKey contacts) s).thermal = s.thermal ∧
    (ps.foldl (debounceKey contacts) s).watch = s.watch ∧ (ps.foldl (debounceKey contacts) s).dog = s.dog ∧
    (ps.foldl (debounceKey contacts) s).trace = s.trace ∧ (ps.foldl (debounceKey contacts) s).engine = s.engine ∧
    (ps.foldl (debounceKey contacts) s).events = s.events ∧ (ps.foldl (debounceKey contacts) s).posting = s.posting ∧
    (ps.foldl (debounceKey contacts) s).headers = s.headers ∧
    (ps.foldl (debounceKey contacts) s).lastUser = s.lastUser ∧
    (ps.foldl (debounceKey contacts) s).resetInput = s.resetInput ∧
    (ps.foldl (debounceKey contacts) s).requests = s.requests ∧
    (ps.foldl (debounceKey contacts) s).holdReleases = s.holdReleases ∧
    (ps.foldl (debounceKey contacts) s).outcomes = s.outcomes ∧
    (ps.foldl (debounceKey contacts) s).watchReports = s.watchReports ∧
    (ps.foldl (debounceKey contacts) s).snoopReports = s.snoopReports ∧
    (ps.foldl (debounceKey contacts) s).freeCount = s.freeCount ∧
    (ps.foldl (debounceKey contacts) s).pending = s.pending ∧
    (ps.foldl (debounceKey contacts) s).keypad.map = s.keypad.map ∧
    (ps.foldl (debounceKey contacts) s).keypad.chords = s.keypad.chords ∧
    (ps.foldl (debounceKey contacts) s).keypad.coldDebounce = s.keypad.coldDebounce ∧
    (ps.foldl (debounceKey contacts) s).keypad.scanTimer = s.keypad.scanTimer := by
  induction ps generalizing s with
  | nil => simp
  | cons p ps ih => simp only [List.foldl_cons]; have h := ih (debounceKey contacts s p); simp [h]

/-- The same over a list of positions or chords (R173). -/
@[simp] theorem advanceFold_frame (ps : List Nat) (s : State) :
    (ps.foldl advanceKey s).loader = s.loader ∧ (ps.foldl advanceKey s).ctl = s.ctl ∧
    (ps.foldl advanceKey s).clock = s.clock ∧ (ps.foldl advanceKey s).lamp = s.lamp ∧
    (ps.foldl advanceKey s).restarts = s.restarts ∧ (ps.foldl advanceKey s).front = s.front ∧
    (ps.foldl advanceKey s).frontResponse = s.frontResponse ∧ (ps.foldl advanceKey s).windows = s.windows ∧
    (ps.foldl advanceKey s).port = s.port ∧ (ps.foldl advanceKey s).arbiter = s.arbiter ∧
    (ps.foldl advanceKey s).mem = s.mem ∧ (ps.foldl advanceKey s).memEpoch = s.memEpoch ∧
    (ps.foldl advanceKey s).log = s.log ∧ (ps.foldl advanceKey s).scrub = s.scrub ∧
    (ps.foldl advanceKey s).repair = s.repair ∧ (ps.foldl advanceKey s).prep = s.prep ∧
    (ps.foldl advanceKey s).thermal = s.thermal ∧ (ps.foldl advanceKey s).watch = s.watch ∧
    (ps.foldl advanceKey s).dog = s.dog ∧ (ps.foldl advanceKey s).trace = s.trace ∧
    (ps.foldl advanceKey s).engine = s.engine ∧ (ps.foldl advanceKey s).events = s.events ∧
    (ps.foldl advanceKey s).posting = s.posting ∧ (ps.foldl advanceKey s).headers = s.headers ∧
    (ps.foldl advanceKey s).lastUser = s.lastUser ∧ (ps.foldl advanceKey s).resetInput = s.resetInput ∧
    (ps.foldl advanceKey s).requests = s.requests ∧ (ps.foldl advanceKey s).holdReleases = s.holdReleases ∧
    (ps.foldl advanceKey s).outcomes = s.outcomes ∧ (ps.foldl advanceKey s).watchReports = s.watchReports ∧
    (ps.foldl advanceKey s).snoopReports = s.snoopReports ∧ (ps.foldl advanceKey s).freeCount = s.freeCount ∧
    (ps.foldl advanceKey s).pending = s.pending ∧ (ps.foldl advanceKey s).keypad.map = s.keypad.map ∧
    (ps.foldl advanceKey s).keypad.chords = s.keypad.chords ∧
    (ps.foldl advanceKey s).keypad.coldDebounce = s.keypad.coldDebounce ∧
    (ps.foldl advanceKey s).keypad.scanTimer = s.keypad.scanTimer := by
  induction ps generalizing s with
  | nil => simp
  | cons p ps ih => simp only [List.foldl_cons]; have h := ih (advanceKey s p); simp [h]

/-- The same over a list of positions or chords (R173). -/
@[simp] theorem retestFold_frame (ps : List Nat) (s : State) :
    (ps.foldl retestKey s).loader = s.loader ∧ (ps.foldl retestKey s).ctl = s.ctl ∧
    (ps.foldl retestKey s).clock = s.clock ∧ (ps.foldl retestKey s).lamp = s.lamp ∧
    (ps.foldl retestKey s).restarts = s.restarts ∧ (ps.foldl retestKey s).front = s.front ∧
    (ps.foldl retestKey s).frontResponse = s.frontResponse ∧ (ps.foldl retestKey s).windows = s.windows ∧
    (ps.foldl retestKey s).port = s.port ∧ (ps.foldl retestKey s).arbiter = s.arbiter ∧
    (ps.foldl retestKey s).mem = s.mem ∧ (ps.foldl retestKey s).memEpoch = s.memEpoch ∧
    (ps.foldl retestKey s).log = s.log ∧ (ps.foldl retestKey s).scrub = s.scrub ∧
    (ps.foldl retestKey s).repair = s.repair ∧ (ps.foldl retestKey s).prep = s.prep ∧
    (ps.foldl retestKey s).thermal = s.thermal ∧ (ps.foldl retestKey s).watch = s.watch ∧
    (ps.foldl retestKey s).dog = s.dog ∧ (ps.foldl retestKey s).trace = s.trace ∧
    (ps.foldl retestKey s).engine = s.engine ∧ (ps.foldl retestKey s).events = s.events ∧
    (ps.foldl retestKey s).posting = s.posting ∧ (ps.foldl retestKey s).headers = s.headers ∧
    (ps.foldl retestKey s).lastUser = s.lastUser ∧ (ps.foldl retestKey s).resetInput = s.resetInput ∧
    (ps.foldl retestKey s).requests = s.requests ∧ (ps.foldl retestKey s).holdReleases = s.holdReleases ∧
    (ps.foldl retestKey s).outcomes = s.outcomes ∧ (ps.foldl retestKey s).watchReports = s.watchReports ∧
    (ps.foldl retestKey s).snoopReports = s.snoopReports ∧ (ps.foldl retestKey s).freeCount = s.freeCount ∧
    (ps.foldl retestKey s).pending = s.pending ∧ (ps.foldl retestKey s).keypad.map = s.keypad.map ∧
    (ps.foldl retestKey s).keypad.chords = s.keypad.chords ∧
    (ps.foldl retestKey s).keypad.coldDebounce = s.keypad.coldDebounce ∧
    (ps.foldl retestKey s).keypad.scanTimer = s.keypad.scanTimer := by
  induction ps generalizing s with
  | nil => simp
  | cons p ps ih => simp only [List.foldl_cons]; have h := ih (retestKey s p); simp [h]

/-- The same over a list of positions or chords (R173). -/
@[simp] theorem judgeFold_frame (ps : List Nat) (s : State) :
    (ps.foldl judgeChord s).loader = s.loader ∧ (ps.foldl judgeChord s).ctl = s.ctl ∧
    (ps.foldl judgeChord s).clock = s.clock ∧ (ps.foldl judgeChord s).lamp = s.lamp ∧
    (ps.foldl judgeChord s).restarts = s.restarts ∧ (ps.foldl judgeChord s).front = s.front ∧
    (ps.foldl judgeChord s).frontResponse = s.frontResponse ∧ (ps.foldl judgeChord s).windows = s.windows ∧
    (ps.foldl judgeChord s).port = s.port ∧ (ps.foldl judgeChord s).arbiter = s.arbiter ∧
    (ps.foldl judgeChord s).mem = s.mem ∧ (ps.foldl judgeChord s).memEpoch = s.memEpoch ∧
    (ps.foldl judgeChord s).log = s.log ∧ (ps.foldl judgeChord s).scrub = s.scrub ∧
    (ps.foldl judgeChord s).repair = s.repair ∧ (ps.foldl judgeChord s).prep = s.prep ∧
    (ps.foldl judgeChord s).thermal = s.thermal ∧ (ps.foldl judgeChord s).watch = s.watch ∧
    (ps.foldl judgeChord s).dog = s.dog ∧ (ps.foldl judgeChord s).trace = s.trace ∧
    (ps.foldl judgeChord s).engine = s.engine ∧ (ps.foldl judgeChord s).events = s.events ∧
    (ps.foldl judgeChord s).posting = s.posting ∧ (ps.foldl judgeChord s).headers = s.headers ∧
    (ps.foldl judgeChord s).lastUser = s.lastUser ∧ (ps.foldl judgeChord s).resetInput = s.resetInput ∧
    (ps.foldl judgeChord s).outcomes = s.outcomes ∧ (ps.foldl judgeChord s).watchReports = s.watchReports ∧
    (ps.foldl judgeChord s).snoopReports = s.snoopReports ∧ (ps.foldl judgeChord s).freeCount = s.freeCount ∧
    (ps.foldl judgeChord s).pending = s.pending ∧ (ps.foldl judgeChord s).keypad.map = s.keypad.map ∧
    (ps.foldl judgeChord s).keypad.coldDebounce = s.keypad.coldDebounce ∧
    (ps.foldl judgeChord s).keypad.scanTimer = s.keypad.scanTimer := by
  induction ps generalizing s with
  | nil => simp
  | cons p ps ih => simp only [List.foldl_cons]; have h := ih (judgeChord s p); simp [h]

/-- One sample, whole (R173). -/
@[simp] theorem takeSample_frame (contacts : BitVec 64) (s : State) :
    (takeSample contacts s).loader = s.loader ∧ (takeSample contacts s).ctl = s.ctl ∧
    (takeSample contacts s).clock = s.clock ∧ (takeSample contacts s).lamp = s.lamp ∧
    (takeSample contacts s).restarts = s.restarts ∧ (takeSample contacts s).front = s.front ∧
    (takeSample contacts s).frontResponse = s.frontResponse ∧ (takeSample contacts s).windows = s.windows ∧
    (takeSample contacts s).port = s.port ∧ (takeSample contacts s).arbiter = s.arbiter ∧
    (takeSample contacts s).mem = s.mem ∧ (takeSample contacts s).memEpoch = s.memEpoch ∧
    (takeSample contacts s).log = s.log ∧ (takeSample contacts s).scrub = s.scrub ∧
    (takeSample contacts s).repair = s.repair ∧ (takeSample contacts s).prep = s.prep ∧
    (takeSample contacts s).thermal = s.thermal ∧ (takeSample contacts s).watch = s.watch ∧
    (takeSample contacts s).dog = s.dog ∧ (takeSample contacts s).trace = s.trace ∧
    (takeSample contacts s).engine = s.engine ∧ (takeSample contacts s).events = s.events ∧
    (takeSample contacts s).posting = s.posting ∧ (takeSample contacts s).headers = s.headers ∧
    (takeSample contacts s).lastUser = s.lastUser ∧ (takeSample contacts s).resetInput = s.resetInput ∧
    (takeSample contacts s).outcomes = s.outcomes ∧ (takeSample contacts s).watchReports = s.watchReports ∧
    (takeSample contacts s).snoopReports = s.snoopReports ∧ (takeSample contacts s).freeCount = s.freeCount ∧
    (takeSample contacts s).pending = s.pending ∧ (takeSample contacts s).keypad.map = s.keypad.map ∧
    (takeSample contacts s).keypad.coldDebounce = s.keypad.coldDebounce ∧
    (takeSample contacts s).keypad.scanTimer = s.keypad.scanTimer := by
  simp [takeSample]

/-- A submit write (R178). -/
@[simp] theorem submitWrite_frame (v : Nat) (s : State) :
    (submitWrite v s).loader = s.loader ∧ (submitWrite v s).ctl = s.ctl ∧ (submitWrite v s).clock = s.clock ∧
    (submitWrite v s).lamp = s.lamp ∧ (submitWrite v s).restarts = s.restarts ∧ (submitWrite v s).front = s.front ∧
    (submitWrite v s).frontResponse = s.frontResponse ∧ (submitWrite v s).windows = s.windows ∧
    (submitWrite v s).port = s.port ∧ (submitWrite v s).arbiter = s.arbiter ∧ (submitWrite v s).mem = s.mem ∧
    (submitWrite v s).memEpoch = s.memEpoch ∧ (submitWrite v s).log = s.log ∧ (submitWrite v s).scrub = s.scrub ∧
    (submitWrite v s).repair = s.repair ∧ (submitWrite v s).prep = s.prep ∧ (submitWrite v s).thermal = s.thermal ∧
    (submitWrite v s).watch = s.watch ∧ (submitWrite v s).dog = s.dog ∧ (submitWrite v s).trace = s.trace ∧
    (submitWrite v s).keypad = s.keypad ∧ (submitWrite v s).events = s.events ∧
    (submitWrite v s).posting = s.posting ∧ (submitWrite v s).queue = s.queue ∧ (submitWrite v s).missed = s.missed ∧
    (submitWrite v s).headers = s.headers ∧ (submitWrite v s).lastUser = s.lastUser ∧
    (submitWrite v s).resetInput = s.resetInput ∧ (submitWrite v s).requests = s.requests ∧
    (submitWrite v s).holdReleases = s.holdReleases ∧ (submitWrite v s).outcomes = s.outcomes ∧
    (submitWrite v s).watchReports = s.watchReports ∧ (submitWrite v s).snoopReports = s.snoopReports ∧
    (submitWrite v s).freeCount = s.freeCount ∧ (submitWrite v s).pending = s.pending ∧
    (submitWrite v s).engine.done = s.engine.done := by
  unfold submitWrite; (try dsimp only); (repeat' split) <;> simp

/-- A ready write (R186). -/
@[simp] theorem readyWrite_frame (v : Nat) (s : State) :
    (readyWrite v s).loader = s.loader ∧ (readyWrite v s).ctl = s.ctl ∧ (readyWrite v s).clock = s.clock ∧
    (readyWrite v s).lamp = s.lamp ∧ (readyWrite v s).restarts = s.restarts ∧ (readyWrite v s).front = s.front ∧
    (readyWrite v s).frontResponse = s.frontResponse ∧ (readyWrite v s).windows = s.windows ∧
    (readyWrite v s).port = s.port ∧ (readyWrite v s).arbiter = s.arbiter ∧ (readyWrite v s).mem = s.mem ∧
    (readyWrite v s).memEpoch = s.memEpoch ∧ (readyWrite v s).log = s.log ∧ (readyWrite v s).scrub = s.scrub ∧
    (readyWrite v s).repair = s.repair ∧ (readyWrite v s).prep = s.prep ∧ (readyWrite v s).thermal = s.thermal ∧
    (readyWrite v s).watch = s.watch ∧ (readyWrite v s).dog = s.dog ∧ (readyWrite v s).trace = s.trace ∧
    (readyWrite v s).keypad = s.keypad ∧ (readyWrite v s).engine = s.engine ∧ (readyWrite v s).posting = s.posting ∧
    (readyWrite v s).queue = s.queue ∧ (readyWrite v s).missed = s.missed ∧ (readyWrite v s).headers = s.headers ∧
    (readyWrite v s).lastUser = s.lastUser ∧ (readyWrite v s).resetInput = s.resetInput ∧
    (readyWrite v s).requests = s.requests ∧ (readyWrite v s).holdReleases = s.holdReleases ∧
    (readyWrite v s).outcomes = s.outcomes ∧ (readyWrite v s).watchReports = s.watchReports ∧
    (readyWrite v s).snoopReports = s.snoopReports ∧ (readyWrite v s).freeCount = s.freeCount ∧
    (readyWrite v s).pending = s.pending ∧ (readyWrite v s).events.produce = s.events.produce := by
  unfold readyWrite; (try dsimp only); (repeat' split) <;> simp

/-- A consume write (R186). -/
@[simp] theorem consumeWrite_frame (v : Nat) (s : State) :
    (consumeWrite v s).loader = s.loader ∧ (consumeWrite v s).ctl = s.ctl ∧ (consumeWrite v s).clock = s.clock ∧
    (consumeWrite v s).lamp = s.lamp ∧ (consumeWrite v s).restarts = s.restarts ∧ (consumeWrite v s).front = s.front ∧
    (consumeWrite v s).frontResponse = s.frontResponse ∧ (consumeWrite v s).windows = s.windows ∧
    (consumeWrite v s).port = s.port ∧ (consumeWrite v s).arbiter = s.arbiter ∧ (consumeWrite v s).mem = s.mem ∧
    (consumeWrite v s).memEpoch = s.memEpoch ∧ (consumeWrite v s).log = s.log ∧ (consumeWrite v s).scrub = s.scrub ∧
    (consumeWrite v s).repair = s.repair ∧ (consumeWrite v s).prep = s.prep ∧ (consumeWrite v s).thermal = s.thermal ∧
    (consumeWrite v s).watch = s.watch ∧ (consumeWrite v s).dog = s.dog ∧ (consumeWrite v s).trace = s.trace ∧
    (consumeWrite v s).keypad = s.keypad ∧ (consumeWrite v s).engine = s.engine ∧
    (consumeWrite v s).posting = s.posting ∧ (consumeWrite v s).queue = s.queue ∧
    (consumeWrite v s).missed = s.missed ∧ (consumeWrite v s).headers = s.headers ∧
    (consumeWrite v s).lastUser = s.lastUser ∧ (consumeWrite v s).resetInput = s.resetInput ∧
    (consumeWrite v s).requests = s.requests ∧ (consumeWrite v s).holdReleases = s.holdReleases ∧
    (consumeWrite v s).outcomes = s.outcomes ∧ (consumeWrite v s).watchReports = s.watchReports ∧
    (consumeWrite v s).snoopReports = s.snoopReports ∧ (consumeWrite v s).freeCount = s.freeCount ∧
    (consumeWrite v s).pending = s.pending ∧ (consumeWrite v s).events.produce = s.events.produce := by
  unfold consumeWrite; (try dsimp only); (repeat' split) <;> simp

/-- A write report at the mailbox unit (R178, R186). -/
@[simp] theorem snoop_frame (r : FrontReport) (s : State) :
    (snoop r s).loader = s.loader ∧ (snoop r s).ctl = s.ctl ∧ (snoop r s).clock = s.clock ∧
    (snoop r s).lamp = s.lamp ∧ (snoop r s).restarts = s.restarts ∧ (snoop r s).front = s.front ∧
    (snoop r s).frontResponse = s.frontResponse ∧ (snoop r s).windows = s.windows ∧ (snoop r s).port = s.port ∧
    (snoop r s).arbiter = s.arbiter ∧ (snoop r s).mem = s.mem ∧ (snoop r s).memEpoch = s.memEpoch ∧
    (snoop r s).log = s.log ∧ (snoop r s).scrub = s.scrub ∧ (snoop r s).repair = s.repair ∧
    (snoop r s).prep = s.prep ∧ (snoop r s).thermal = s.thermal ∧ (snoop r s).watch = s.watch ∧
    (snoop r s).dog = s.dog ∧ (snoop r s).trace = s.trace ∧ (snoop r s).keypad = s.keypad ∧
    (snoop r s).posting = s.posting ∧ (snoop r s).queue = s.queue ∧ (snoop r s).missed = s.missed ∧
    (snoop r s).headers = s.headers ∧ (snoop r s).lastUser = s.lastUser ∧ (snoop r s).resetInput = s.resetInput ∧
    (snoop r s).requests = s.requests ∧ (snoop r s).holdReleases = s.holdReleases ∧
    (snoop r s).outcomes = s.outcomes ∧ (snoop r s).watchReports = s.watchReports ∧
    (snoop r s).snoopReports = s.snoopReports ∧ (snoop r s).freeCount = s.freeCount ∧
    (snoop r s).pending = s.pending ∧ (snoop r s).engine.done = s.engine.done ∧
    (snoop r s).events.produce = s.events.produce := by
  simp only [snoop, snoopWord]; (repeat' split) <;> simp

/-- The fetched record decided on (R180). -/
@[simp] theorem decideRecord_frame (words : List (Word × Bool)) (s : State) :
    (decideRecord words s).loader = s.loader ∧ (decideRecord words s).ctl = s.ctl ∧
    (decideRecord words s).clock = s.clock ∧ (decideRecord words s).lamp = s.lamp ∧
    (decideRecord words s).restarts = s.restarts ∧ (decideRecord words s).front = s.front ∧
    (decideRecord words s).frontResponse = s.frontResponse ∧ (decideRecord words s).windows = s.windows ∧
    (decideRecord words s).port = s.port ∧ (decideRecord words s).arbiter = s.arbiter ∧
    (decideRecord words s).mem = s.mem ∧ (decideRecord words s).memEpoch = s.memEpoch ∧
    (decideRecord words s).log = s.log ∧ (decideRecord words s).scrub = s.scrub ∧
    (decideRecord words s).repair = s.repair ∧ (decideRecord words s).prep = s.prep ∧
    (decideRecord words s).thermal = s.thermal ∧ (decideRecord words s).watch = s.watch ∧
    (decideRecord words s).dog = s.dog ∧ (decideRecord words s).trace = s.trace ∧
    (decideRecord words s).keypad = s.keypad ∧ (decideRecord words s).events = s.events ∧
    (decideRecord words s).posting = s.posting ∧ (decideRecord words s).queue = s.queue ∧
    (decideRecord words s).missed = s.missed ∧ (decideRecord words s).headers = s.headers ∧
    (decideRecord words s).lastUser = s.lastUser ∧ (decideRecord words s).resetInput = s.resetInput ∧
    (decideRecord words s).requests = s.requests ∧ (decideRecord words s).holdReleases = s.holdReleases ∧
    (decideRecord words s).outcomes = s.outcomes ∧ (decideRecord words s).watchReports = s.watchReports ∧
    (decideRecord words s).snoopReports = s.snoopReports ∧ (decideRecord words s).pending = s.pending ∧
    (decideRecord words s).engine.submit = s.engine.submit ∧ (decideRecord words s).engine.done = s.engine.done ∧
    (decideRecord words s).engine.faultPending = s.engine.faultPending := by
  unfold decideRecord; (try dsimp only); (repeat' split) <;> simp

/-- The end of a command (R182). -/
@[simp] theorem commandEnds_frame (s : State) :
    (commandEnds s).loader = s.loader ∧ (commandEnds s).ctl = s.ctl ∧ (commandEnds s).clock = s.clock ∧
    (commandEnds s).lamp = s.lamp ∧ (commandEnds s).restarts = s.restarts ∧ (commandEnds s).front = s.front ∧
    (commandEnds s).frontResponse = s.frontResponse ∧ (commandEnds s).windows = s.windows ∧
    (commandEnds s).port = s.port ∧ (commandEnds s).arbiter = s.arbiter ∧ (commandEnds s).mem = s.mem ∧
    (commandEnds s).memEpoch = s.memEpoch ∧ (commandEnds s).log = s.log ∧ (commandEnds s).scrub = s.scrub ∧
    (commandEnds s).repair = s.repair ∧ (commandEnds s).prep = s.prep ∧ (commandEnds s).thermal = s.thermal ∧
    (commandEnds s).watch = s.watch ∧ (commandEnds s).dog = s.dog ∧ (commandEnds s).trace = s.trace ∧
    (commandEnds s).keypad = s.keypad ∧ (commandEnds s).events = s.events ∧ (commandEnds s).posting = s.posting ∧
    (commandEnds s).queue = s.queue ∧ (commandEnds s).missed = s.missed ∧ (commandEnds s).headers = s.headers ∧
    (commandEnds s).lastUser = s.lastUser ∧ (commandEnds s).resetInput = s.resetInput ∧
    (commandEnds s).requests = s.requests ∧ (commandEnds s).holdReleases = s.holdReleases ∧
    (commandEnds s).outcomes = s.outcomes ∧ (commandEnds s).watchReports = s.watchReports ∧
    (commandEnds s).snoopReports = s.snoopReports ∧ (commandEnds s).freeCount = s.freeCount ∧
    (commandEnds s).pending = s.pending ∧ (commandEnds s).engine.submit = s.engine.submit := by
  unfold commandEnds; (try dsimp only); (repeat' split) <;> simp

/-- The removal of a posted entry (R187). -/
@[simp] theorem removePosted_frame (s : State) :
    (removePosted s).loader = s.loader ∧ (removePosted s).ctl = s.ctl ∧ (removePosted s).clock = s.clock ∧
    (removePosted s).lamp = s.lamp ∧ (removePosted s).restarts = s.restarts ∧ (removePosted s).front = s.front ∧
    (removePosted s).frontResponse = s.frontResponse ∧ (removePosted s).windows = s.windows ∧
    (removePosted s).port = s.port ∧ (removePosted s).arbiter = s.arbiter ∧ (removePosted s).mem = s.mem ∧
    (removePosted s).memEpoch = s.memEpoch ∧ (removePosted s).log = s.log ∧ (removePosted s).scrub = s.scrub ∧
    (removePosted s).repair = s.repair ∧ (removePosted s).prep = s.prep ∧ (removePosted s).thermal = s.thermal ∧
    (removePosted s).watch = s.watch ∧ (removePosted s).dog = s.dog ∧ (removePosted s).trace = s.trace ∧
    (removePosted s).keypad = s.keypad ∧ (removePosted s).engine = s.engine ∧ (removePosted s).headers = s.headers ∧
    (removePosted s).lastUser = s.lastUser ∧ (removePosted s).resetInput = s.resetInput ∧
    (removePosted s).requests = s.requests ∧ (removePosted s).holdReleases = s.holdReleases ∧
    (removePosted s).outcomes = s.outcomes ∧ (removePosted s).watchReports = s.watchReports ∧
    (removePosted s).snoopReports = s.snoopReports ∧ (removePosted s).freeCount = s.freeCount ∧
    (removePosted s).pending = s.pending := by
  unfold removePosted; (try dsimp only); (repeat' split) <;> simp

end Sys2Proof.Machine
end

