-- ==== Sys2Proof/Laws/Kept.lean ====
section
/-! SUPPORT. What the laws of the history and of the keypad rest on, so that no proof of them unfolds the operations. These
are the one form of a grant, the regime after a change of regime, and the updates that keep each law. -/

namespace Sys2Proof.Machine

/-- A grant that is made, as one update and its effect at the granted block (R24). -/
theorem grant_made (s : State) (r : Requester) (w : Waiting) (hport : s.port = none) (hpower : s.ctl.power = true)
    (hpick : s.arbiter.pick = some (r, w)) :
    grant s = granted r w.access { s with arbiter := s.arbiter.afterGrant r, port := some w.access } := by
  simp [grant, hport, hpower, hpick]

/-- The regime after a change of regime is the new one (R71). -/
theorem changeRegime_regime (new : Regime) (s : State) : (changeRegime new s).ctl.regime = new := by
  unfold changeRegime
  dsimp only
  (repeat' split) <;> simp [setRegime, enterRunning]

/-! ## The keypad -/

/-- What a position's reportability depends on: the matrix and the key map's entry of the position (R164). -/
theorem reportable_kept (s t : State) (p : Nat) (hs : t.settings = s.settings) (hm : t.keyMap p = s.keyMap p) :
    t.reportable p = s.reportable p := by
  have parts (x : State) : x.reportable p =
      (fun (inside : Bool) (e : KeyEntry) => inside && decide (e.code ≠ 255) && !e.chordOnly)
        (x.inMatrix p) (x.keyMap p) := rfl
  have hin : t.inMatrix p = s.inMatrix p := by unfold State.inMatrix; rw [hs]
  rw [parts, parts, hin, hm]

/-- The law of the keypad speaks of the positions, the key map, the settings and the regime alone. -/
theorem keypadLaw_kept (s t : State) (h : s.keypadLaw) (hl : t.loader = s.loader)
    (hp : t.keypad.positions = s.keypad.positions) (hm : t.keypad.map = s.keypad.map)
    (hr : t.ctl.regime = s.ctl.regime) : t.keypadLaw := by
  intro p k hk ha
  rw [hp] at hk
  have hs : t.settings = s.settings := by unfold State.settings; rw [hl]
  have he : t.keyMap p = s.keyMap p := by unfold State.keyMap; rw [hm]
  rw [hr, reportable_kept s t p hs he]
  exact h p k hk ha

/-- Where no position is announced the law of the keypad holds. -/
theorem keypadLaw_silent (s : State) (h : ∀ k ∈ s.keypad.positions, k.announced = false) : s.keypadLaw := by
  intro p k hk ha
  rw [h k (List.mem_of_getElem? hk)] at ha
  cases ha

/-- Outside RUNNING the law of the keypad says that no position is announced (R168). -/
theorem silent_of_keypadLaw (s : State) (h : s.keypadLaw) (hr : s.ctl.regime ≠ .running) :
    ∀ k ∈ s.keypad.positions, k.announced = false := by
  intro k hk
  obtain ⟨p, hp⟩ := List.getElem?_of_mem hk
  cases e : k.announced
  · rfl
  · exact absurd (h p k hp e).1 hr

/-- A position record replaced keeps the law of the keypad, if the new record is announced only as the law allows. -/
theorem keypadLaw_setKeyPos (p : Nat) (k : KeyPosition) (s : State) (h : s.keypadLaw)
    (hk : k.announced = true →
      s.ctl.regime = .running ∧ (k.state = .down ∨ k.state = .releasing .down) ∧ s.reportable p = true) :
    (setKeyPos p k s).keypadLaw := by
  intro q x hx ha
  rw [reportable_kept s (setKeyPos p k s) q rfl rfl]
  simp only [setKeyPos] at hx ⊢
  rw [List.getElem?_set] at hx
  split at hx
  · subst_vars
    split at hx
    · cases hx
      exact hk ha
    · cases hx
  · exact h q x hx ha

/-! ## The history -/

/-- Once the setting image is loaded, the law until then asks nothing. -/
theorem unloadedLaw_loaded (s : State) (h : s.loader.state = .loaded) : s.unloadedLaw := fun hn => absurd h hn

/-- Outside LOADING the law until the load says that the setting image is loaded (R75). -/
theorem loaded_of_unloadedLaw (s : State) (h : s.unloadedLaw) (hr : s.ctl.regime ≠ .loading) :
    s.loader.state = .loaded :=
  Classical.byContradiction fun hn => hr (h hn).1

/-- Dropping the times outside ESCALATE_SPAN makes the escalation record no longer (R145). -/
theorem recentRestarts_length (s : State) : s.recentRestarts.length ≤ s.restarts.escalation.length :=
  List.length_filter_le _ _

/-- Deciding a kind and changing the escalation state by it keeps both bounds of R147. -/
theorem escalate_bounds (cold : Bool) (s : State) (hc : s.restarts.coldCount ≤ s.settings.coldLimit)
    (he : s.restarts.escalation.length ≤ s.settings.escalateCount - 1) :
    let t := escalate (s.restartKind cold) s
    t.restarts.coldCount ≤ s.settings.coldLimit ∧ t.restarts.escalation.length ≤ s.settings.escalateCount - 1 := by
  have hrec := recentRestarts_length s
  unfold State.restartKind
  dsimp only
  split
  · split
    · exact ⟨hc, Nat.le_trans hrec he⟩
    · refine ⟨?_, Nat.zero_le _⟩
      show s.restarts.coldCount + 1 ≤ _
      omega
  · rename_i hk
    have hne : s.recentRestarts.length ≠ s.settings.escalateCount - 1 := fun e => hk (by simp [e])
    refine ⟨hc, ?_⟩
    show (s.recentRestarts ++ [s.clock.uptime]).length ≤ _
    rw [List.length_append]
    show s.recentRestarts.length + 1 ≤ _
    omega

end Sys2Proof.Machine
end

