-- ==== Sys2Proof/Laws/Memory.lean ====
section
/-! SUPPORT. The contents of memory: reads after writes, and the canonical form that every memory operation keeps. -/

namespace Sys2Proof.Machine

/-- A word just written reads back. -/
theorem read_write_same (m : Memory) (a : Nat) (w : MemWord) : Memory.read (Memory.write m a w) a = some w := by
  induction m with
  | nil => simp [Memory.write, Memory.read]
  | cons x m ih =>
    obtain ⟨b, v⟩ := x
    simp only [Memory.write]
    split
    · simp [Memory.read]
    · split
      · simp [Memory.read]
      · rename_i _ hne
        simp [Memory.read, hne, ih]

/-- A write leaves every other address as it was. -/
theorem read_write_other (m : Memory) (a c : Nat) (w : MemWord) (h : c ≠ a) :
    Memory.read (Memory.write m a w) c = Memory.read m c := by
  induction m with
  | nil => simp [Memory.write, Memory.read, h]
  | cons x m ih =>
    obtain ⟨b, v⟩ := x
    simp only [Memory.write]
    split
    · simp [Memory.read, h]
    · split
      · rename_i _ hab
        subst hab
        simp [Memory.read, h]
      · by_cases hcb : c = b
        · simp [Memory.read, hcb]
        · simp [Memory.read, hcb, ih]

/-- The canonical form of a list with a head: every later address is above it. -/
theorem wf_cons_iff (a : Nat) (w : MemWord) (m : Memory) :
    Memory.wf ((a, w) :: m) = true ↔ (∀ x ∈ m, a < x.1) ∧ Memory.wf m = true := by
  induction m generalizing a w with
  | nil => simp [Memory.wf]
  | cons y m ih =>
    obtain ⟨b, v⟩ := y
    rw [show Memory.wf ((a, w) :: (b, v) :: m) = (decide (a < b) && Memory.wf ((b, v) :: m)) from rfl]
    simp only [Bool.and_eq_true, decide_eq_true_eq]
    constructor
    · rintro ⟨hab, hm⟩
      refine ⟨?_, hm⟩
      intro x hx
      rcases List.mem_cons.mp hx with rfl | hx
      · exact hab
      · exact Nat.lt_trans hab (((ih b v).mp hm).1 x hx)
    · rintro ⟨hall, hm⟩
      exact ⟨hall (b, v) (by simp), hm⟩

/-- The addresses of a memory after a write: the old ones and the new one. -/
theorem mem_write (m : Memory) (a : Nat) (w : MemWord) (x : Nat × MemWord) (h : x ∈ Memory.write m a w) :
    x.1 = a ∨ x ∈ m := by
  induction m with
  | nil => simp [Memory.write] at h; simp [h]
  | cons y m ih =>
    obtain ⟨b, v⟩ := y
    simp only [Memory.write] at h
    split at h
    · rcases List.mem_cons.mp h with rfl | h
      · simp
      · exact Or.inr h
    · split at h
      · rcases List.mem_cons.mp h with rfl | h
        · simp
        · exact Or.inr (List.mem_cons_of_mem _ h)
      · rcases List.mem_cons.mp h with rfl | h
        · simp
        · rcases ih h with h | h
          · exact Or.inl h
          · exact Or.inr (List.mem_cons_of_mem _ h)

/-- A write keeps the canonical form. -/
theorem wf_write (m : Memory) (a : Nat) (w : MemWord) (h : Memory.wf m = true) :
    Memory.wf (Memory.write m a w) = true := by
  induction m with
  | nil => simp [Memory.write, Memory.wf]
  | cons y m ih =>
    obtain ⟨b, v⟩ := y
    have hc := (wf_cons_iff b v m).mp h
    simp only [Memory.write]
    split
    · rename_i hab
      refine (wf_cons_iff a w _).mpr ⟨?_, h⟩
      intro x hx
      rcases List.mem_cons.mp hx with rfl | hx
      · exact hab
      · exact Nat.lt_trans hab (hc.1 x hx)
    · split
      · rename_i _ hab
        subst hab
        exact (wf_cons_iff _ w m).mpr hc
      · rename_i hlt hne
        refine (wf_cons_iff b v _).mpr ⟨?_, ih hc.2⟩
        intro x hx
        rcases mem_write m a w x hx with h | h
        · rw [h]
          omega
        · exact hc.1 x h

/-- Storing words keeps the canonical form. -/
theorem wf_writeWords (ws : List MemWord) (a : Nat) (m : Memory) (h : Memory.wf m = true) :
    Memory.wf (writeWords ws a m) = true := by
  induction ws generalizing a m with
  | nil => exact h
  | cons w ws ih => exact ih (a + 8) (Memory.write m a w) (wf_write m a w h)

/-- Reading a word, failed bits and all, keeps the canonical form. -/
theorem wf_readWord (epoch : Nat) (flip : MemWord) (a : Nat) (m : Memory) (h : Memory.wf m = true) :
    Memory.wf (readWord epoch flip a m).2 = true := by
  unfold readWord
  dsimp only
  split
  · exact h
  · exact wf_write m a _ h

/-- Reading words keeps the canonical form. -/
theorem wf_readWords (epoch : Nat) (flips : List MemWord) (a n : Nat) (m : Memory) (h : Memory.wf m = true) :
    Memory.wf (readWords epoch flips a n m).2 = true := by
  induction n generalizing flips a m with
  | zero => simpa [readWords] using h
  | succ n ih =>
    simp only [readWords]
    exact ih flips.tail (a + 8) _ (wf_readWord epoch _ a m h)

/-- With no failed bit, a read changes nothing. -/
theorem readWords_noFlip (epoch a n : Nat) (m : Memory) : (readWords epoch [] a n m).2 = m := by
  induction n generalizing a with
  | zero => simp [readWords]
  | succ n ih => simp [readWords, readWord, ih]

/-- The word a read delivers: the stored word, or the free value, with the failed bits inverted. -/
theorem readWord_value (epoch : Nat) (flip : MemWord) (a : Nat) (m : Memory) :
    let old := (Memory.read m a).getD (undefinedAt epoch a)
    (readWord epoch flip a m).1 = { data := old.data ^^^ flip.data, check := old.check ^^^ flip.check } := by
  intro old; unfold readWord; dsimp only
  split
  · rename_i h; subst h; simp [noFlip, old]
  · rfl

/-- Where bits have failed, memory holds the word as it was delivered. -/
theorem readWord_at (epoch : Nat) (flip : MemWord) (a : Nat) (m : Memory) (h : flip ≠ noFlip) :
    Memory.read (readWord epoch flip a m).2 a = some (readWord epoch flip a m).1 := by
  unfold readWord; dsimp only; rw [if_neg h]; exact read_write_same _ _ _

/-- Elsewhere memory reads as before. -/
theorem readWord_other (epoch : Nat) (flip : MemWord) (a x : Nat) (m : Memory) (h : x = a → flip = noFlip) :
    Memory.read (readWord epoch flip a m).2 x = Memory.read m x := by
  unfold readWord; dsimp only
  split
  · rfl
  · rename_i hf; exact read_write_other _ _ _ _ (fun hx => hf (h hx))

/-- Everything a read of several words does: the words it delivers, and memory after it. -/
theorem readWords_spec (epoch : Nat) (flips : List MemWord) (a n : Nat) (m : Memory) :
    let r := readWords epoch flips a n m
    let failed (k : Nat) : MemWord := flips.getD k noFlip
    let stored (k : Nat) : MemWord := (Memory.read m (a + 8 * k)).getD (undefinedAt epoch (a + 8 * k))
    r.1.length = n ∧
    (∀ k < n, r.1[k]? = some { data := (stored k).data ^^^ (failed k).data
                               check := (stored k).check ^^^ (failed k).check }) ∧
    (∀ k < n, failed k ≠ noFlip → Memory.read r.2 (a + 8 * k) = r.1[k]?) ∧
    (∀ x, (∀ k < n, x = a + 8 * k → failed k = noFlip) → Memory.read r.2 x = Memory.read m x) := by
  induction n generalizing flips a m with
  | zero => simp [readWords]
  | succ n ih =>
    intro r failed stored
    have hf : flips.headD noFlip = failed 0 := by cases flips <;> rfl
    have ht : ∀ k, flips.tail.getD k noFlip = failed (k + 1) := by intro k; cases flips <;> simp [failed]
    have hr : r = ((readWord epoch (failed 0) a m).1 ::
          (readWords epoch flips.tail (a + 8) n (readWord epoch (failed 0) a m).2).1,
        (readWords epoch flips.tail (a + 8) n (readWord epoch (failed 0) a m).2).2) := by
      simp only [r, readWords, hf]
    obtain ⟨h1, h2, h3, h4⟩ := ih flips.tail (a + 8) (readWord epoch (failed 0) a m).2
    have ha : ∀ k, a + 8 + 8 * k = a + 8 * (k + 1) := fun k => by omega
    simp only [ht, ha] at h2 h3 h4
    have hm : ∀ x, x ≠ a → Memory.read (readWord epoch (failed 0) a m).2 x = Memory.read m x :=
      fun x hx => readWord_other _ _ _ _ _ fun h => absurd h hx
    rw [hr]
    refine ⟨by simp [h1], ?_, ?_, ?_⟩
    · intro k hk
      cases k with
      | zero => simp only [List.getElem?_cons_zero, readWord_value]; simp [stored]
      | succ k =>
        simp only [List.getElem?_cons_succ]
        rw [h2 k (by omega), hm _ (by omega)]
    · intro k hk hne
      cases k with
      | zero =>
        simp only [List.getElem?_cons_zero, Nat.mul_zero, Nat.add_zero]
        rw [h4 a (fun k _ h => by omega)]
        exact readWord_at _ _ _ _ hne
      | succ k => simpa using h3 k (by omega) hne
    · intro x hx
      simp only
      rw [h4 x (fun k hk h => hx (k + 1) (by omega) h)]
      exact readWord_other _ _ _ _ _ fun h => hx 0 (by omega) (by simpa using h)

/-- Storing words leaves every address outside them as it was. -/
theorem read_writeWords_other (ws : List MemWord) (a c : Nat) (m : Memory)
    (h : c < a ∨ a + 8 * ws.length ≤ c) : Memory.read (writeWords ws a m) c = Memory.read m c := by
  induction ws generalizing a m with
  | nil => rfl
  | cons w ws ih =>
    simp only [List.length_cons] at h
    rw [writeWords, ih (a + 8) (Memory.write m a w) (by omega), read_write_other m a c w (by omega)]

/-- A word stored reads back. -/
theorem read_writeWords_at (ws : List MemWord) (a k : Nat) (m : Memory) (h : k < ws.length) :
    Memory.read (writeWords ws a m) (a + 8 * k) = ws[k]? := by
  induction ws generalizing a m k with
  | nil => simp at h
  | cons w ws ih =>
    cases k with
    | zero =>
      rw [writeWords, read_writeWords_other ws (a + 8) (a + 8 * 0) _ (by omega)]
      simpa using read_write_same m a w
    | succ k =>
      have := ih (a + 8) k (Memory.write m a w) (by simpa using h)
      rw [writeWords, show a + 8 * (k + 1) = a + 8 + 8 * k by omega, this]
      simp

/-- Memory at reset is in the canonical form. -/
theorem wf_reset : Memory.wf State.reset.mem = true := rfl

end Sys2Proof.Machine
end

