-- ==== Sys2Proof/WellFormed.lean ====
section
/-! DEFINITION. What makes a command's operands ones that the spec's outside world can send. -/

namespace Sys2Proof

/-- The bits that failed in the words of one access: at most one entry for each word read. -/
def flipsFit (words : Nat) (flips : List MemWord) : Bool := decide (flips.length ≤ words)

/-- A command whose operands can arise: a READ's mask selects 1 to 8 bytes (R1); a reply on the config link carries
at least one byte and no more than the longest image (R192, R193); a sensor has a channel number 0 to 3 (R89); a word
access reads one word and a line access eight (R23). -/
def Instr.wellFormed : Instr → Bool
  | .read _ mask => decide (mask ≠ 0)
  | .configReadReply data _ => decide (data ≠ []) && decide (data.length ≤ 2048)
  | .sensorReply channel _ => decide (channel < 4)
  | .frontReadAccessComplete flips => flipsFit 8 flips
  | .frontMergeReadComplete flips => flipsFit 1 flips
  | .fixPairReadComplete flips => flipsFit 1 flips
  | .sweepReadComplete flips => flipsFit 8 flips
  | .migrationReadComplete flips => flipsFit 8 flips
  | .readBackComplete flips _ => flipsFit 8 flips
  | .checkRangeReadComplete flips => flipsFit 8 flips
  | .commandFetchComplete flips => flipsFit 8 flips
  | .diagWordReadComplete flips => flipsFit 1 flips
  | _ => true

end Sys2Proof
end

