-- ==== Sys2Proof/Tests/Slice0.lean ====
section
/-! SUPPORT. Tests of the model on small states: ill-formed commands, the spec's worked numbers, one step each of some
commands, and for every statement with hypotheses states and operands that meet them (`test_meets_…`). -/

namespace Sys2Proof.Tests

open Sys2Proof Sys2Proof.Machine

/-! ## Ill-formed commands -/

theorem test_illFormed_emptyMask : (Instr.read 0x40 0).wellFormed = false := by decide
theorem test_illFormed_emptyReply : (Instr.configReadReply [] 0).wellFormed = false := by decide
theorem test_illFormed_longReply : (Instr.configReadReply (List.replicate 2049 0) 0).wellFormed = false := by decide +kernel
theorem test_illFormed_channel : (Instr.sensorReply 4 0).wellFormed = false := by decide
theorem test_illFormed_flips :
    (Instr.frontReadAccessComplete (List.replicate 9 noFlip)).wellFormed = false ∧
    (Instr.frontMergeReadComplete (List.replicate 2 noFlip)).wellFormed = false ∧
    (Instr.fixPairReadComplete (List.replicate 2 noFlip)).wellFormed = false ∧
    (Instr.sweepReadComplete (List.replicate 9 noFlip)).wellFormed = false ∧
    (Instr.migrationReadComplete (List.replicate 9 noFlip)).wellFormed = false ∧
    (Instr.readBackComplete (List.replicate 9 noFlip) false).wellFormed = false ∧
    (Instr.checkRangeReadComplete (List.replicate 9 noFlip)).wellFormed = false ∧
    (Instr.commandFetchComplete (List.replicate 9 noFlip)).wellFormed = false ∧
    (Instr.diagWordReadComplete (List.replicate 2 noFlip)).wellFormed = false := by decide
theorem test_wellFormed :
    (Instr.read 0x40 0x01).wellFormed = true ∧ (Instr.sensorReply 3 0).wellFormed = true ∧
    (Instr.frontReadAccessComplete (List.replicate 8 noFlip)).wellFormed = true ∧ Instr.status.wellFormed = true := by
  decide

/-- No row of the table gives bits, so no word spells a command. -/
theorem test_noWordSpells : decodeTableWord 8 0 = none ∧ decodeTableWord 32 0xFFFFFFFF = none := by decide

/-! ## States -/

/-- A board that runs, with the built-in defaults: no window, no ring, the port free. -/
def running : State :=
  { State.reset with
    loader := { State.reset.loader with state := .loaded, loaded := some (builtIn 0), defaultsFlag := true }
    ctl := { State.reset.ctl with regime := .running, power := true, processorReset := false, memValid := true } }

/-- A part in a regime, board power on or off. -/
def inRegime (r : Regime) (power : Bool) : State :=
  { running with ctl := { running.ctl with regime := r, power := power, processorReset := decide (r ≠ .running) } }

/-- An access at home. -/
def access (p : Purpose) (line : Bool) (offset : Nat) (words : List MemWord) : Access :=
  { requester := .front, purpose := p, line := line, offset := offset, loc := .home, words := words, syndrome := 0,
    discarded := false }

/-- A state with an access at the port. -/
def carrying (a : Access) (s : State) : State := { s with port := some a }

/-- A window with nothing special. -/
def plain (base size : Nat) : Window :=
  { base := base, size := size, writePolicy := .allow, checkPolicy := .correct, ringRole := .none,
    poisonRestart := false, shielded := false }

/-- A running board whose window table begins with the windows given. -/
def withWindows (ws : List Window) : State :=
  { running with windows := ws.map some ++ List.replicate (16 - ws.length) none }

def cmdRing : Window := { plain 0x10000 4096 with ringRole := .commandRing, writePolicy := .allow }
def evRing : Window := { plain 0x20000 4096 with ringRole := .eventRing }

/-- A state in which the command engine executes a record of a code, its words given. -/
def handed (c : CommandCode) (record : List Word) (s : State) : State :=
  { s with engine := { s.engine with state := .executing, work := .handed c, record := record } }

/-! ## The spec's worked numbers -/

theorem test_patternWord : patternWord 1 0x2C58 = 0xFFFFD3A700002C58 ∧ patternWord 2 0x2C58 = 0x00002C58FFFFD3A7 := by
  decide

theorem test_checkBits : checkBits 0 = 0 ∧ checkBits 1 = 0x07 ∧ checkBits 0x8000000000000000 = 0x57 ∧
    decode (made 0x0123456789ABCDEF) = .clean := by decide

theorem test_distance : indexDistance 8 14 1 = 3 ∧ indexDistance 8 1 12 = 11 ∧ nextIndex 8 15 = 0 := by decide

/-! ## One step each -/

theorem test_step_idles : step State.reset = .next State.reset := rfl

theorem test_step_takesFront :
    step { running with pending := [.uptimeTick, .status] } =
      .next { running with pending := [.status], clock := { running.clock with uptime := 1 } } := by rfl

/-- The state after a step that answers next. -/
def after (o : Host.Outcome State Fault Refusal) : State :=
  match o with
  | .next t => t
  | _ => State.reset

/-- The fault of a step that stops. -/
def faulted (o : Host.Outcome State Fault Refusal) : Option Fault :=
  match o with
  | .fault f => some f
  | _ => none

theorem test_read_outOfRange :
    after (exec (.read 0x3FF800 0xFF) running) = { running with frontResponse := some (.refused .outOfRange) } := by
  decide +kernel

/-- A whole-word write: the access, its completion, and the read that gives the word back. -/
theorem test_write_access :
    after (exec (.write 0x48 0xFF 5) running) = carrying (access .frontWrite false 0x48 [made 5]) { running with
      front := some { kind := .write, offset := 0x48, mask := 0xFF, words := [5], phase := .access,
                      classification := some (running.classify 0x48) } } := by decide +kernel

theorem test_write_then_read :
    (after (exec (.frontReadAccessComplete [])
      (after (exec (.read 0x48 0xFF)
        (after (exec .frontWriteAccessComplete
          (after (exec (.write 0x48 0xFF 5) running)))))))).frontResponse = some (.data [(5, false)]) := by decide +kernel

/-- A flipped bit is corrected in the response and offered to the fix list. -/
theorem test_read_corrects :
    let t := after (exec (.frontReadAccessComplete [{ data := 8, check := 0 }])
      (carrying (access .frontRead false 0x48 []) { running with
        mem := [(0x48, made 5)]
        front := some { kind := .read, offset := 0x48, mask := 0xFF, words := [], phase := .access,
                        classification := some (running.classify 0x48) } }))
    t.frontResponse = some (.data [(5, false)]) ∧ t.log.corrected = 1 ∧ t.scrub.fixList.length = 1 := by decide +kernel

theorem test_accessOutside :
    faulted (exec .frontWriteAccessComplete (carrying (access .frontWrite false 0x400000 [made 0]) running)) =
      some .addressOutsideMemory := by decide +kernel

theorem test_status_completes :
    (after (exec .status (handed .status [1, 0, 0, 0, 0, 0, 0, 0] running))).engine.state = .completing := by decide

/-- TAKE-ERROR on an empty log: an absent temperature, all ones elsewhere, none left (R37, R197). -/
theorem test_takeError_empty :
    errorResults none 0 = List.replicate 17 0xFF ++ [0x7F, 0xFF, 0] := by decide

/-! ## States that meet the hypotheses of the statements -/

theorem test_meets_StepTakesFront :
    ({ running with pending := [.status] } : State).pending = .status :: [] ∧ running.pending = [] := by decide

theorem test_meets_CommandsKeep :
    (∃ t, exec .uptimeTick running = .next t) ∧ completesWrite .uptimeTick = none ∧ completesRead .uptimeTick = none :=
  ⟨⟨_, rfl⟩, rfl, rfl⟩

theorem test_meets_AccessCompletes :
    completesWrite .zeroWriteComplete = some .zeroWrite ∧
    completesRead (.sweepReadComplete []) = some (.sweepRead, []) ∧
    running.inMemory (access .zeroWrite true 0x3FFFC0 []) = true ∧
    running.inMemory (access .zeroWrite true 0x3FFFC8 []) = false ∧
    running.inMemory (access .sweepRead true 0 []) = true ∧ running.port = none := by decide

theorem test_meets_AccessCompletes_reads :
    let flips : List MemWord := [noFlip, { data := 1, check := 0 }]
    let r := readWords 0 flips 0 3 [(8, made 5), (16, made 6)]
    flips.getD 1 noFlip ≠ noFlip ∧ flips.getD 2 noFlip = noFlip ∧ r.1[1]? = some { made 5 with data := 4 } ∧
    r.1[2]? = some (made 6) ∧ Memory.read r.2 8 = some { made 5 with data := 4 } ∧ Memory.read r.2 0 = none ∧
    Memory.read r.2 16 = some (made 6) := by decide

theorem test_meets_ArbiterGrants :
    let w (n : Nat) : Option Waiting := some { access := access .frontRead false 0 [], passed := n }
    let a : Arbiter := { Arbiter.empty with front := w 15, scrub := w 16 }
    a.pick.map (·.1) = some .scrub ∧ ({ a with scrub := w 15 } : Arbiter).pick.map (·.1) = some .front ∧
    Arbiter.empty.pick = none ∧ running.port = none ∧ running.ctl.power = true ∧ State.reset.ctl.power = false ∧
    (carrying (access .frontRead false 0 []) running).port.isSome = true := by decide

/-- A grant at each of the five blocks: COPY, step 7, the MAILBOX user, ACCESS, SWEEP-READ with the due flag cleared, and
FIX-PAIR with it kept. -/
theorem test_grant_reaches_block :
    let w (p : Purpose) : Option Waiting := some { access := access p true 0 [], passed := 0 }
    let m : Migration := { group := 0, source := .home, slot := 0, reRepair := false, copying := false, carried := 0 }
    let s : State := { running with scrub := { running.scrub with due := true, activity := .portWait } }
    let one (a : Arbiter) : State := grant { s with arbiter := a }
    (grant { s with arbiter := { Arbiter.empty with repair := w .migrationRead }
                    repair := { s.repair with migration := some m } }).repair.migration = some { m with copying := true } ∧
    (one { Arbiter.empty with mailbox := w .fetch }).lastUser = some .engine ∧
    (one { Arbiter.empty with prep := w .patternWrite }).prep.wait = .access ∧
    (one { Arbiter.empty with scrub := w .sweepRead }).scrub = { s.scrub with activity := .sweepRead, due := false } ∧
    (one { Arbiter.empty with scrub := w .fixRead }).scrub = { s.scrub with activity := .fixPair } := by decide

/-- A whole image of 808 bytes with a good sum. -/
def image : List Byte := [0x28, 0x03, 0x02, 0x00, 0xD5, 0xFC] ++ List.replicate 802 0

theorem test_meets_ConfigLink :
    State.reset.loader.state = .reading ∧ running.loader.state ≠ .reading ∧
    (State.reset.loader.buffer ++ image.take 7).length < 8 ∧
    headerOk (image.take 8) = true ∧ (image.take 8).length < imageLength (image.take 8) ∧
    headerOk (List.replicate 8 (0 : Byte)) = false ∧
    headerOk image = true ∧ imageLength image ≤ image.length ∧ checksumOk image = true ∧
    imageLength (image.set 100 1) ≤ (image.set 100 1).length ∧ checksumOk (image.set 100 1) = false := by decide +kernel

/-- Bytes put into an image from an offset on. -/
def patched (b : List Byte) (o : Nat) (bytes : List Byte) : List Byte := b.take o ++ bytes ++ b.drop (o + bytes.length)

/-- Of the image's places: a legal window at the top of memory and one above it, a watch entry of the last 8 bytes with a
data match, a STAGE entry with no stage number, and a chord twice, its hold time the least. -/
theorem test_meets_LoadedCopyLegal :
    let b := patched (patched image 136 [0, 0xE0, 0x3F, 0, 0, 0x10, 0, 0]) 152 [0, 0xF0, 0x3F, 0, 0, 0x10, 0, 0]
    let b := patched (patched b 392 [0xF8, 0xF7, 0x3F, 0, 8, 0, 1, 0, 0, 1]) 424 [0, 0, 0, 0, 1, 0, 0, 1]
    let b := patched (patched b 776 [1, 3, 2, 0, 27, 0, 5, 0]) 784 [1, 0, 2, 27, 0, 0, 100, 0]
    let v := (validate b 0).1
    (validate b 0).2 = true ∧ v.windows[0]? = some (some (plain 0x3FE000 4096)) ∧ v.windows[1]? = some none ∧
    (v.watches.getD 0 none).isSome = true ∧ v.watches[1]? = some none ∧
    (v.chords.map (·.enabled)) = [true, false, false, false] ∧ (v.chords.map (·.hold)) = [500, 10000, 0, 0] ∧
    (v.channels.map (·.role)) = [.disabled, .disabled, .disabled, .disabled] ∧ v.memSize = 4194304 ∧
    (v.keys.getD 63 (defaultKey 0)).code = 0 := by decide +kernel

/-- An image in which every field and entry is legal: the channels DISABLED, no window, no watch entry, and the chords
disabled with the least hold time. -/
def legalImage : List Byte :=
  image.take 8 ++
  [0, 3, 0xE8, 3, 0, 0, 0xF4, 1, 30, 5, 120, 0, 100, 0, 6, 60, 10, 0, 25, 30, 15, 2, 8, 0, 30, 0, 120, 0, 0xE8] ++
  [3, 0xF4, 1, 0, 0, 0, 0, 0, 1, 3, 10, 2, 4, 4, 8, 3, 8, 0, 0, 60, 16, 64, 0, 0xF4, 1, 100, 0, 100, 0] ++
  List.replicate 710 0 ++ (List.replicate 4 [0, 0, 2, 0, 1, 0, 5, 0]).flatten

/-- PARTIAL is clear for it with a threshold at the end of its range, and set one above it, or by one dropped window. -/
theorem test_meets_LoadedCopyLegal_partial :
    (validate (legalImage.set 74 250) 0).2 = false ∧ (validate (legalImage.set 74 251) 0).2 = true ∧
    (validate (legalImage.set 140 1) 0).2 = true := by decide +kernel

theorem test_meets_LoadingEnds : State.reset.ctl.regime = .loading ∧ State.reset.thermal.readiness = false := by decide

/-- A refused report, as a write out of range makes it. -/
def refusedReport : FrontReport :=
  { kind := .refused .outOfRange, line := false, offset := 0x3FF800, mask := 0xFF, words := [], window := none }

theorem test_meets_FrontOutOfRange :
    running.ctl.regime = .running ∧ running.front = none ∧
    running.usable ≤ wordOffset 0x3FF800 ∧ running.usable ≤ groupOf 0x3FF800 ∧ running.usable ≤ wordOffset 0xFFFFFFFF ∧
    ({ running with watchReports := [refusedReport] } : State).watchReports = refusedReport :: [] ∧
    refusedReport.kind = .refused .outOfRange ∧ groupOf 0x3FF7FF < memSizeOfCode 0 - 2048 := by decide

/-- A running board with a group reserved. -/
def reserving (g : Nat) : State := { running with repair := { running.repair with reservation := some g } }

/-- A repair entry of a group, at a slot. -/
def repairAt (g n : Nat) : RepairEntry := { group := g, slot := n, reRepairs := 0, uptime := 0, carried := 0 }

theorem test_meets_FrontReads_redirect :
    let s : State := { running with repair := { running.repair with table := [repairAt 0 0, repairAt 0x3FF7C0 31] } }
    let ws := withWindows [plain 0 4096, plain 4096 4096]
    s.repair.table = [repairAt 0 0] ++ repairAt 0x3FF7C0 31 :: [] ∧ groupOf 0x3FF7F8 = 0x3FF7C0 ∧
    s.accessAddress (s.accessAt .front .frontRead false 0x3FF7F8 []) = 0x400000 - 8 ∧
    (∀ e ∈ s.repair.table, e.group ≠ groupOf 0x40) ∧ ws.windows[1]? = some (some (plain 4096 4096)) ∧
    (plain 4096 4096).base ≤ 4096 ∧ ¬ (4096 < (plain 0 4096).base + (plain 0 4096).size) ∧
    (∀ w, some w ∉ running.windows) := by
  refine ⟨by decide, by decide, by decide, by decide, by decide, by decide, by decide, ?_⟩
  intro w h
  simp [running, State.reset] at h

theorem test_meets_FrontReads :
    wordOffset 0x3FF7FF < running.usable ∧ groupOf 0x3FF7FF < running.usable ∧
    (reserving 0x3FF7C0).repair.reservation = some (groupOf (wordOffset 0x3FF7FF)) ∧
    running.repair.reservation ≠ some (groupOf (wordOffset 0x3FF7FF)) ∧ (reserving 0x3FF7C0).front = none ∧
    (reserving 0x3FF7C0).ctl.regime = .running := by decide

theorem test_meets_FrontWrites :
    running.ctl.regime = .running ∧ running.front = none ∧ wordOffset 0x3FF7F8 < running.usable ∧
    (running.classify 0x3FF7F8).writePolicy = .allow ∧ ¬ meetsPartOwned running 0x3FF7F8 false ∧
    groupOf 0x3FF7C0 < running.usable ∧ ¬ meetsPartOwned running 0x3FF7C0 true := by
  refine ⟨by decide, by decide, by decide, by decide, ?_, by decide, ?_⟩
  · rintro ⟨k, w, h, _⟩
    have : running.windowAt 0x3FF7F8 = none := by decide
    simp [this] at h
  · rintro ⟨k, w, h, _⟩
    have : running.windowAt 0x3FF7C0 = none := by decide
    simp [this] at h

theorem test_meets_FrontWriteRefused :
    ((withWindows [{ plain 0 4096 with writePolicy := .refuseTrip }]).classify 0xFF8).writePolicy = .refuseTrip ∧
    ((withWindows [{ plain 0 4096 with writePolicy := .refuse }]).classify 0).writePolicy ≠ .allow ∧
    meetsPartOwned (withWindows [cmdRing]) 0x10008 false ∧ meetsPartOwned (withWindows [evRing]) 0x20000 false ∧
    meetsPartOwned (withWindows [cmdRing]) 0x10000 true ∧ 0x20000 < running.usable :=
  ⟨by decide, by decide, ⟨0, cmdRing, by decide, by decide⟩, ⟨0, evRing, by decide, by decide⟩,
    ⟨0, cmdRing, by decide, by decide⟩, by decide⟩

/-- A front transaction in its access, and the board that carries it. -/
def transaction (k : TxnKind) (o : Nat) (mask : Byte) (words : List Word) : FrontTxn :=
  { kind := k, offset := o, mask := mask, words := words, phase := .access,
    classification := some (running.classify o) }

def serving (t : FrontTxn) (p : Purpose) (words : List MemWord) : State :=
  carrying (access p t.kind.isLine t.offset words) { running with front := some t, mem := [(t.offset, made 5)] }

theorem test_meets_FrontReadCompletes :
    let s := serving (transaction .read 0x48 0xFF []) .frontRead []
    s.port = some (access .frontRead false 0x48 []) ∧ s.inMemory (access .frontRead false 0x48 []) = true ∧
    s.front = some (transaction .read 0x48 0xFF []) ∧
    (transaction .read 0x48 0xFF []).classification = some (running.classify 0x48) := by decide

theorem test_meets_FrontMergeReadCompletes :
    let s := serving (transaction .write 0x48 0x0F [7]) .frontMergeRead []
    let a := access .frontMergeRead false 0x48 []
    s.port = some a ∧ a.line = false ∧ s.inMemory a = true ∧ s.front = some (transaction .write 0x48 0x0F [7]) ∧
    decode (readWord s.memEpoch noFlip (s.accessAddress a) s.mem).1 ≠ .uncorrectable ∧
    decode (readWord s.memEpoch { data := 3, check := 0 } (s.accessAddress a) s.mem).1 = .uncorrectable := by decide

theorem test_meets_FrontWriteCompletes :
    let s := serving (transaction .write 0x48 0xFF [7]) .frontWrite [made 7]
    let a := access .frontWrite false 0x48 [made 7]
    s.port = some a ∧ a.purpose = .frontWrite ∧ s.inMemory a = true ∧
    s.front = some (transaction .write 0x48 0xFF [7]) := by decide

theorem test_meets_CheckCode :
    decode (made 5) = .clean ∧ decode { made 5 with check := checkBits 5 ^^^ 0x80 } = .checkBit 7 ∧
    decode { made 5 with data := 5 ^^^ 0x8000000000000000 } = .dataBit 63 ∧
    decode { made 5 with data := 6 } = .uncorrectable := by decide

/-- A log entry, of a severity, with its rewritten flag. -/
def entry (o : Nat) (v : Severity) (rewritten : Bool) : LogEntry :=
  { offset := o, loc := .home, syndrome := 7, severity := v, source := .scrub, repeats := 1, rewritten := rewritten,
    repairRequested := false, uptime := 0, temperature := none, regime := .running }

theorem test_meets_DetectionLogged :
    let same (e : LogEntry) (o : Nat) : Bool := decide (e.offset = o ∧ e.loc = .home ∧ e.syndrome = 7)
    let full := (List.range 8).map fun k => entry (8 * k) (if k = 3 then .corrected else .reported) false
    ([entry 0x48 .corrected false].find? (same · 0x48)) = some (entry 0x48 .corrected false) ∧
    ([entry 0x48 .corrected true].find? (same · 0x48)) = some (entry 0x48 .corrected true) ∧
    (full.take 7).length < 8 ∧ full.find? (same · 0x400) = none ∧ 8 ≤ full.length ∧
    full = full.take 3 ++ entry 24 .corrected false :: full.drop 4 ∧
    (∀ x ∈ full.take 3, x.severity ≠ .corrected) ∧
    satInc ({ entry 0 .corrected true with repeats := 2 } : LogEntry).repeats = 3 ∧ running.settings.repairThreshold = 3 ∧
    satInc (255 : Byte) = 255 ∧ satInc (entry 0 .corrected true).repeats = 2 ∧ State.reset.ctl.power = false ∧
    running.ctl.power = true ∧ ({ running.repair with requests := [0, 64, 128, 192] } : Repair).isPending 192 = true ∧
    ({ running.repair with requests := [0, 64, 128, 192] } : Repair).isPending 256 = false ∧
    running.repair.requests.length < 4 := by decide

/-- A report of a write of one whole word. -/
def wrote (o : Nat) (v : Word) : FrontReport :=
  { kind := .write, line := false, offset := o, mask := 0xFF, words := [v], window := none }

theorem test_meets_ReportsTaken :
    ({ running with watchReports := [wrote 8 1] } : State).watchReports = wrote 8 1 :: [] ∧
    running.ctl.regime = .running ∧ (inRegime .restarting true).ctl.regime ≠ .running ∧ (wrote 8 1).kind = .write := by
  decide

/-- A watch entry over one word. -/
def watchOf (role : WatchRole) (d : Option DataMatch) : WatchEntry :=
  { base := 8, length := 8, access := .write, dataMatch := d, role := role, persistence := .standing, enabled := true,
    suppressed := false }

theorem test_meets_ReportMatches :
    (watchOf .kick none).dataMatch = none ∧ (watchOf .kick none).matched (wrote 8 1) = true ∧
    (watchOf .kick none).matched (wrote 16 1) = false ∧
    (watchOf .kick (some { value := 1, mask := 0xFF })).matched (wrote 8 1) = true ∧
    (watchOf .kick (some { value := 1, mask := 0xFF })).matched (wrote 8 2) = false ∧
    (watchOf .kick none).access = .write := by decide

theorem test_meets_ReportActs :
    let s : State := { running with watch := { running.watch with
      entries := [some (watchOf (.stage 1) none), some (watchOf .trip none), some (watchOf .kick none)] ++
        List.replicate 5 none } }
    let early : State := { s with dog := { s.dog with state := .armed, minInterval := 1 } }
    s.watch.entries.length = 8 ∧ (watchOf (.stage 1) none).matched (wrote 8 1) = true ∧ s.settings.bootStage = 1 ∧
    (watchOf .kick none).matched (wrote 8 1) = true ∧ (watchOf .kick none).enabled = true ∧
    (dogSignal true true s).requests = s.requests ++ [] ∧
    (dogSignal true true early).requests =
      early.requests ++ [{ cause := .earlyKick, cold := false, chord := none }] := by
  decide

/-- A boot-stage hit clears a suppressed flag and the consecutive cold count, and keeps the rest of both. -/
theorem test_boot_stage_hit_keeps_the_rest :
    let s : State := { running with
      restarts := { running.restarts with coldCount := 2 }
      watch := { running.watch with entries := [some (watchOf (.stage 1) none),
        some { watchOf .kick none with base := 16, suppressed := true }] ++ List.replicate 6 none } }
    let t := actOn (wrote 8 1) s
    t.restarts = { s.restarts with coldCount := 0 } ∧ t.watch.lock = s.watch.lock ∧
    t.watch.entries = [some (watchOf (.stage 1) none), some { watchOf .kick none with base := 16 }] ++
      List.replicate 6 none := by decide

/-- A running board with its watchdog in a state, its timer given. -/
def dogIn (st : DogState) (timer : DogTimer) (out : Bool) : State :=
  { running with dog := { running.dog with state := st, timer := timer, requestOut := out, minInterval := 1 } }

theorem test_meets_WatchSignals :
    (dogIn .armed .stopped true).dog.requestOut = true ∧ (dogIn .booting .stopped false).dog.requestOut = false ∧
    (dogIn .armed .stopped false).clock.session.toNat - (dogIn .armed .stopped false).dog.reference.toNat <
      (dogIn .armed .stopped false).dog.minInterval.toNat ∧
    running.dog.minInterval = 0 ∧ (dogIn .warned .stopped false).dog.state = .warned := by decide

theorem test_meets_RingSnoops :
    let s := withWindows [cmdRing, evRing]
    s.ring .commandRing = some cmdRing ∧ s.ring .eventRing = some evRing ∧
    (wrote 0x10000 1).concerns 0x10000 = true ∧ (wrote 0x20010 1).concerns 0x20010 = true ∧
    (wrote 0x20008 1).concerns 0x2000F = true ∧ (wrote 0x10000 1).concerns 0x10008 = false ∧
    s.engine.state = .idle ∧ 16 < 2 * s.settings.cmdRingSlots ∧ indexDistance s.settings.cmdRingSlots 0 16 ≤ 16 ∧
    ¬ (indexDistance s.settings.cmdRingSlots 0 17 ≤ 16) ∧ s.events.state ≠ .faulted := by decide

theorem test_meets_ScrubChooses :
    let s : State := { running with scrub := { running.scrub with timer := .running 1000, due := true } }
    let f : FixEntry := { offset := 0x48, loc := .home }
    s.scrub.timer = .running 1000 ∧ running.scrub.timer = .stopped ∧ s.policyAt 0x48 = .correct ∧
    (withWindows [{ plain 0 4096 with checkPolicy := .report }]).policyAt 0xFF8 = .report ∧
    ({ s with scrub := { s.scrub with fixList := [f] } } : State).scrub.fixList = [] ++ f :: [] ∧
    s.scrub.fixList = [] ∧ s.scrub.due = true ∧ running.scrub.due = false ∧
    running.ctl.memValid = true ∧ State.reset.ctl.memValid = false ∧ f ∉ running.scrub.fixList ∧
    8 ≤ (List.replicate 8 f).length ∧ (List.replicate 7 f).length < 8 ∧ running.scrub.activity ≠ .idle ∧
    ({ running.scrub with activity := .idle } : Scrubber).activity = .idle := by decide

theorem test_meets_ScrubAccesses :
    let f : FixEntry := { offset := 0x48, loc := .home }
    let s := carrying (access .fixRead false 0x48 [])
      { running with mem := [(0x48, made 5)], scrub := { running.scrub with inHand := some (.fix f) } }
    let read (flip : MemWord) := decode (readWord s.memEpoch flip 0x48 s.mem).1
    s.port = some (access .fixRead false 0x48 []) ∧ s.inMemory (access .fixRead false 0x48 []) = true ∧
    s.scrub.inHand = some (.fix f) ∧ read noFlip = .clean ∧ read { data := 3, check := 0 } = .uncorrectable ∧
    read { data := 1, check := 0 } ≠ .clean ∧ read { data := 1, check := 0 } ≠ .uncorrectable ∧
    s.ctl.memValid = true ∧ s.inMemory (access .sweepRead true 0 []) = true := by decide

/-- A migration of the first group to slot 0. -/
def migrating (re : Bool) : Migration :=
  { group := 0, slot := 0, reRepair := re, source := .home, carried := 0, copying := true }

/-- A repair entry of the first group, at slot 1. -/
def repaired (carried : Byte) : RepairEntry := { group := 0, slot := 1, reRepairs := 0, uptime := 0, carried := carried }

def repairing (re : Bool) (table : List RepairEntry) (p : Purpose) (words : List MemWord) : State :=
  carrying (access p true 0 words) { running with
    mem := (List.range 8).map fun k => (8 * k, made 5)
    repair := { running.repair with migration := some (migrating re), reservation := some 0, table := table } }

theorem test_meets_FrontWriteCompletes_carried :
    let s : State := { running with repair := { running.repair with table := [repaired 0xFF] } }
    let at1 (a : Access) : List RepairEntry := (clearCarried { a with loc := .spare 1 } s).repair.table
    s.repair.table[0]? = some (repaired 0xFF) ∧ (repaired 0xFF).slot = 1 ∧ (repaired 0xFF).slot ≠ 2 ∧
    at1 (access .frontWrite false 0x38 [made 7]) = [repaired 0x7F] ∧
    at1 (access .zeroWrite true 0 (List.replicate 8 (made 0))) = [repaired 0] ∧
    at1 (access .diagWrite false 0x38 [made 7]) = [repaired 0xFF] := by decide

theorem test_meets_MigrationReads :
    let s := repairing true [repaired 0xFF] .migrationRead []
    let a := access .migrationRead true 0 []
    s.port = some a ∧ s.inMemory a = true ∧ s.repair.migration = some (migrating true) ∧
    s.repairEntry 0 = some (repaired 0xFF) ∧ (repaired 0xFF).carried ≠ 0 ∧
    (readWords s.memEpoch [{ data := 3, check := 0 }] 0 8 s.mem).1[0]? = some { made 5 with data := 6 } ∧
    decode { made 5 with data := 6 } = .uncorrectable ∧ decode (made 5) = .clean ∧
    (repairing false [] .migrationRead []).repair.migration = some (migrating false) := by decide

theorem test_meets_MigrationWrites :
    let s := repairing false [] .migrationWrite (List.replicate 8 (made 5))
    s.port = some (access .migrationWrite true 0 (List.replicate 8 (made 5))) ∧
    s.inMemory (access .migrationWrite true 0 (List.replicate 8 (made 5))) = true ∧ s.repairEntry 0 = none ∧
    (repairing true [repaired 0] .migrationWrite []).repairEntry 0 = some (repaired 0) ∧ s.repair.requests = [] := by
  decide

/-- A waiting request for one word of a group. -/
def asking (r : Requester) (g : Nat) : Option Waiting :=
  some { access := { access .frontRead false (g + 56) [] with requester := r }, passed := 0 }

theorem test_meets_MigrationWrites_reservation :
    let e : Engine := { running.engine with state := .executing, work := .diagRead 0x78 }
    let s : State := { running with
      arbiter := { Arbiter.empty with front := asking .front 64, scrub := asking .scrub 64, prep := asking .prep 64
                                      mailbox := asking .mailbox 64 }
      prep := { running.prep with activity := .checking }, engine := e }
    groupOf (64 + 56) = 64 ∧ groupOf 0x80 ≠ 64 ∧ s.port = none ∧ s.engine.work = .diagRead 0x78 ∧ groupOf 0x78 = 64 ∧
    (setReservation 64 s).arbiter = Arbiter.empty ∧ (setReservation 64 s).engine.state = .waiting ∧
    (setReservation 128 s).arbiter = s.arbiter ∧ (setReservation 128 s).engine = s.engine := by decide

theorem test_meets_MigrationWrites_release :
    let t (phase : FrontPhase) : FrontTxn :=
      { kind := .read, offset := 0x78, mask := 0xFF, words := [], phase := phase, classification := none }
    let e : Engine := { running.engine with state := .waiting, work := .repairGroup 64 false }
    let d : Engine := { running.engine with state := .waiting, work := .diagWrite 0x40 (made 0) }
    let fix : Scrubber := { running.scrub with activity := .groupWait, inHand := some (.fix { offset := 0x78, loc := .home }) }
    let sweep : Scrubber := { running.scrub with activity := .groupWait, inHand := some (.sweep 1) }
    let p : Prep := { running.prep with wait := .groupWait, position := 1, activity := .checking }
    groupOf (t .redirectWait).offset = 64 ∧ (t .reserveWait).offset < running.usable ∧ wordOffset 0x7F = 0x78 ∧
    e.work = .repairGroup 64 false ∧ d.work = .diagWrite 0x40 (made 0) ∧ groupOf 0x40 = 64 ∧
    64 * p.position = 64 ∧ p.wait = .groupWait ∧ (fix.activity = .groupWait ∧ groupOf 0x78 = 64) ∧
    (sweep.activity = .groupWait ∧ groupOf (64 * 1) = 64) ∧ running.repair.reservation ≠ some 64 ∧
    running.repair.reservation = none ∧ running.ctl.regime = .running := by decide

/-- A board being prepared, at a step of the group at a position. -/
def preparing (pos : Nat) (step : PrepStep) : State :=
  { inRegime .preparing true with
    prep := { Prep.initial with activity := .passing, pass := 1, position := pos, step := step, wait := .access } }

theorem test_meets_PatternWords :
    (preparing 0 .patternWrite).prep.activity = .passing ∧ (preparing 0 .patternWrite).prep.step = .patternWrite ∧
    0x3FFFFFF < 2 ^ 32 := by decide

theorem test_meets_PrepReadsBack :
    (preparing 0 .patternWrite).inMemory (access .patternWrite true 0 []) = true ∧
    (preparing 0 .readBack).inMemory (access .readBack true 0 []) = true ∧
    (preparing 1 .readBack).repair.reservation ≠ some (64 * 1) ∧
    ({ preparing 1 .readBack with repair := { running.repair with reservation := some 64 } } : State).repair.reservation =
      some (64 * 1) := by decide

theorem test_meets_PrepReadsBack_waits :
    let s : State := { running with
      prep := { Prep.initial with activity := .checking, position := 1 }
      repair := { running.repair with reservation := some 64 } }
    s.repair.reservation = some (64 * s.prep.position) ∧ s.prep.activity = .checking ∧
    (List.replicate 8 (made 0)).length ≤ 8 ∧
    (findings 1 0 ((List.range 8).map fun k => made (patternWord 1 (8 * k)))) = List.replicate 8 .good := by decide +kernel

theorem test_meets_PrepPassEnds :
    (preparing 0 .zeroWrite).ctl.regime = .preparing ∧
    (preparing 0 .zeroWrite).inMemory (access .zeroWrite true 0 []) = true ∧
    64 * (65502 + 1) < running.usable ∧ running.usable ≤ 64 * (65503 + 1) ∧
    (preparing 0 .zeroWrite).prep.uncorrectable = 0 ∧ 8 ≤ running.settings.prepCorrectedLimit ∧
    ¬ (9 ≤ running.settings.prepCorrectedLimit) ∧ 1 < running.settings.prepPasses ∧
    running.settings.prepPasses ≤ 2 ∧ running.prep.retry = .stopped ∧
    (preparing 65503 .readBack).prep.activity ≠ .checking ∧ (preparing 65503 .readBack).prep.step = .readBack ∧
    ({ running.prep with activity := .checking } : Prep).activity = .checking := by decide

theorem test_meets_CheckRangeReads :
    let g : CheckRange := { base := 0, stop := 128, checked := 0, single := 0, uncorrectable := 0 }
    let s : State := { running with prep := { Prep.initial with activity := .checking, range := some g } }
    s.prep.range = some g ∧ s.inMemory (access .checkRead true 0 []) = true ∧
    64 * (s.prep.position + 1) < g.stop ∧ g.stop ≤ 64 * (1 + 1) ∧
    (carrying { access .checkRead true 0 [] with discarded := true } running).port =
      some { access .checkRead true 0 [] with discarded := true } ∧ running.prep.range = none := by decide

theorem test_meets_Polls :
    let s : State := { running with thermal := { running.thermal with pollTimer := .running 500, polling := some 3 } }
    s.thermal.pollTimer = .running 500 ∧ running.thermal.pollTimer = .stopped ∧ s.thermal.polling = some 3 ∧
    3 < s.thermal.channels.length ∧ -110 ≤ (BitVec.ofInt 16 (-110)).toInt ∧ (250#16).toInt ≤ 250 ∧
    250 < (251#16).toInt ∧ (BitVec.ofInt 16 (-111)).toInt < -110 ∧ s.thermal.polling ≠ some 2 ∧
    (s.channel 3).timeouts + 1 ≠ 3 ∧ (s.channel 3).state ≠ .failed := by decide

/-- A board in a regime whose channels are VALID with the readings given, BOARD, MEMORY and PANEL first. -/
def measured (r : Regime) (readings : List Int) : State :=
  { inRegime r r.powered with thermal := { running.thermal with
      channels := readings.map fun t => { state := .valid, reading := some t, timeouts := 0, hotArmed := true } } }

theorem test_meets_Polls_conditions :
    let s := measured .running [140, 139, -31, 0]
    let rearming : Channel := { state := .valid, reading := some 135, timeouts := 2, hotArmed := false }
    s.settings.channels[0]? = some (defaultChannel 0) ∧ (s.channel 0).state = .valid ∧ (s.channel 0).reading = some 140 ∧
    (s.channel 0).hotArmed = true ∧ (defaultChannel 0).warnHot ≤ 140 ∧ (139 : Int) < (defaultChannel 0).warnHot ∧
    rearming.hotArmed = false ∧ (135 : Int) < (defaultChannel 0).warnHot - 4 ∧ (defaultChannel 0).warnHot - 4 ≤ 136 ∧
    (running.channel 0).state ≠ .valid ∧ rearming.timeouts = 2 ∧ s.roleReading .memory = some 139 ∧
    running.roleReading .memory = none ∧ s.roleReading .panel = some (-31) ∧ s.settings.keyCold = -30 ∧
    running.roleReading .panel = none ∧ s.roleChannel .board = some 0 ∧ s.roleChannel .air = none := by decide

theorem test_meets_OverheatExcludesResume :
    (∀ x ∈ running.channelPairs, x.2.state = .valid → x.1.resume < x.1.critical) ∧
    (measured .running [170, 0, 0, 0]).overheatNow = true ∧ (measured .running [169, 0, 0, 0]).overheatNow = false ∧
    (measured .overheat [120, 120, 120, 0]).resumeNow = true ∧ (measured .overheat [121, 0, 0, 0]).resumeNow = false ∧
    (measured .heating [0, 0, 0, 0]).readinessNow = true ∧ (measured .heating [0, 0, 0, 0]).thermal.readiness = false ∧
    (measured .heating [-1, 0, 0, 0]).readinessNow = false ∧ (measured .heating [0]).ctl.regime = .heating := by decide

theorem test_meets_OverheatExcludesResume_leaving :
    let s : State := { measured .running [170, 0, 0, 0] with
      prep := { Prep.initial with activity := .checking }
      queue := [{ session := 0, body := .key .press 1 1 none none }] }
    let t := reportOverheat { s with repair := { running.repair with migration := some (migrating false) } }
    s.overheatNow = true ∧ s.ctl.regime = .running ∧ s.prep.activity = .checking ∧ s.ctl.regime.powered = true ∧
    (measured .preparing [170, 0, 0, 0]).overheatNow = true ∧ (measured .offCycle [170, 0, 0, 0]).overheatNow = true ∧
    t.repair.abandoned = 1 ∧ t.missed = 1 ∧ t.queue = [] ∧ t.prep = Prep.initial := by decide +kernel

theorem test_meets_OverheatExcludesResume_heaters :
    let s : State := { measured .soaking [-7, 9, 8, 0] with ctl := { (inRegime .soaking false).ctl with soak := .running 1 } }
    s.settings.channels[0]? = some (defaultChannel 0) ∧ (defaultChannel 0).role = .board ∧
    (-7 : Int) < (defaultChannel 0).release - s.settings.releaseHyst ∧
    ¬ ((-6 : Int) < (defaultChannel 0).release - s.settings.releaseHyst) ∧ s.ctl.regime = .soaking ∧
    s.ctl.pendingForced = false ∧ s.thermal.readiness = false ∧ s.roleChannel .board = some 0 ∧ s.reading 0 = some (-7) ∧
    s.roleChannel .panel = some 2 ∧ s.reading 2 = some 8 ∧ s.ctl.soak = .running 1 ∧ running.roleChannel .board = none ∧
    running.roleChannel .memory = none ∧ (inRegime .halted false).ctl.regime = .halted := by decide

theorem test_meets_RegimeTimers :
    ({ inRegime .heating false with ctl := { (inRegime .heating false).ctl with heatLimit := .running 30 } } : State).ctl.heatLimit
      = .running 30 ∧
    (inRegime .soaking false).ctl.regime = .soaking ∧ (inRegime .restarting true).ctl.regime = .restarting ∧
    (inRegime .offCycle false).ctl.regime = .offCycle ∧ (withWindows [evRing]).ring .eventRing = some evRing ∧
    running.ring .commandRing = none ∧ running.ring .eventRing = none ∧
    (inRegime .releasing true).inMemory (access .headerWrite true 0x10000 []) = true ∧
    ({ running with headers := [.command, .event] } : State).headers = Ring.command :: [Ring.event] ∧
    (withWindows [cmdRing]).ring .commandRing = some cmdRing ∧ (withWindows [cmdRing]).arbiter.mailbox = none ∧
    (withWindows [cmdRing]).port = none ∧ running.repair.reservation ≠ some (groupOf cmdRing.base) := by decide

/-- The scrubber of a board in a regime, memory valid. -/
def scrubbing (r : Regime) (a : ScrubActivity) (timer : Timer) : State :=
  { inRegime r true with scrub := { running.scrub with
      activity := a, timer := timer, fixList := [{ offset := 0x48, loc := .home }] } }

theorem test_meets_RegimeTimers_scrubber :
    let f : FixEntry := { offset := 0x48, loc := .home }
    let s := scrubbing .releasing .paused .stopped
    let n := scrubbing .restarting .portWait (.running 1000)
    s.ctl.memValid = true ∧ s.scrub.fixList = [] ++ f :: [] ∧ s.policyAt 0x48 = .correct ∧
    s.repair.reservation ≠ some (groupOf 0x48) ∧ Regime.powered .running = true ∧ Regime.powered .offCycle = false ∧
    (changeRegime .running s).scrub.activity = .portWait ∧
    (changeRegime .running (scrubbing .releasing .sweepRead .stopped)).scrub.timer = .running 1000 ∧
    (changeRegime .running (scrubbing .releasing .sweepRead .stopped)).scrub.activity = .sweepRead ∧
    (changeRegime .releasing n).scrub = { n.scrub with activity := .paused, timer := .stopped } ∧
    (changeRegime .releasing (scrubbing .restarting .fixPair (.running 5))).scrub.activity = .fixPair ∧
    (changeRegime .offCycle n).scrub.fixList = [] ∧ n.scrub.activity ≠ .paused := by decide +kernel

/-- A running board with one restart request under way. -/
def requesting (cold : Bool) : State :=
  { running with requests := [{ cause := .command, cold := cold, chord := none }] }

theorem test_meets_RestartRequests :
    (requesting false).requests[0]? = some { cause := .command, cold := false, chord := none } ∧
    (requesting false).ctl.power = true ∧ (requesting false).restartKind false = .warm ∧
    (requesting true).restartKind true = .cold ∧
    ({ requesting true with restarts := { running.restarts with coldCount := 2 } } : State).restartKind true = .halt ∧
    ({ requesting false with restarts := { running.restarts with escalation := [0, 0] } } : State).restartKind false =
      .cold ∧
    (requesting false).requests[1]? = none ∧ (inRegime .heating false).ctl.regime ≠ .running := by decide

/-- A WARM restart with a front transaction not granted, a DIAG access granted, a CHECK-RANGE waiting and a KEY notice. -/
theorem test_meets_RestartRequests_leaving :
    let x : FrontTxn := { kind := .read, offset := 0x40, mask := 0xFF, words := [], phase := .requested, classification := none }
    let d : Access := { access .diagRead false 0x80 [] with requester := .mailbox }
    let s : State := { requesting false with
      front := some x, port := some d, arbiter := { Arbiter.empty with front := asking .front 64, prep := asking .prep 128 }
      prep := { Prep.initial with activity := .checking }
      queue := [{ session := 0, body := .key .press 1 1 none none }]
      scrub := { running.scrub with activity := .idle, timer := .running 7 } }
    let t := after (exec (.restartRequest 0) s)
    x.phase ≠ .access ∧ s.prep.activity = .checking ∧ s.scrub.timer ≠ .stopped ∧ s.ctl.memValid = true ∧
    t.front = none ∧ t.arbiter = Arbiter.empty ∧ t.port = some { d with discarded := true } ∧ t.prep = Prep.initial ∧
    t.missed = 1 ∧ t.scrub = s.scrub := by decide +kernel

/-- A TRIP-WATCH restart: entry 0 sent it and is suppressed, entry 7 is SESSION and is emptied, its hit flag with it. -/
theorem test_meets_RestartRequests_watch :
    let s : State := { running with
      requests := [{ cause := .tripWatch, cold := false, chord := none }]
      watch := { running.watch with
        entries := [some (watchOf .trip none)] ++ List.replicate 6 none ++
          [some { watchOf .trip none with persistence := .session }]
        hits := 0x81, senders := [0, 7] } }
    let t := after (exec (.restartRequest 0) s)
    t.watch.entries[0]? = some (some { watchOf .trip none with suppressed := true }) ∧ t.watch.entries[7]? = some none ∧
    t.watch.hits = 0x01 := by decide +kernel

theorem test_meets_ResetAndHold :
    let tag : ChordTag := { chord := 3, regime := .halted }
    let s : State := { inRegime .halted false with
      holdReleases := [tag], outcomes := [{ tag := tag, result := .taken }]
      resetInput := { raw := true, filtered := false, filtering := true } }
    s.resetInput.filtering = true ∧ s.resetInput.raw = true ∧ running.resetInput.filtering = false ∧
    s.holdReleases[0]? = some tag ∧ s.ctl.regime = .halted ∧ s.outcomes[0]? = some { tag := tag, result := .taken } ∧
    3 < s.keypad.chords.length ∧ running.holdReleases[0]? = none ∧ running.outcomes[0]? = none := by decide

theorem test_meets_TimersAndTicks :
    (dogIn .booting (.bootLimit 120000) false).dog.timer = .bootLimit 120000 ∧
    (dogIn .armed (.period 1000) false).dog.timer = .period 1000 ∧
    (dogIn .warned (.warnWindow 500) false).dog.timer = .warnWindow 500 ∧ running.dog.timer = .stopped ∧
    State.reset.lamp.pattern = .slow ∧ State.reset.clock.begun = false ∧
    lampPattern .running false false false = .off ∧ lampPattern .running false true false = .steady ∧
    lampPattern running.ctl.regime running.lamp.error running.ctl.sessionDoubtful running.loader.defaultsFlag ≠
      running.lamp.pattern ∧
    (detect { offset := 0, loc := .home, syndrome := 3, source := .scrub, severity := .uncorrectable } running).lamp.error =
      true ∧
    (after (exec .uptimeTick { running with clock := { running.clock with uptime := 0xFFFFFFFF } })).clock.uptime =
      0xFFFFFFFF := by decide

/-- A running board with one position in a state, its countdown given. -/
def keyed (p : Nat) (st : KeyState) (countdown : Nat) : State :=
  { running with keypad := { running.keypad with
      map := (List.range 64).map defaultKey
      positions := running.keypad.positions.set p { KeyPosition.initial with state := st, countdown := countdown }
      scanTimer := .running 8 } }

theorem test_meets_ScanSamples :
    (keyed 5 .pressing 1).keypad.scanTimer = .running 8 ∧ running.keypad.scanTimer = .stopped ∧
    ((keyed 5 .pressing 1).key 5).state = .pressing ∧ ((keyed 5 .pressing 1).key 5).countdown ≤ 1 ∧
    1 < ((keyed 5 .pressing 2).key 5).countdown ∧ (keyed 5 .pressing 1).isGhost 5 = false ∧
    (keyed 5 .pressing 1).reportable 5 = false ∧ (keyed 1 .pressing 1).reportable 1 = true ∧
    (0x20#64).getLsbD 5 = true ∧ (0x20#64).getLsbD 4 = false ∧
    59992 + running.settings.scanPeriod = running.settings.stuckTime * 1000 ∧
    5 < running.keypad.positions.length ∧
    ((keyed 5 .blocked 0).key 5).state = .blocked ∧ (keyed 5 .blocked 0).isGhost 5 = false ∧
    (keyed 1 .blocked 0).reportable 1 = true ∧ (keyed 1 .blocked 0).isGhost 1 = false ∧
    (keyed 1 .blocked 0).ctl.regime = .running ∧ (keyed 5 .blocked 0).reportable 5 = false := by decide

theorem test_meets_Chords :
    let c : ChordRecord := { ChordRecord.initial with
      chord := { members := [0, 1], hold := 500, action := .warmRestart, enabled := true }, counting := true, counter := 492 }
    let s : State := { running with keypad := { running.keypad with
      positions := (running.keypad.positions.set 0 { KeyPosition.initial with state := .down }).set 1
        { KeyPosition.initial with state := .releasing .down }
      chords := [c] ++ List.replicate 3 ChordRecord.initial } }
    s.chordHolds c = true ∧ c.counting = true ∧ c.chord.hold ≤ c.counter + s.settings.scanPeriod ∧
    0 < s.keypad.chords.length ∧ s.chordHolds ChordRecord.initial = false := by decide

theorem test_meets_SetKey :
    let s := handed .setKey [0x80, 0, 63, 255, 1, 1, 0, 0] running
    s.handed .setKey ∧ s.arg 2 < 64 ∧ s.arg 3 ≤ 255 ∧ s.arg 4 ≤ 1 ∧ s.arg 5 ≤ 1 ∧
    ¬ ((handed .setKey [0x80, 0, 64, 0, 0, 0, 0, 0] running).arg 2 < 64) := by
  refine ⟨⟨rfl, rfl⟩, ?_⟩
  decide

theorem test_meets_FetchAndCompletion :
    let s := withWindows [cmdRing]
    s.inMemory (access .fetch true 0x10040 []) = true ∧ CommandCode.ofWord 0x01 = some .status ∧
    CommandCode.ofWord 0x02 = none ∧ s.inMemory (access .doneWrite false 0x10008 []) = true ∧
    (0 + 1) % (2 * s.settings.cmdRingSlots) ≠ s.engine.submit ∧ (31 + 1) % (2 * s.settings.cmdRingSlots) = s.engine.submit ∧
    commandOf .status = some .status ∧ running.engine.state ≠ .executing ∧
    (statusResults running).length ≤ 48 ∧ s.ring .commandRing = some cmdRing ∧
    engineAccess { s with engine := { s.engine with state := .fetching, done := 31 } } =
      some { access .fetch true (0x10000 + 1024) [] with requester := .mailbox } ∧
    engineAccess { s with engine := { s.engine with state := .completing, work := .doneWrite, done := 31 } } =
      some { access .doneWrite false 0x10008 [made 0] with requester := .mailbox } ∧
    (engineAccess { s with engine := { s.engine with state := .completing, work := .completion [1] } }).isSome = true := by
  decide

theorem test_meets_WaitsAndDiagAccess :
    let s : State := { running with engine := { running.engine with state := .waiting, waitTimer := .running 100 } }
    s.engine.state = .waiting ∧ s.engine.waitTimer = .running 100 ∧ s.engine.work ≠ .checkRange ∧
    running.engine.state ≠ .waiting ∧ s.inMemory (access .diagRead false 0x3FF7F8 []) = true ∧
    (access .diagRead false 0x48 []).line = false ∧ s.inMemory (access .diagWrite false 0x48 [made 0]) = true := by
  decide

/-- A notice of kind KEY, and one of another kind. -/
def keyed1 : Notice := { session := 0, body := .key .press 1 1 none none }
def warned1 : Notice := { session := 0, body := .warning 1 10 10 0 }

theorem test_meets_Postings :
    let s : State := { withWindows [evRing] with
      events := { state := .armed, produce := 63, consume := 0 }, queue := [warned1] }
    s.arbiter.mailbox = none ∧ s.port = none ∧ s.headers = [] ∧ s.engine.state = .idle ∧ s.posting = none ∧
    s.ctl.regime = .running ∧ s.events.state = .armed ∧ s.queue = warned1 :: [] ∧ s.ring .eventRing = some evRing ∧
    indexDistance s.settings.eventRingEntries s.events.consume s.events.produce < s.settings.eventRingEntries ∧
    s.repair.reservation ≠ some (groupOf 0x20000) ∧ s.inMemory (access .produceWrite false 0x20000 []) = true := by decide

theorem test_meets_Postings_alternation :
    let p : Posting := { step := 4, missed := 0, words := [] }
    let s : State := { withWindows [cmdRing, evRing] with
      posting := some p, lastUser := some .engine, engine := { running.engine with state := .fetching } }
    let res (g : Nat) : State := { s with repair := { s.repair with reservation := some g } }
    s.arbiter.mailbox = none ∧ s.port = none ∧ s.headers = [] ∧ (postingAccess s p).isSome = true ∧
    (engineAccess s).isSome = true ∧ (mailboxPlace s).arbiter.mailbox.map (·.access.purpose) = some .produceWrite ∧
    (mailboxPlace { s with lastUser := none }).arbiter.mailbox.map (·.access.purpose) = some .fetch ∧
    (res 0x10040).repair.reservation = some (groupOf 0x10040) ∧ (res 0x20000).repair.reservation = some (groupOf 0x20000) ∧
    (mailboxPlace s).arbiter.pick.map (·.1) = some .mailbox ∧ s.ctl.power = true := by decide

theorem test_meets_Postings_single :
    let s : State := { withWindows [cmdRing] with engine := { running.engine with state := .fetching } }
    let r : State := { s with repair := { running.repair with reservation := some 0x10000 }, headers := [.command] }
    s.ring .eventRing = none ∧ s.posting = none ∧ (engineAccess s).isSome = true ∧
    (mailboxPlace s).arbiter.mailbox.map (·.access.purpose) = some .fetch ∧
    (mailboxPlace { s with arbiter := { Arbiter.empty with mailbox := asking .mailbox 64 } }).arbiter.mailbox =
      asking .mailbox 64 ∧
    r.ring .commandRing = some cmdRing ∧ r.repair.reservation = some (groupOf cmdRing.base) ∧
    (mailboxPlace r).arbiter.mailbox.map (·.access.purpose) = some .fetch := by decide +kernel

theorem test_meets_NoticeQueue :
    let full : State := { running with queue := List.replicate 31 warned1 ++ [keyed1] }
    32 ≤ full.queue.length ∧ full.queue = List.replicate 31 warned1 ++ keyed1 :: [] ∧ keyed1.body.isKey = true ∧
    warned1.body.isKey = false ∧ full.posting = none ∧ running.queue.length < 32 ∧
    (∀ y ∈ List.replicate 31 warned1, y.body.isKey = false) ∧ (inRegime .halted false).ctl.regime ≠ .running := by decide

theorem test_meets_Attn :
    let p : Posting := { step := 4, missed := 0, words := [] }
    let s : State := { withWindows [evRing] with posting := some p }
    s.ctl.regime = .running ∧ s.posting = some p ∧ s.events.produce = s.events.consume ∧
    s.inMemory (access .produceWrite false 0x20000 []) = true ∧ (access .produceWrite false 0x20000 []).discarded = false ∧
    s.events.state ≠ .faulted ∧ s.events.produce < 2 * s.settings.eventRingEntries := by decide

theorem test_meets_SetWindow :
    let s := handed .setWindow [0x10, 0, 15, 0x1000, 4096, 2, 1, 1] (withWindows [plain 0 4096, cmdRing])
    s.handed .setWindow ∧ s.arg 2 < 16 ∧ (∃ k, s.arg 4 = 2 ^ k) ∧ 4096 ≤ s.arg 4 ∧ s.arg 4 ≤ s.usable ∧
    s.arg 3 % s.arg 4 = 0 ∧ s.arg 3 + s.arg 4 ≤ s.usable ∧ s.arg 5 ≤ 2 ∧ s.arg 6 ≤ 1 ∧ s.arg 7 ≤ 1 ∧
    s.windows[15]? = some none ∧ s.windows[0]? = some (some (plain 0 4096)) ∧ s.windows[1]? = some (some cmdRing) ∧
    16 ≤ (handed .setWindow [0x10, 0, 16] running).arg 2 ∧ ¬ (s.arg 3 < 0 + 4096) :=
  ⟨⟨rfl, rfl⟩, by decide, ⟨12, by decide⟩, by decide⟩

theorem test_meets_ClearWindow :
    let s := handed .clearWindow [0x11, 0, 0] (withWindows [plain 0 4096])
    s.handed .clearWindow ∧ s.arg 2 < 16 ∧ s.windows[0]? = some (some (plain 0 4096)) ∧
    (plain 0 4096).shielded = false ∧ (plain 0 4096).ringRole = .none ∧ legalWindows s.usable s.windows ∧
    (handed .clearWindow [0x11, 0, 15] s).windows[15]? = some none := by
  refine ⟨⟨rfl, rfl⟩, by decide, by decide, by decide, by decide, ⟨by decide, ?_, ?_⟩, by decide⟩
  · intro w h
    have : w = plain 0 4096 := by
      simpa [handed, withWindows, List.mem_replicate] using h
    subst this
    exact ⟨⟨12, by decide⟩, by decide, by decide, by decide, by decide⟩
  · intro i j v w hij _ h
    exfalso
    match j, hij with
    | j + 1, _ =>
      have h : (List.replicate 15 (none : Option Window))[j]? = some (some w) := h
      have h := List.mem_of_getElem? h
      simp at h

theorem test_meets_ReadWindow :
    (handed .readWindow [0x12, 0, 15] running).handed .readWindow ∧ (handed .readWindow [0x12, 0, 15] running).arg 2 < 16 ∧
    16 ≤ (handed .readWindow [0x12, 0, 16] running).arg 2 ∧
    (withWindows [cmdRing]).windows.getD 0 none = some cmdRing ∧ running.windows.getD 15 none = none :=
  ⟨⟨rfl, rfl⟩, by decide⟩

theorem test_meets_ReportingCommands :
    (handed .status [] running).handed .status ∧ (handed .readThermal [] running).handed .readThermal ∧
    (handed .readRepairs [0, 0, 31] running).handed .readRepairs ∧ (handed .readWatch [0, 0, 7] running).handed .readWatch ∧
    (handed .readRestart [0, 0, 7] running).handed .readRestart ∧ (handed .readTrace [0, 0, 15] running).handed .readTrace ∧
    (handed .readKeys [0, 0, 2] running).handed .readKeys ∧ (handed .takeError [] running).handed .takeError ∧
    (handed .takeWatchHits [] running).handed .takeWatchHits :=
  ⟨⟨rfl, rfl⟩, ⟨rfl, rfl⟩, ⟨rfl, rfl⟩, ⟨rfl, rfl⟩, ⟨rfl, rfl⟩, ⟨rfl, rfl⟩, ⟨rfl, rfl⟩, ⟨rfl, rfl⟩, ⟨rfl, rfl⟩⟩

theorem test_meets_ReportingCommands_arguments :
    (handed .readTrace [0, 0, 15] running).arg 2 < 16 ∧ 16 ≤ (handed .readTrace [0, 0, 16] running).arg 2 ∧
    (handed .readWatch [0, 0, 7] running).arg 2 < 8 ∧ 8 ≤ (handed .readWatch [0, 0, 8] running).arg 2 ∧
    (handed .readRestart [0, 0, 7] running).arg 2 < 8 ∧ 8 ≤ (handed .readRestart [0, 0, 8] running).arg 2 ∧
    (handed .readRepairs [0, 0, 31] running).arg 2 < 32 ∧ 32 ≤ (handed .readRepairs [0, 0, 32] running).arg 2 ∧
    (handed .readKeys [0, 0, 0] running).arg 2 = 0 ∧ (handed .readKeys [0, 0, 1] running).arg 2 = 1 ∧
    (handed .readKeys [0, 0, 2] running).arg 2 = 2 ∧ 2 < (handed .readKeys [0, 0, 3] running).arg 2 ∧
    running.channelPairs.length = 4 ∧ running.log.entries = [] ∧
    ({ running.log with entries := [entry 0x48 .corrected true] } : ErrorLog).entries = entry 0x48 .corrected true :: [] :=
  by decide

theorem test_meets_WatchTableCommands :
    let s := handed .setWatch [0x60, 0, 7, 0x3FF7F8, 0x01010F01010008, 0, 0, 0] running
    s.handed .setWatch ∧ s.watch.lock = false ∧ s.arg 2 < 8 ∧ s.argByte 4 0 ∈ [1, 2, 4, 8, 16, 32, 64] ∧
    s.arg 3 % s.argByte 4 0 = 0 ∧ s.arg 3 + s.argByte 4 0 ≤ s.usable ∧ s.argByte 4 1 ≤ 2 ∧ s.argByte 4 2 ≤ 1 ∧
    s.argByte 4 3 ≤ 3 ∧ s.argByte 4 4 ≤ 15 ∧ s.argByte 4 5 ≤ 1 ∧ s.argByte 4 6 ≤ 1 ∧
    (s.argByte 4 2 = 1 → s.argByte 4 0 ≤ 8 ∧ s.argByte 4 1 = 0) ∧
    ({ s with watch := { s.watch with lock := true } } : State).watch.lock = true ∧
    8 ≤ (handed .clearWatch [0x61, 0, 8] running).arg 2 :=
  ⟨⟨rfl, rfl⟩, by decide⟩

theorem test_meets_DiagCommands :
    let s := handed .diagWrite [0x22, 0, 0x3FF7F8, 1, 0xFF] running
    s.handed .diagWrite ∧ s.arg 2 % 8 = 0 ∧ s.arg 2 < s.usable ∧ s.arg 4 ≤ 0xFF ∧ s.windowAt (s.arg 2) = none ∧
    s.repair.reservation ≠ some (groupOf (s.arg 2)) ∧ s.usable ≤ (handed .diagRead [0x21, 0, 0x3FF800] running).arg 2 ∧
    (withWindows [{ cmdRing with shielded := true }]).windowAt 0x10FF8 = some (0, { cmdRing with shielded := true }) ∧
    (withWindows [cmdRing]).windowAt 0x10000 = some (0, cmdRing) :=
  ⟨⟨rfl, rfl⟩, by decide⟩

theorem test_meets_RepairAndCheckCommands :
    let s := handed .repairGroup [0x30, 0, 0x3FF7C0] running
    let c := handed .checkRange [0x50, 0, 0x2FF800, 1048576] running
    s.handed .repairGroup ∧ c.handed .checkRange ∧ s.arg 2 % 64 = 0 ∧ s.arg 2 < s.usable ∧ s.ctl.power = true ∧
    s.repair.requests.length < 4 ∧ s.repair.migration = none ∧ s.repair.free.head? = some 0 ∧
    ({ s.repair with spent := List.range 32 } : Repair).free = [] ∧
    c.arg 2 % 64 = 0 ∧ c.arg 3 % 64 = 0 ∧ c.arg 3 ≤ 1048576 ∧ c.arg 2 + c.arg 3 ≤ c.usable ∧
    c.usable < c.arg 2 + c.arg 3 + 64 :=
  ⟨⟨rfl, rfl⟩, ⟨rfl, rfl⟩, by decide⟩

/-- A REPAIR-GROUP of group 0 waiting for room beside a list. -/
def wanting (list : List Nat) : State :=
  { running with
    repair := { running.repair with requests := list }
    engine := { running.engine with state := .waiting, work := .repairGroup 0 false } }

theorem test_meets_RepairAndCheckCommands_room :
    (wanting [64, 128, 192]).engine.work = .repairGroup 0 false ∧ (wanting []).engine.state = .waiting ∧
    (wanting [64, 128, 192]).repair.requests.length < 4 ∧ 4 ≤ (wanting [64, 128, 192, 256]).repair.requests.length ∧
    (reoffer (wanting [64, 128, 192])).repair.requests = [64, 128, 192, 0] ∧
    (reoffer (wanting [64, 0])).repair.requests = [64, 0] ∧ running.engine.state ≠ .waiting ∧
    (nextMigration { wanting [64, 128, 192, 256] with
      repair := { running.repair with requests := [64, 128, 192, 256], spent := List.range 32 } }).repair.refused = 5 := by
  decide +kernel

theorem test_meets_ArmAndRestart :
    let s := handed .armWatchdog [0x70, 0, 10, 65535, 5] (dogIn .disarmed .stopped false)
    s.handed .armWatchdog ∧ s.watch.lock = false ∧ 10 ≤ s.arg 2 ∧ s.arg 3 ≤ 65535 ∧ s.arg 4 ≤ s.arg 2 / 2 ∧
    s.dog.state = .disarmed ∧ s.dog.requestOut = false ∧
    ¬ ((handed .armWatchdog [0x70, 0, 10, 10, 6] running).arg 4 ≤ 10 / 2) ∧
    (handed .restart [0x72, 0, 1] running).arg 2 = 1 ∧ 1 < (handed .restart [0x72, 0, 2] running).arg 2 :=
  ⟨⟨rfl, rfl⟩, by decide⟩

theorem test_meets_Disarm :
    let s := handed .disarmWatchdog [0x71] (dogIn .warned (.warnWindow 500) false)
    s.handed .disarmWatchdog ∧ s.watch.lock = false ∧ s.settings.noDisarm = false ∧ s.dog.state = .warned ∧
    s.dog.requestOut = false ∧ (handed .disarmWatchdog [0x71] (dogIn .booting .stopped false)).dog.state = .booting :=
  ⟨⟨rfl, rfl⟩, by decide⟩

/-- A step of the reset state with a command in front, for the statements about what every step keeps. -/
theorem test_meets_Keeps :
    (∃ t, step { State.reset with pending := [.configReadTimeout 0] } = .next t) ∧ State.reset.regimeLaw ∧
    State.reset.powerOffLaw ∧ Memory.wf State.reset.mem = true :=
  ⟨⟨_, rfl⟩, by simp [State.regimeLaw, State.reset], by simp [State.powerOffLaw, State.reset], rfl⟩

/-- The laws of the keypad and of the history hold of a board with an announced key, and of one at COLD_LIMIT with a full
escalation record; at COLD_LIMIT one count more would break the law. -/
theorem test_meets_KeepsRecordsAndSession :
    let k : KeyPosition := { KeyPosition.initial with state := .down, announced := true }
    let s : State := { running with keypad := { running.keypad with positions := [k], map := (builtIn 0).keys } }
    let full : State := { running with restarts := { running.restarts with coldCount := 2, escalation := [1, 2] } }
    s.keypadLaw ∧ s.reportable 0 = true ∧ full.historyLaw ∧ full.settings.coldLimit = 2 ∧
    full.settings.escalateCount = 3 ∧ State.reset.historyLaw ∧ (∃ t, step full = .next t) := by
  refine ⟨?_, by decide, ?_, rfl, rfl, ?_, ⟨_, rfl⟩⟩
  · intro p k hk ha
    cases p with
    | zero => cases hk; exact ⟨rfl, Or.inl rfl, by decide⟩
    | succ n => simp at hk
  · exact ⟨by decide, by decide, by decide, by decide, fun h => absurd rfl h, by decide, by simp [running, State.reset]⟩
  · exact ⟨by decide, by decide, by decide, by decide, fun _ => ⟨rfl, rfl, rfl, rfl⟩, by decide, by simp [State.reset]⟩

end Sys2Proof.Tests
end

/-! SUPPORT. The memory path (chapter 1): a refusal out of range (R4), and the commands CLEAR-WINDOW and READ-WINDOW
(R19, R20). -/

namespace Sys2Proof.Machine

/-! ## A transaction out of range (R4) -/

theorem exec_read (o : BitVec 32) (mask : Byte) (s : State) :
    exec (.read o mask) s = .next (frontAccept .read o.toNat mask [] s) := rfl

theorem exec_lineRead (o : BitVec 32) (s : State) :
    exec (.lineRead o) s = .next (frontAccept .lineRead o.toNat 0xFF [] s) := rfl

theorem exec_write (o : BitVec 32) (mask : Byte) (d : Word) (s : State) :
    exec (.write o mask d) s = .next (frontAccept .write o.toNat mask [d] s) := rfl

theorem exec_lineWrite (o : BitVec 32) (d : BitVec 512) (s : State) :
    exec (.lineWrite o d) s = .next (frontAccept .lineWrite o.toNat 0xFF (lineWords d) s) := rfl

theorem exec_refusedWriteReport (s : State) :
    exec .refusedWriteReport s = .next (takeReport ReportKind.refusedReport traceReport s) := rfl

/-- A response at an empty front port changes the response alone. -/
theorem respond_of_empty (r : Response) (s : State) (h : s.front = none) :
    respond r s = { s with frontResponse := some r } := by
  simp [respond, h]

/-- A refused read gives no report (R4). -/
theorem refuseTxn_of_read (t : FrontTxn) (reason : RefuseReason) (window : Option Nat) (s : State)
    (h : t.kind.writes = false) : refuseTxn t reason window s = respond (.refused reason) s := by
  simp [refuseTxn, h]

/-- A refused write is reported to the restart supervisor alone (R4, R16). -/
theorem refuseTxn_of_write (t : FrontTxn) (reason : RefuseReason) (window : Option Nat) (s : State)
    (h : t.kind.writes = true) :
    refuseTxn t reason window s =
      reportWatch (t.report (.refused reason) [] window) (respond (.refused reason) s) := by
  simp [refuseTxn, h]

/-- Step 1 comes before the reservation and the classification: out of range, neither is looked at (R3, R4). -/
theorem frontAccept_outOfRange (kind : TxnKind) (o : Nat) (mask : Byte) (words : List Word) (s : State)
    (hrun : s.ctl.regime = .running) (hempty : s.front = none)
    (hout : s.usable ≤ if kind.isLine then groupOf o else wordOffset o) :
    frontAccept kind o mask words s =
      refuseTxn { kind := kind, offset := if kind.isLine then groupOf o else wordOffset o, mask := mask, words := words,
                  phase := .reserveWait, classification := none } .outOfRange none s := by
  unfold frontAccept
  rw [if_neg (by simp [hrun, hempty])]
  exact if_pos hout

/-- A READ or LINE-READ out of range is answered, and nothing else changes (R4). -/
theorem frontAccept_read_outOfRange (kind : TxnKind) (o : Nat) (mask : Byte) (words : List Word) (s : State)
    (hkind : kind.writes = false) (hrun : s.ctl.regime = .running) (hempty : s.front = none)
    (hout : s.usable ≤ if kind.isLine then groupOf o else wordOffset o) :
    frontAccept kind o mask words s = { s with frontResponse := some (.refused .outOfRange) } := by
  rw [frontAccept_outOfRange kind o mask words s hrun hempty hout, refuseTxn_of_read _ _ _ _ hkind,
    respond_of_empty _ _ hempty]

/-- A WRITE or LINE-WRITE out of range is answered and reported with no window (R4, R16). -/
theorem frontAccept_write_outOfRange (kind : TxnKind) (o : Nat) (mask : Byte) (words : List Word) (s : State)
    (hkind : kind.writes = true) (hrun : s.ctl.regime = .running) (hempty : s.front = none)
    (hout : s.usable ≤ if kind.isLine then groupOf o else wordOffset o) :
    frontAccept kind o mask words s = { s with
      frontResponse := some (.refused .outOfRange)
      watchReports := s.watchReports ++
        [{ kind := .refused .outOfRange, line := kind.isLine,
           offset := if kind.isLine then groupOf o else wordOffset o, mask := mask, words := [], window := none }] } := by
  rw [frontAccept_outOfRange kind o mask words s hrun hempty hout, refuseTxn_of_write _ _ _ _ hkind,
    respond_of_empty _ _ hempty]
  rfl

/-- No access of a watch entry admits the report of a refused write (R16, R120). -/
theorem admits_refused (a : WatchAccess) (reason : RefuseReason) : a.admits (.refused reason) = false := by
  cases a <;> rfl

theorem matched_refused (e : WatchEntry) (r : FrontReport) (reason : RefuseReason) (h : r.kind = .refused reason) :
    e.matched r = false := by
  simp [WatchEntry.matched, h, admits_refused]

/-- In RUNNING the oldest report, of the kind the event names, is taken and acted on (R119). -/
theorem takeReport_of_running (kind : ReportKind → Bool) (act : FrontReport → State → State) (s : State)
    (r : FrontReport) (rest : List FrontReport) (hrun : s.ctl.regime = .running) (hqueue : s.watchReports = r :: rest)
    (hkind : kind r.kind = true) : takeReport kind act s = act r { s with watchReports := rest } := by
  simp [takeReport, hqueue, hkind, hrun]

/-- The trace entry of a refused write gives the reason as its outcome (R151). -/
theorem traceReport_refused (r : FrontReport) (reason : RefuseReason) (s : State) (h : r.kind = .refused reason) :
    traceReport r s = { s with trace := s.trace.drop (s.trace.length - 15) ++
      [{ offset := r.offset, count := if r.line then 64 else maskCount r.mask, outcome := .refused reason,
         window := r.window }] } := by
  simp [traceReport, FrontReport.count, ReportKind.outcome, h]

/-- Every memory size is a whole number of 2048-byte blocks, so the 2048 bytes of the slots leave whole groups. -/
theorem memSizeOfCode_mod (code : Nat) : memSizeOfCode code % 2048 = 0 := by
  unfold memSizeOfCode mebibyte
  split <;> rfl

theorem usable_mod_group (code : Nat) : (memSizeOfCode code - 2048) % 64 = 0 := by
  have := memSizeOfCode_mod code
  omega

/-- A group that begins below a limit of whole groups lies below it whole. -/
theorem groupOf_lt_iff (o limit : Nat) (h : limit % 64 = 0) : groupOf o < limit ↔ groupOf o + 64 ≤ limit := by
  unfold groupOf
  omega

/-- Settles O10: the range check is the first step, and what it refuses is only answered and, if a write, reported. -/
theorem frontOutOfRange : Obligations.FrontOutOfRange := by
  refine ⟨fun s hrun hempty => ⟨?read, ?lineRead, ?write, ?lineWrite⟩, ?unmatched, ?traced, ?groups⟩
  case read =>
    intro o mask hout
    rw [exec_read, frontAccept_read_outOfRange .read _ _ _ s rfl hrun hempty hout]
  case lineRead =>
    intro o hout
    rw [exec_lineRead, frontAccept_read_outOfRange .lineRead _ _ _ s rfl hrun hempty hout]
  case write =>
    intro o mask d hout
    rw [exec_write, frontAccept_write_outOfRange .write _ _ _ s rfl hrun hempty hout]
    rfl
  case lineWrite =>
    intro o d hout
    rw [exec_lineWrite, frontAccept_write_outOfRange .lineWrite _ _ _ s rfl hrun hempty hout]
    rfl
  case unmatched => exact fun e r h => matched_refused e r _ h
  case traced =>
    intro s r rest hrun hqueue hkind
    rw [exec_refusedWriteReport,
      takeReport_of_running _ _ s r rest hrun hqueue (by simp [hkind, ReportKind.refusedReport]),
      traceReport_refused r _ _ hkind]
  case groups => exact fun code o => ⟨usable_mod_group code, groupOf_lt_iff o _ (usable_mod_group code)⟩

/-! ## The window table -/

/-- Entry `i` of the table, where the table has it. -/
theorem window_of_getElem? (s : State) (i : Nat) (e : Option Window) (h : s.windows[i]? = some e) : s.window i = e := by
  simp [State.window, h]

/-- An offset is in no window exactly when it is outside the range of every one (R6). -/
theorem findWindow_eq_none_iff (ws : List (Option Window)) (k o : Nat) :
    findWindow ws k o = none ↔ ∀ w, some w ∈ ws → ¬ (w.base ≤ o ∧ o < w.base + w.size) := by
  induction ws generalizing k with
  | nil => simp [findWindow]
  | cons e ws ih =>
    cases e with
    | none => simp [findWindow, ih]
    | some v =>
      simp only [findWindow, List.mem_cons, Option.some.injEq, forall_eq_or_imp]
      by_cases hv : v.base ≤ o ∧ o < v.base + v.size
      · simp [hv]
      · rw [if_neg hv, ih]
        exact (and_iff_right hv).symm

/-- The classification of an offset in no window (R6). -/
theorem classify_of_windowAt_none (s : State) (o : Nat) (h : s.windowAt o = none) :
    s.classify o = { window := none, writePolicy := .allow, checkPolicy := .correct, ringRole := .none,
                     poisonRestart := false } := by
  simp [State.classify, h]

theorem Window.apart_symm {v w : Window} (h : v.apart w) : w.apart v := Or.symm h

/-- Any two entries of a legal table are apart, in whichever order they stand (R17). -/
theorem legalWindows.apart {usable : Nat} {ws : List (Option Window)} (h : legalWindows usable ws) {i j : Nat}
    {v w : Window} (hij : i ≠ j) (hv : ws[i]? = some (some v)) (hw : ws[j]? = some (some w)) : v.apart w := by
  obtain ⟨-, -, hpairs⟩ := h
  obtain hlt | hgt := Nat.lt_or_gt_of_ne hij
  · exact (hpairs i j v w hlt hv hw).1
  · exact Window.apart_symm (hpairs j i w v hgt hw hv).1

/-- A window that is left after entry `i` is emptied stood at another entry. -/
theorem getElem?_of_mem_set_none {ws : List (Option Window)} {i : Nat} {v : Window} (h : some v ∈ ws.set i none) :
    ∃ j, j ≠ i ∧ ws[j]? = some (some v) := by
  obtain ⟨j, hj⟩ := List.mem_iff_getElem?.mp h
  have hne : j ≠ i := by
    rintro rfl
    simp [List.getElem?_set_self'] at hj
  exact ⟨j, hne, by rwa [List.getElem?_set_ne hne.symm] at hj⟩

/-- With its window removed from a legal table, an offset is in no window (R19). -/
theorem findWindow_set_none {usable : Nat} {ws : List (Option Window)} (h : legalWindows usable ws) {i : Nat}
    {w : Window} (hw : ws[i]? = some (some w)) (k o : Nat) (hlo : w.base ≤ o) (hhi : o < w.base + w.size) :
    findWindow (ws.set i none) k o = none := by
  rw [findWindow_eq_none_iff]
  rintro v hv ⟨hvlo, hvhi⟩
  obtain ⟨j, hji, hvj⟩ := getElem?_of_mem_set_none hv
  have hapart : v.apart w := h.apart hji hvj hw
  unfold Window.apart at hapart
  omega

theorem set_none_of_empty {ws : List (Option Window)} {i : Nat} (h : ws[i]? = some none) : ws.set i none = ws := by
  obtain ⟨hi, hentry⟩ := List.getElem?_eq_some_iff.mp h
  rw [← hentry, List.set_getElem_self]

/-! ## The front port's classification at the end of a step (R21) -/

/-- A grant moves the front port's transaction on, and keeps its classification. -/
theorem granted_front_classification (r : Requester) (a : Access) (s : State) :
    (granted r a s).front.map (·.classification) = s.front.map (·.classification) := by
  cases r with
  | front => simp [granted, Function.comp_def]
  | scrub => simp only [granted]; split <;> rfl
  | repair | mailbox | prep => rfl

theorem grant_front_classification (s : State) :
    (grant s).front.map (·.classification) = s.front.map (·.classification) := by
  unfold grant
  split
  · rfl
  · split
    · rfl
    · exact granted_front_classification _ _ _

theorem finish_front_classification (s : State) :
    (finish s).front.map (·.classification) = s.front.map (·.classification) := by
  simp [finish, grant_front_classification]

/-! ## CLEAR-WINDOW (R19) -/

theorem exec_clearWindow (s : State) (h : s.handed .clearWindow) :
    exec .clearWindow s = .next (finish (takeClearWindow s)) := taking_handed .clearWindow takeClearWindow s h

theorem takeClearWindow_outside (s : State) (h : 16 ≤ s.arg 2) :
    takeClearWindow s = completeCommand .refusedArgument [] s := if_pos h

theorem takeClearWindow_guarded (s : State) (status : Status) (h : s.arg 2 < 16)
    (hguard : windowGuard (s.window (s.arg 2)) = some status) : takeClearWindow s = completeCommand status [] s := by
  simp [takeClearWindow, answer, Nat.not_le.mpr h, hguard]

theorem takeClearWindow_clears (s : State) (h : s.arg 2 < 16) (hguard : windowGuard (s.window (s.arg 2)) = none) :
    takeClearWindow s = completeCommand .done [] { s with windows := s.windows.set (s.arg 2) none } := by
  simp [takeClearWindow, answer, Nat.not_le.mpr h, hguard]

theorem windowGuard_shielded (w : Window) (h : w.shielded = true) : windowGuard (some w) = some .refusedShielded := by
  simp [windowGuard, h]

theorem windowGuard_ring (w : Window) (h : w.shielded = false) (hrole : w.ringRole ≠ .none) :
    windowGuard (some w) = some .refusedState := by
  simp [windowGuard, h, hrole]

/-- An entry lets a change through when it is empty, or holds a window with neither shield nor ring role (R18, R19). -/
theorem windowGuard_window_eq_none (s : State) (i : Nat)
    (h : ∀ w, s.windows[i]? = some (some w) → w.shielded = false ∧ w.ringRole = .none) :
    windowGuard (s.window i) = none := by
  match hi : s.windows[i]? with
  | none => simp [State.window, hi, windowGuard]
  | some none => rw [window_of_getElem? s i none hi]; rfl
  | some (some w) =>
    obtain ⟨hshield, hrole⟩ := h w hi
    rw [window_of_getElem? s i (some w) hi]
    simp [windowGuard, hshield, hrole]

/-- Settles O47: one case per check of R19; that no window is left at the cleared offsets is R17's law. -/
theorem clearWindow : Obligations.ClearWindow := by
  intro s hs i answers
  have refuses (status : Status) (h : takeClearWindow s = completeCommand status [] s) : answers status :=
    (exec_clearWindow s hs).trans (by rw [h])
  refine ⟨?outside, ?guarded, ?clears⟩
  case outside => exact fun hi => refuses _ (takeClearWindow_outside s hi)
  case guarded =>
    intro w hi hw
    have hwindow : s.window i = some w := window_of_getElem? s i _ hw
    constructor
    · intro hshield
      exact refuses _ (takeClearWindow_guarded s _ hi (by rw [hwindow, windowGuard_shielded w hshield]))
    · intro hshield hrole
      exact refuses _ (takeClearWindow_guarded s _ hi (by rw [hwindow, windowGuard_ring w hshield hrole]))
  case clears =>
    intro hi hfree t
    have hdone : exec .clearWindow s = .next t := by
      rw [exec_clearWindow s hs, takeClearWindow_clears s hi (windowGuard_window_eq_none s i hfree)]
    have hwindows : t.windows = s.windows.set i none := by simp [t]
    refine ⟨hdone, hwindows, ?unchanged, ?outOfWindow, ?classification, ?mem, ?table, ?watch⟩
    case unchanged => exact fun hempty => hwindows.trans (set_none_of_empty hempty)
    case outOfWindow =>
      intro w hw hlegal o hlo hhi
      have hnone : t.windowAt o = none := by
        rw [State.windowAt, hwindows]
        exact findWindow_set_none hlegal hw 0 o hlo hhi
      exact ⟨hnone, classify_of_windowAt_none t o hnone⟩
    case classification => simp [t, finish_front_classification]
    case mem | table | watch => simp [t]

/-! ## READ-WINDOW (R20) -/

theorem exec_readWindow (s : State) (h : s.handed .readWindow) :
    exec .readWindow s = .next (finish (takeReadWindow s)) := taking_handed .readWindow takeReadWindow s h

theorem takeReadWindow_outside (s : State) (h : 16 ≤ s.arg 2) :
    takeReadWindow s = completeCommand .refusedArgument [] s := if_pos h

theorem takeReadWindow_inside (s : State) (h : s.arg 2 < 16) :
    takeReadWindow s = completeCommand .done (windowResults (s.window (s.arg 2))) s := if_neg (Nat.not_le.mpr h)

/-- The results for an empty entry begin with the flag that says so (R20). -/
theorem windowResults_none_head : (windowResults none).head? = some 1 := rfl

/-- The results for a window, field by field (R17, R20). -/
theorem windowResults_some (w : Window) :
    windowResults (some w) =
      [0] ++ le 4 w.base ++ le 4 w.size ++ [BitVec.ofNat 8 w.writePolicy.code] ++
        [BitVec.ofNat 8 w.checkPolicy.code] ++ [BitVec.ofNat 8 w.ringRole.code] ++
        [if w.poisonRestart then 1 else 0] ++ [if w.shielded then 1 else 0] := by
  simp only [windowResults, byteField_eq]
  rfl

/-- Settles O48: the results are those of the entry as it stands. -/
theorem readWindow : Obligations.ReadWindow := by
  intro s hs
  rw [exec_readWindow s hs]
  constructor
  · intro hout
    rw [takeReadWindow_outside s hout]
  · intro hin
    refine ⟨windowResults (s.window (s.arg 2)), by rw [takeReadWindow_inside s hin], ?empty, ?window⟩
    case empty =>
      intro hentry
      rw [State.window, hentry, windowResults_none_head]
    case window =>
      intro w hentry
      rw [State.window, hentry, windowResults_some]

end Sys2Proof.Machine

/-! SUPPORT. The preparation passes (chapter 6): the pattern words and the zero word (R104). -/

namespace Sys2Proof.Machine

/-! ## The two halves of a pattern word (R104) -/

theorem patternWord_odd (pass w : Nat) (h : pass % 2 = 1) :
    patternWord pass w = ~~~BitVec.ofNat 32 w ++ BitVec.ofNat 32 w := if_pos h

theorem patternWord_even (pass w : Nat) (h : pass % 2 = 0) :
    patternWord pass w = BitVec.ofNat 32 w ++ ~~~BitVec.ofNat 32 w :=
  if_neg (by rw [h]; exact Nat.zero_ne_one)

/-- An odd pass keeps the offset in the low half and its complement in the high half. -/
theorem patternWord_halves_odd (pass w : Nat) (h : pass % 2 = 1) :
    (patternWord pass w).extractLsb' 0 32 = BitVec.ofNat 32 w ∧
      (patternWord pass w).extractLsb' 32 32 = ~~~BitVec.ofNat 32 w := by
  rw [patternWord_odd pass w h]
  exact ⟨BitVec.extractLsb'_append_eq_right, BitVec.extractLsb'_append_eq_left⟩

/-- An even pass keeps the halves the other way round. -/
theorem patternWord_halves_even (pass w : Nat) (h : pass % 2 = 0) :
    (patternWord pass w).extractLsb' 0 32 = ~~~BitVec.ofNat 32 w ∧
      (patternWord pass w).extractLsb' 32 32 = BitVec.ofNat 32 w := by
  rw [patternWord_even pass w h]
  exact ⟨BitVec.extractLsb'_append_eq_right, BitVec.extractLsb'_append_eq_left⟩

/-! ## The words of a pattern write (R104, R106) -/

/-- The access of a pattern write takes its offset and its words from the front offset of the group in hand; the redirect
gives its location alone. -/
theorem prepAccess_patternWrite (s : State) (hpass : s.prep.activity = .passing) (hstep : s.prep.step = .patternWrite) :
    s.prepAccess =
      s.accessAt .prep .patternWrite true s.prepGroup ((patternWords s.prep.pass s.prepGroup).map made) := by
  simp [State.prepAccess, hpass, hstep]

@[simp] theorem accessAt_words (s : State) (r : Requester) (p : Purpose) (line : Bool) (o : Nat) (ws : List MemWord) :
    (s.accessAt r p line o ws).words = ws := rfl

theorem map_made_patternWords (pass g : Nat) :
    (patternWords pass g).map made = (List.range 8).map fun k => made (patternWord pass (g + 8 * k)) := List.map_map

/-! ## Offsets and the zero word (R104) -/

/-- No memory is larger than 64 MiB. -/
theorem memSizeOfCode_le (code : Nat) : memSizeOfCode code ≤ 64 * 1048576 := by
  unfold memSizeOfCode mebibyte
  split <;> decide

/-- No column is taken for a word of all-zero data (R25). -/
theorem columnsXor_zero (columns : List Byte) (k : Nat) : columnsXor 0 columns k = 0 := by
  induction columns generalizing k with
  | nil => rfl
  | cons c cs ih => rw [columnsXor, ih]; simp

theorem made_zero : made 0 = { data := 0, check := 0 } :=
  congrArg (MemWord.mk 0) (columnsXor_zero dataColumns 0)

/-- Settles O28: the halves follow the parity of the pass, and the words of a pattern write are formed from the front
offset whatever the redirect gives. (The model's list of a group's pattern words has the obligation's own name.) -/
theorem patternWords_hold : Obligations.PatternWords := by
  refine ⟨fun pass w _ => ⟨?odd, ?even⟩, ?access, ?bound, ?first, ?second, made_zero⟩
  case odd =>
    intro hpass
    exact patternWord_halves_odd pass w (by omega)
  case even =>
    intro hpass
    exact patternWord_halves_even pass w (by omega)
  case access =>
    intro s hpass hstep
    rw [prepAccess_patternWrite s hpass hstep, accessAt_words, map_made_patternWords, State.prepGroup]
  case bound => exact fun code => ⟨memSizeOfCode_le code, by decide⟩
  case first => rw [patternWord_odd 1 _ rfl]; decide
  case second => rw [patternWord_even 2 _ rfl]; decide

end Sys2Proof.Machine

/-! SUPPORT. Restart supervision (chapter 8): the watch lock (R132), and the command DISARM-WATCHDOG (R142). -/

namespace Sys2Proof.Machine

/-! ## The watch lock (R132) -/

/-- Both consequences of a refusal under the lock; the request goes behind those already under way. -/
theorem lockViolation_eq (s : State) :
    lockViolation s = { s with
      watch := { s.watch with violations := satInc s.watch.violations }
      requests := if s.settings.lockTrip then
          s.requests ++ [{ cause := .lockViolation, cold := false, chord := none }] else s.requests } := by
  by_cases htrip : s.settings.lockTrip = true
  · rw [if_pos htrip]
    exact if_pos htrip
  · rw [if_neg htrip]
    exact if_neg htrip

theorem underLock_locked (k : State → State) (s : State) (h : s.watch.lock = true) :
    underLock k s = completeCommand .refusedLocked [] (lockViolation s) := if_pos h

theorem underLock_unlocked (k : State → State) (s : State) (h : s.watch.lock = false) : underLock k s = k s :=
  if_neg (by simp [h])

/-! ## DISARM-WATCHDOG (R142) -/

theorem exec_disarmWatchdog (s : State) (h : s.handed .disarmWatchdog) :
    exec .disarmWatchdog s = .next (finish (takeDisarmWatchdog s)) :=
  taking_handed .disarmWatchdog takeDisarmWatchdog s h

theorem takeDisarmWatchdog_locked (s : State) (hlock : s.watch.lock = true) :
    takeDisarmWatchdog s = completeCommand .refusedLocked [] (lockViolation s) := underLock_locked _ s hlock

theorem takeDisarmWatchdog_noDisarm (s : State) (hlock : s.watch.lock = false) (hno : s.settings.noDisarm = true) :
    takeDisarmWatchdog s = completeCommand .refusedState [] s :=
  (underLock_unlocked _ s hlock).trans (if_pos hno)

/-- Past the lock and NO_DISARM, the state of the watchdog alone decides. -/
theorem takeDisarmWatchdog_allowed (s : State) (hlock : s.watch.lock = false) (hno : s.settings.noDisarm = false) :
    takeDisarmWatchdog s =
      if (s.dog.state = .armed ∨ s.dog.state = .warned) ∧ s.dog.requestOut = false then
        completeCommand .done [] { s with dog := { s.dog with state := .disarmed, timer := .stopped } }
      else completeCommand .refusedState [] s :=
  (underLock_unlocked _ s hlock).trans (if_neg (by simp [hno]))

/-- Settles O54: one case per step of R142, in the rule's order. -/
theorem disarm : Obligations.Disarm := by
  intro s hs able
  rw [exec_disarmWatchdog s hs]
  refine ⟨?locked, ?noDisarm, ?unable, ?disarms⟩
  case locked =>
    intro hlock
    rw [takeDisarmWatchdog_locked s hlock, lockViolation_eq]
  case noDisarm =>
    intro hlock hno
    rw [takeDisarmWatchdog_noDisarm s hlock hno]
  case unable =>
    intro hlock hno hunable
    rw [takeDisarmWatchdog_allowed s hlock hno, if_neg hunable]
  case disarms =>
    intro hlock hno hable
    rw [takeDisarmWatchdog_allowed s hlock hno, if_pos hable]

end Sys2Proof.Machine

/-! SUPPORT. The mailbox (chapter 10): the ATTN output (R188). -/

namespace Sys2Proof.Machine

/-! ## When ATTN is asserted (R188) -/

theorem attn_eq_true_iff (s : State) :
    s.attn = true ↔ s.ctl.regime = .running ∧ (s.events.produce ≠ s.events.consume ∨ s.events.state = .faulted) := by
  simp only [State.attn, Bool.and_eq_true, Bool.or_eq_true, decide_eq_true_eq]

/-- The regime and the event ring's state with its two copies decide ATTN. -/
theorem attn_congr {s t : State} (hregime : s.ctl.regime = t.ctl.regime) (hevents : s.events = t.events) :
    s.attn = t.attn := by
  rw [State.attn, State.attn, hregime, hevents]

/-- Equal copies of a ring that has no fault assert nothing, whatever the regime. -/
theorem attn_eq_false_of_caughtUp (s : State) (hcopies : s.events.consume = s.events.produce)
    (hstate : s.events.state ≠ .faulted) : s.attn = false := by
  rw [Bool.eq_false_iff, ne_eq, attn_eq_true_iff]
  rintro ⟨-, hdiffer | hfault⟩
  · exact hdiffer hcopies.symm
  · exact hstate hfault

/-- The mailbox unit's placing and the arbiter's grant at the end of a step leave ATTN as it is. -/
@[simp] theorem attn_finish (s : State) : (finish s).attn = s.attn := attn_congr (by simp) (by simp)

/-! ## Its fall at part power-on -/

theorem exec_partPowerOn (s : State) :
    exec .partPowerOn s =
      .next { State.reset with pending := s.pending, memEpoch := s.memEpoch + 1, freeCount := s.freeCount } := rfl

theorem attn_reset : State.reset.attn = false := rfl

/-! ## Its rise when a produce write completes (R187) -/

/-- An index of a ring never equals the index after it, the wrap included: it wraps at an even number (R187). -/
theorem nextIndex_ne_self (n a : Nat) : nextIndex n a ≠ a := by
  unfold nextIndex
  intro h
  obtain hlt | hge := Nat.lt_or_ge (a + 1) (2 * n)
  · rw [Nat.mod_eq_of_lt hlt] at h
    omega
  · obtain rfl | hpos := Nat.eq_zero_or_pos n
    · simp at h
    · have hbelow : a < 2 * n := h ▸ Nat.mod_lt _ (by omega)
      have hwraps : a + 1 = 2 * n := by omega
      rw [hwraps, Nat.mod_self] at h
      omega

/-- The removal of a posted entry moves the produce copy alone among what ATTN looks at. -/
theorem removePosted_events (s : State) (p : Posting) (h : s.posting = some p) :
    (removePosted s).events =
      { s.events with produce := nextIndex s.settings.eventRingEntries s.events.produce } := by
  simp [removePosted, h]

/-- A posted entry leaves the produce copy one ahead of a consume copy it had equalled. -/
theorem attn_removePosted (s : State) (p : Posting) (hposting : s.posting = some p) (hrun : s.ctl.regime = .running)
    (hcopies : s.events.produce = s.events.consume) : (removePosted s).attn = true := by
  rw [attn_eq_true_iff, removePosted_events s p hposting]
  exact ⟨by simpa using hrun, Or.inl (hcopies ▸ nextIndex_ne_self _ _)⟩

/-- A produce write that completes in RUNNING, and was not discarded, removes the entry it posted (R187). -/
theorem exec_produceWriteComplete_posted (s : State) (a : Access) (hport : s.port = some a)
    (hpurpose : a.purpose = .produceWrite) (hmem : s.inMemory a = true) (hkept : a.discarded = false)
    (hrun : s.ctl.regime = .running) :
    exec .produceWriteComplete s = .next (finish (removePosted
      (clearCarried a { s with port := none, mem := writeWords a.words (s.accessAddress a) s.mem }))) := by
  change execProduceWriteComplete s = _
  simp [execProduceWriteComplete, atWrite, hport, hpurpose, hmem, hkept, hrun]

/-! ## Its fall when a consume write catches up (R186) -/

/-- A consume write of the produce copy is within its distance, so the two copies are then equal and no fault is made. -/
theorem consumeWrite_catchesUp (s : State) (hstate : s.events.state ≠ .faulted)
    (hproduce : s.events.produce < 2 * s.settings.eventRingEntries) :
    (consumeWrite s.events.produce s).events = { s.events with consume := s.events.produce } := by
  by_cases hcopies : s.events.produce = s.events.consume
  · have hsame : consumeWrite s.events.produce s = s := if_pos (Or.inr hcopies)
    rw [hsame, hcopies]
  · simp [consumeWrite, hstate, hcopies, hproduce]

/-- Settles O45: ATTN looks at the regime and the event ring alone; a produce write takes the copies apart, and a consume
write of the produce copy brings them together. -/
theorem attn : Obligations.Attn := by
  refine ⟨attn_eq_true_iff, fun s t => attn_congr, fun s q => attn_congr rfl rfl, attn_reset, ?powerOn, ?rises, ?falls⟩
  case powerOn =>
    intro s
    exact ⟨_, exec_partPowerOn s, (attn_congr rfl rfl).trans attn_reset⟩
  case rises =>
    intro s a p hport hpurpose hmem hkept hrun hposting hcopies
    refine ⟨_, exec_produceWriteComplete_posted s a hport hpurpose hmem hkept hrun, ?_⟩
    rw [attn_finish]
    exact attn_removePosted _ p (by simpa using hposting) (by simpa using hrun) (by simpa using hcopies)
  case falls =>
    intro s hstate hproduce
    have hevents := consumeWrite_catchesUp s hstate hproduce
    exact attn_eq_false_of_caughtUp _ (by rw [hevents]) (by rw [hevents]; exact hstate)

end Sys2Proof.Machine

/-! SUPPORT. What a step can do, said once: the inversion of the shared shapes of a command, and the footprint of every
command, part by part of the state. -/

namespace Sys2Proof.Machine

open Host (Outcome)

/-! ## The shapes of a command -/

/-- A command of the ring changes nothing, or is taken by its owner. -/
theorem taking_cases {c : CommandCode} {k : State → State} {s t : State} (h : taking c k s = .next t) :
    t = s ∨ (s.handed c ∧ t = finish (k s)) := by
  by_cases hc : s.handed c
  · rw [taking_handed c k s hc] at h
    exact Or.inr ⟨hc, (Outcome.next.inj h).symm⟩
  · rw [taking_not_handed c k s hc] at h
    exact Or.inl (Outcome.next.inj h).symm

/-- A read's completion changes nothing, or hands the words read to the requester. -/
theorem atRead_cases {p : Purpose} {flips : List MemWord} {s t : State} {k : Access → List MemWord → State → State}
    (h : atRead p flips s k = .next t) :
    t = s ∨ ∃ a, s.port = some a ∧ a.purpose = p ∧
      t = k a (readWords s.memEpoch flips (s.accessAddress a) a.count s.mem).1
        { s with port := none, mem := (readWords s.memEpoch flips (s.accessAddress a) a.count s.mem).2 } := by
  unfold atRead at h
  split at h
  · exact Or.inl (Outcome.next.inj h).symm
  · next a ha =>
    split at h
    · next hp =>
      split at h
      · exact Or.inr ⟨a, ha, hp, (Outcome.next.inj h).symm⟩
      · cases h
    · exact Or.inl (Outcome.next.inj h).symm

/-- A write's completion changes nothing, or stores its words and goes on at the requester. -/
theorem atWrite_cases {p : Purpose} {s t : State} {k : Access → State → State} (h : atWrite p s k = .next t) :
    t = s ∨ ∃ a, s.port = some a ∧ a.purpose = p ∧
      t = k a (clearCarried a { s with port := none, mem := writeWords a.words (s.accessAddress a) s.mem }) := by
  unfold atWrite at h
  split at h
  · exact Or.inl (Outcome.next.inj h).symm
  · next a ha =>
    split at h
    · next hp =>
      split at h
      · exact Or.inr ⟨a, ha, hp, (Outcome.next.inj h).symm⟩
      · cases h
    · exact Or.inl (Outcome.next.inj h).symm

/-! ## The parts of the state that the laws look at -/

/-- The parts of the state that the laws of the part look at. -/
inductive Part where
  | loader | control | restarts | windows | memory | entries | heaters | dog | trace | keys | queue | repairs | pending

/-- The groups and slots of the table, the spent slots and the slot a migration has chosen: all that the law of the
repair table (R54, R55, R59) looks at. -/
def Repair.shape (r : Repair) : List (Nat × Nat) × List Nat × Option Nat :=
  (r.table.map fun e => (e.group, e.slot), r.spent, r.migration.map (·.slot))

/-- One part is as it was. -/
def Part.same (s t : State) : Part → Prop
  | .loader => t.loader.state = s.loader.state ∧ t.loader.loaded = s.loader.loaded
  | .control => t.ctl.regime = s.ctl.regime ∧ t.ctl.power = s.ctl.power ∧
      t.ctl.processorReset = s.ctl.processorReset ∧ t.ctl.memValid = s.ctl.memValid
  | .restarts => t.restarts = s.restarts
  | .windows => t.windows = s.windows
  | .memory => t.mem = s.mem
  | .entries => t.log.entries = s.log.entries
  | .heaters => t.thermal.boardOutput = s.thermal.boardOutput ∧ t.thermal.panelOutput = s.thermal.panelOutput
  | .dog => t.dog = s.dog
  | .trace => t.trace = s.trace
  | .keys => t.keypad.positions = s.keypad.positions ∧ t.keypad.map = s.keypad.map
  | .queue => t.queue = s.queue
  | .repairs => t.repair.shape = s.repair.shape
  | .pending => t.pending = s.pending

/-- The parts that a change of regime can change. -/
def Part.regimeParts : List Part := [.control, .memory, .heaters, .dog, .trace, .keys, .queue, .repairs]
/-- The parts that detections can change. -/
def Part.detectionParts : List Part := [.entries, .queue, .repairs]
/-- Every part but the queue of commands. -/
def Part.all : List Part :=
  [.loader, .control, .restarts, .windows, .memory, .entries, .heaters, .dog, .trace, .keys, .queue, .repairs]

/-- The parts that a command can change. -/
def touchedParts : Instr → List Part
  | .partPowerOn | .configReadReply .. | .configReadTimeout _ => Part.all
  | .frontReadAccessComplete _ | .frontMergeReadComplete _ | .fixPairReadComplete _ | .sweepReadComplete _
  | .migrationReadComplete _ | .readBackComplete .. | .checkRangeReadComplete _ => .memory :: Part.detectionParts
  | .frontWriteAccessComplete | .patternWriteComplete | .commandFetchComplete _ | .completionWriteComplete
  | .doneWriteComplete | .diagWordReadComplete _ | .diagWordWriteComplete | .eventEntryWordWriteComplete => [.memory]
  | .watchWriteReport => [.restarts, .dog, .trace]
  | .watchReadReport => [.restarts, .dog]
  | .refusedWriteReport => [.trace]
  | .fixRewriteComplete => [.memory, .entries]
  | .migrationWriteComplete => [.memory, .queue, .repairs]
  | .zeroWriteComplete | .heatLimitExpiry | .soakTimerExpiry | .pulseTimerExpiry | .offTimerExpiry
  | .ringHeaderWriteComplete => Part.regimeParts
  | .sensorReply .. | .sensorTimeout | .holdRelease _ => .restarts :: Part.regimeParts
  | .resetInputEvent | .restartRequest _ => .restarts :: .windows :: Part.regimeParts
  | .chordOutcome _ => [.queue]
  | .bootLimitExpiry | .warnWindowExpiry | .armWatchdog | .disarmWatchdog => [.dog]
  | .periodExpiry => [.dog, .queue]
  | .scanSample _ => [.keys, .queue]
  | .produceWriteComplete => [.memory, .queue]
  | .setWindow | .clearWindow => [.windows]
  | .takeError => [.entries]
  | .repairGroup => [.queue, .repairs]
  | .setKey => [.keys]
  | .read .. | .write .. | .lineRead _ | .lineWrite .. | .ringSnoopReport | .scrubIntervalExpiry | .prepRetryExpiry
  | .pollTimerExpiry | .resetInputLevelChange _ | .lampBlinkToggle | .cmdWaitExpiry | .status | .readWindow | .diagRead
  | .diagWrite | .readRepairs | .readThermal | .checkRange | .setWatch | .clearWatch | .readWatch | .takeWatchHits
  | .lockWatch | .restart | .readRestart | .readTrace | .readKeys | .uptimeTick | .sessionTimeTick => []

/-- Every part but the listed ones is as it was. -/
def Kept (touched : List Part) (s t : State) : Prop := ∀ p, p ∉ touched → p.same s t

theorem Kept.refl (touched : List Part) (s : State) : Kept touched s s := by
  intro p _
  cases p <;> simp [Part.same]

/-! ## The repair table's shape -/

theorem granted_shape (r : Requester) (a : Access) (s : State) : (granted r a s).repair.shape = s.repair.shape := by
  cases r with
  | repair => simp [granted, Repair.shape, Function.comp_def]
  | scrub => simp only [granted]; split <;> rfl
  | front | mailbox | prep => rfl

theorem grant_shape (s : State) : (grant s).repair.shape = s.repair.shape := by
  unfold grant
  split
  · rfl
  · split
    · rfl
    · exact granted_shape _ _ _

@[simp] theorem finish_shape (s : State) : (finish s).repair.shape = s.repair.shape := by
  simp [finish, grant_shape]

@[simp] theorem clearCarried_shape (a : Access) (s : State) : (clearCarried a s).repair.shape = s.repair.shape := by
  unfold clearCarried
  split
  · rfl
  · split
    · simp only [Repair.shape, List.map_map, Prod.mk.injEq, and_true]
      refine List.map_congr_left fun e _ => ?_
      simp only [Function.comp_apply]
      split <;> rfl
    · rfl

/-! ## What a change of regime makes of board power and of memory -/

/-- Board power after a change of regime is the new regime's (R71). -/
theorem changeRegime_power (new : Regime) (s : State) : (changeRegime new s).ctl.power = new.powered := by
  rw [changeRegime_eq]
  simp only [lampUpdate_frame, evalHeaters_frame, scrubNews_frame, beforeScrubNews, prepNews_frame]
  repeat' split
  all_goals simp [enterRunning_frame, setRegime]

theorem changeRegime_processorReset (new : Regime) (s : State) :
    (changeRegime new s).ctl.processorReset = new.resetAsserted := by
  rw [changeRegime_eq]
  simp only [lampUpdate_frame, evalHeaters_frame, scrubNews_frame, beforeScrubNews, prepNews_frame]
  repeat' split
  all_goals simp [enterRunning_frame, setRegime]

/-- A change of regime loses the contents of memory exactly when it switches board power off (R73). -/
theorem changeRegime_mem (new : Regime) (s : State) :
    (changeRegime new s).mem = if s.ctl.regime.powered && !new.powered then [] else s.mem := by
  rw [changeRegime_eq]
  simp only [lampUpdate_frame, evalHeaters_frame, scrubNews_frame, beforeScrubNews, prepNews_frame]
  repeat' split
  all_goals simp [enterRunning_frame, setRegime, losePower]
theorem loadComplete_pending (loaded : Settings) (defaults isPartial : Bool) (s : State) :
    (loadComplete loaded defaults isPartial s).pending = s.pending := by
  simp [loadComplete]

/-- Whatever comes of the bytes read, the queue of commands stays (R192). -/
theorem examineImage_pending (straps : BitVec 3) (s : State) : (examineImage straps s).pending = s.pending := by
  unfold examineImage loadDefaults
  dsimp only
  repeat' split
  all_goals simp [loadComplete_pending]

/-! ## Footprints of the shapes of a command -/

theorem Kept.trans {ps : List Part} {s t u : State} (h : Kept ps s t) (h' : Kept ps t u) : Kept ps s u := by
  intro p hp
  have h1 := h p hp
  have h2 := h' p hp
  cases p <;> simp_all [Part.same]

theorem Kept.mono {ps qs : List Part} {s t : State} (h : Kept ps s t) (hsub : ∀ p ∈ ps, p ∈ qs) : Kept qs s t :=
  fun p hp => h p fun hmem => hp (hsub p hmem)

theorem Kept.andThen {ps qs : List Part} {s t u : State} (h : Kept ps s t) (h' : Kept qs t u)
    (hsub : ∀ p ∈ qs, p ∈ ps := by simp) : Kept ps s u := h.trans (h'.mono hsub)

theorem kept_finish (s : State) : Kept [] s (finish s) := by
  intro p hp; cases p <;> simp [Part.same]

theorem kept_port (s : State) (m : Memory) : Kept [.memory] s { s with port := none, mem := m } := by
  intro p hp; cases p <;> simp [Part.same] at hp ⊢

theorem kept_clearCarried (a : Access) (s : State) : Kept [] s (clearCarried a s) := by
  intro p hp; cases p <;> simp [Part.same]

theorem Kept.finish {ps : List Part} {s t : State} (h : Kept ps s t) : Kept ps s (finish t) :=
  h.andThen (kept_finish t)

theorem taking_kept {c : CommandCode} {k : State → State} {s t : State} {ps : List Part}
    (h : taking c k s = .next t) (hk : Kept ps s (k s)) : Kept ps s t := by
  obtain rfl | ⟨-, rfl⟩ := taking_cases h
  · exact Kept.refl _ _
  · exact hk.finish

/-! ## Footprints of the commands -/

theorem kept_frontAccept (kind : TxnKind) (o : Nat) (mask : Byte) (words : List Word) (s : State) :
    Kept [] s (frontAccept kind o mask words s) := by
  unfold frontAccept
  dsimp only
  generalize (if kind.isLine = true then groupOf o else wordOffset o) = x
  repeat' split
  all_goals intro p hp; cases p <;> simp [Part.same]

theorem kept_frontReadDone (a : Access) (ws : List MemWord) (s : State) :
    Kept Part.detectionParts s (frontReadDone a ws s) := by
  unfold frontReadDone answerRead frontDiscard
  dsimp only
  repeat' split
  all_goals intro p hp; cases p <;> simp [Part.same, Part.detectionParts] at hp ⊢

theorem kept_frontMergeDone (a : Access) (ws : List MemWord) (s : State) :
    Kept Part.detectionParts s (frontMergeDone a ws s) := by
  unfold frontMergeDone mergeFails mergeWrites frontDiscard
  dsimp only
  repeat' split
  all_goals intro p hp; cases p <;> simp [Part.same, Part.detectionParts] at hp ⊢

theorem kept_frontWriteDone (a : Access) (s : State) : Kept [] s (frontWriteDone a s) := by
  unfold frontWriteDone frontDiscard
  repeat' split
  all_goals intro p hp; cases p <;> simp [Part.same] at hp ⊢

theorem kept_fixReadDone (a : Access) (ws : List MemWord) (s : State) :
    Kept Part.detectionParts s (fixReadDone a ws s) := by
  unfold fixReadDone endFix removeServed
  dsimp only
  repeat' split
  all_goals intro p hp; cases p <;> simp [Part.same, Part.detectionParts] at hp ⊢

theorem kept_sweepDone (a : Access) (ws : List MemWord) (s : State) :
    Kept Part.detectionParts s (sweepDone a ws s) := by
  unfold sweepDone advanceSweep
  dsimp only
  repeat' split
  all_goals intro p hp; cases p <;> simp [Part.same, Part.detectionParts] at hp ⊢

theorem kept_migrationReadDone (a : Access) (ws : List MemWord) (s : State) :
    Kept Part.detectionParts s (migrationReadDone a ws s) := by
  unfold migrationReadDone declineRepair copyToSlot
  dsimp only
  repeat' split
  all_goals intro p hp; cases p <;> simp [Part.same, Part.detectionParts] at hp ⊢

theorem kept_readBackDone (engineFirst : Bool) (a : Access) (ws : List MemWord) (s : State) :
    Kept Part.detectionParts s (readBackDone engineFirst a ws s) := by
  unfold readBackDone nextStep countFindings
  dsimp only
  repeat' split
  all_goals intro p hp; cases p <;> simp [Part.same, Part.detectionParts] at hp ⊢

theorem kept_checkReadDone (a : Access) (ws : List MemWord) (s : State) :
    Kept Part.detectionParts s (checkReadDone a ws s) := by
  unfold checkReadDone
  dsimp only
  repeat' split
  all_goals intro p hp; cases p <;> simp [Part.same, Part.detectionParts] at hp ⊢

theorem kept_fetchDone (a : Access) (ws : List MemWord) (s : State) : Kept [] s (fetchDone a ws s) := by
  unfold fetchDone
  split
  all_goals intro p hp; cases p <;> simp [Part.same] at hp ⊢

/-- What the read of a DIAG word comes to at the mailbox unit (R40, R42). -/
def diagReadDone (a : Access) (ws : List MemWord) (s : State) : State :=
  finish (if a.discarded then s else completeCommand .done (diagResults a.loc (ws.headD (made 0))) s)

theorem exec_diagWordReadComplete (flips : List MemWord) (s : State) :
    exec (.diagWordReadComplete flips) s = atRead .diagRead flips s diagReadDone := rfl

theorem kept_diagReadDone (a : Access) (ws : List MemWord) (s : State) : Kept [] s (diagReadDone a ws s) := by
  unfold diagReadDone
  split
  all_goals intro p hp; cases p <;> simp [Part.same]

/-- What the write of a fix pair comes to at the scrubber (R34, R48). -/
def fixRewriteDone (a : Access) (s : State) : State := endFix (rewriteReport a.offset a.loc a.syndrome s)

theorem exec_fixRewriteComplete (s : State) : exec .fixRewriteComplete s = atWrite .fixWrite s fixRewriteDone := rfl

theorem kept_fixRewriteDone (a : Access) (s : State) : Kept [.entries] s (fixRewriteDone a s) := by
  unfold fixRewriteDone endFix removeServed
  split
  all_goals intro p hp; cases p <;> simp [Part.same] at hp ⊢

/-- What a pattern write comes to at the preparation engine (R106). -/
def patternWriteDone (_ : Access) (s : State) : State := finish (nextStep .readBack s)

theorem exec_patternWriteComplete (s : State) :
    exec .patternWriteComplete s = atWrite .patternWrite s patternWriteDone := rfl

theorem kept_patternWriteDone (a : Access) (s : State) : Kept [] s (patternWriteDone a s) := by
  unfold patternWriteDone nextStep
  intro p hp; cases p <;> simp [Part.same]

/-- What a completion write comes to at the command engine (R182). -/
def completionWriteDone (a : Access) (s : State) : State :=
  finish (if a.discarded then s else { s with engine := { s.engine with work := .doneWrite } })

theorem exec_completionWriteComplete (s : State) :
    exec .completionWriteComplete s = atWrite .completionWrite s completionWriteDone := rfl

theorem kept_completionWriteDone (a : Access) (s : State) : Kept [] s (completionWriteDone a s) := by
  unfold completionWriteDone
  split
  all_goals intro p hp; cases p <;> simp [Part.same]

/-- What a done write comes to at the command engine (R182). -/
def doneWriteDone (a : Access) (s : State) : State := finish (if a.discarded then s else commandEnds s)

theorem exec_doneWriteComplete (s : State) : exec .doneWriteComplete s = atWrite .doneWrite s doneWriteDone := rfl

theorem kept_doneWriteDone (a : Access) (s : State) : Kept [] s (doneWriteDone a s) := by
  unfold doneWriteDone
  split
  all_goals intro p hp; cases p <;> simp [Part.same]

/-- What the write of a DIAG word comes to at the mailbox unit (R41, R42). -/
def diagWriteDone (a : Access) (s : State) : State := finish (if a.discarded then s else completeCommand .done [] s)

theorem exec_diagWordWriteComplete (s : State) :
    exec .diagWordWriteComplete s = atWrite .diagWrite s diagWriteDone := rfl

theorem kept_diagWriteDone (a : Access) (s : State) : Kept [] s (diagWriteDone a s) := by
  unfold diagWriteDone
  split
  all_goals intro p hp; cases p <;> simp [Part.same]

/-- What the write of an entry word comes to at the posting (R187). -/
def entryWriteDone (a : Access) (s : State) : State :=
  finish (if a.discarded then s else { s with posting := s.posting.map fun p => { p with step := p.step + 1 } })

theorem exec_eventEntryWordWriteComplete (s : State) :
    exec .eventEntryWordWriteComplete s = atWrite .entryWrite s entryWriteDone := rfl

theorem kept_entryWriteDone (a : Access) (s : State) : Kept [] s (entryWriteDone a s) := by
  unfold entryWriteDone
  split
  all_goals intro p hp; cases p <;> simp [Part.same]

/-- What a produce write comes to at the posting (R187). -/
def produceWriteDone (a : Access) (s : State) : State :=
  finish (if !a.discarded && decide (s.ctl.regime = .running) then removePosted s else s)

theorem exec_produceWriteComplete (s : State) :
    exec .produceWriteComplete s = atWrite .produceWrite s produceWriteDone := rfl

theorem kept_produceWriteDone (a : Access) (s : State) : Kept [.queue] s (produceWriteDone a s) := by
  unfold produceWriteDone
  split
  all_goals intro p hp; cases p <;> simp [Part.same] at hp ⊢

theorem kept_migrationWriteDone (a : Access) (s : State) :
    Kept [.queue, .repairs] s (migrationWriteDone a s) := by
  unfold migrationWriteDone firstRepair reRepair
  repeat' split
  all_goals intro p hp; cases p <;> simp [Part.same] at hp ⊢

theorem kept_zeroWriteDone (a : Access) (s : State) : Kept Part.regimeParts s (zeroWriteDone a s) := by
  unfold zeroWriteDone nextStep
  split
  all_goals intro p hp; cases p <;> simp [Part.same, Part.regimeParts] at hp ⊢

theorem kept_headerDone (a : Access) (s : State) : Kept Part.regimeParts s (headerDone a s) := by
  unfold headerDone
  dsimp only
  repeat' split
  all_goals intro p hp; cases p <;> simp [Part.same, Part.regimeParts] at hp ⊢

theorem kept_takeReport {kind : ReportKind → Bool} {k : FrontReport → State → State} (s : State) {ps : List Part} (hk : ∀ r s, Kept ps s (k r s)) :
    Kept ps s (takeReport kind k s) := by
  unfold takeReport
  dsimp only
  repeat' split
  · exact fun p hp => hk _ _ p hp
  all_goals intro p hp; cases p <;> simp [Part.same]

theorem kept_takeSetWindow (s : State) : Kept [.windows] s (takeSetWindow s) := by
  unfold takeSetWindow answer
  dsimp only
  repeat' split
  all_goals intro p hp; cases p <;> simp [Part.same] at hp ⊢

theorem kept_takeClearWindow (s : State) : Kept [.windows] s (takeClearWindow s) := by
  unfold takeClearWindow answer
  dsimp only
  repeat' split
  all_goals intro p hp; cases p <;> simp [Part.same] at hp ⊢

theorem kept_takeTakeError (s : State) : Kept [.entries] s (takeTakeError s) := by
  unfold takeTakeError
  intro p hp; cases p <;> simp [Part.same] at hp ⊢

theorem kept_takeDiagRead (s : State) : Kept [] s (takeDiagRead s) := by
  unfold takeDiagRead beginDiag answer
  dsimp only
  repeat' split
  all_goals intro p hp; cases p <;> simp [Part.same] at hp ⊢

theorem kept_takeDiagWrite (s : State) : Kept [] s (takeDiagWrite s) := by
  unfold takeDiagWrite beginDiag answer
  dsimp only
  repeat' split
  all_goals intro p hp; cases p <;> simp [Part.same] at hp ⊢

theorem kept_takeRepairGroup (s : State) : Kept [.queue, .repairs] s (takeRepairGroup s) := by
  unfold takeRepairGroup offerAndWait answer
  dsimp only
  repeat' split
  all_goals intro p hp; cases p <;> simp [Part.same] at hp ⊢

theorem kept_takeCheckRange (s : State) : Kept [] s (takeCheckRange s) := by
  unfold takeCheckRange beginCheck answer
  repeat' split
  all_goals intro p hp; cases p <;> simp [Part.same] at hp ⊢

theorem kept_takeSetWatch (s : State) : Kept [] s (takeSetWatch s) := by
  unfold takeSetWatch underLock placeWatch answer
  dsimp only
  repeat' split
  all_goals intro p hp; cases p <;> simp [Part.same] at hp ⊢

theorem kept_takeClearWatch (s : State) : Kept [] s (takeClearWatch s) := by
  unfold takeClearWatch underLock placeWatch answer
  dsimp only
  repeat' split
  all_goals intro p hp; cases p <;> simp [Part.same] at hp ⊢

theorem kept_takeLockWatch (s : State) : Kept [] s (takeLockWatch s) := by
  unfold takeLockWatch answer
  intro p hp; cases p <;> simp [Part.same] at hp ⊢

theorem kept_takeTakeWatchHits (s : State) : Kept [] s (takeTakeWatchHits s) := by
  unfold takeTakeWatchHits
  intro p hp; cases p <;> simp [Part.same] at hp ⊢

theorem kept_takeArmWatchdog (s : State) : Kept [.dog] s (takeArmWatchdog s) := by
  unfold takeArmWatchdog underLock answer
  dsimp only
  repeat' split
  all_goals intro p hp; cases p <;> simp [Part.same] at hp ⊢

theorem kept_takeDisarmWatchdog (s : State) : Kept [.dog] s (takeDisarmWatchdog s) := by
  unfold takeDisarmWatchdog underLock answer
  dsimp only
  repeat' split
  all_goals intro p hp; cases p <;> simp [Part.same] at hp ⊢

theorem kept_takeRestartCommand (s : State) : Kept [] s (takeRestartCommand s) := by
  unfold takeRestartCommand answer
  repeat' split
  all_goals intro p hp; cases p <;> simp [Part.same] at hp ⊢

theorem kept_takeSetKey (s : State) : Kept [.keys] s (takeSetKey s) := by
  unfold takeSetKey placeKey answer
  dsimp only
  repeat' split
  all_goals intro p hp; cases p <;> simp [Part.same] at hp ⊢

theorem kept_takeStatus (s : State) : Kept [] s (takeStatus s) := by
  unfold takeStatus
  intro p hp; cases p <;> simp [Part.same] at hp ⊢

theorem kept_takeReadWindow (s : State) : Kept [] s (takeReadWindow s) := by
  unfold takeReadWindow answer
  repeat' split
  all_goals intro p hp; cases p <;> simp [Part.same] at hp ⊢

theorem kept_takeReadRepairs (s : State) : Kept [] s (takeReadRepairs s) := by
  unfold takeReadRepairs answer
  repeat' split
  all_goals intro p hp; cases p <;> simp [Part.same] at hp ⊢

theorem kept_takeReadThermal (s : State) : Kept [] s (takeReadThermal s) := by
  unfold takeReadThermal
  intro p hp; cases p <;> simp [Part.same] at hp ⊢

theorem kept_takeReadWatch (s : State) : Kept [] s (takeReadWatch s) := by
  unfold takeReadWatch answer
  dsimp only
  repeat' split
  all_goals intro p hp; cases p <;> simp [Part.same] at hp ⊢

theorem kept_takeReadRestart (s : State) : Kept [] s (takeReadRestart s) := by
  unfold takeReadRestart answer
  repeat' split
  all_goals intro p hp; cases p <;> simp [Part.same] at hp ⊢

theorem kept_takeReadTrace (s : State) : Kept [] s (takeReadTrace s) := by
  unfold takeReadTrace answer
  repeat' split
  all_goals intro p hp; cases p <;> simp [Part.same] at hp ⊢

theorem kept_takeReadKeys (s : State) : Kept [] s (takeReadKeys s) := by
  unfold takeReadKeys answer
  repeat' split
  all_goals intro p hp; cases p <;> simp [Part.same] at hp ⊢


theorem exec_kept_command (c : CommandCode) (i : Instr) (s t : State) (hi : commandOf i = some c)
    (h : exec i s = .next t) : Kept (touchedParts i) s t := by
  cases i <;> simp only [commandOf, reduceCtorEq] at hi
  case setWindow => exact taking_kept h (kept_takeSetWindow s)
  case clearWindow => exact taking_kept h (kept_takeClearWindow s)
  case takeError => exact taking_kept h (kept_takeTakeError s)
  case diagRead => exact taking_kept h (kept_takeDiagRead s)
  case diagWrite => exact taking_kept h (kept_takeDiagWrite s)
  case repairGroup => exact taking_kept h (kept_takeRepairGroup s)
  case checkRange => exact taking_kept h (kept_takeCheckRange s)
  case setWatch => exact taking_kept h (kept_takeSetWatch s)
  case clearWatch => exact taking_kept h (kept_takeClearWatch s)
  case lockWatch => exact taking_kept h (kept_takeLockWatch s)
  case takeWatchHits => exact taking_kept h (kept_takeTakeWatchHits s)
  case armWatchdog => exact taking_kept h (kept_takeArmWatchdog s)
  case disarmWatchdog => exact taking_kept h (kept_takeDisarmWatchdog s)
  case restart => exact taking_kept h (kept_takeRestartCommand s)
  case setKey => exact taking_kept h (kept_takeSetKey s)
  case status => exact taking_kept h (kept_takeStatus s)
  case readWindow => exact taking_kept h (kept_takeReadWindow s)
  case readRepairs => exact taking_kept h (kept_takeReadRepairs s)
  case readThermal => exact taking_kept h (kept_takeReadThermal s)
  case readWatch => exact taking_kept h (kept_takeReadWatch s)
  case readRestart => exact taking_kept h (kept_takeReadRestart s)
  case readTrace => exact taking_kept h (kept_takeReadTrace s)
  case readKeys => exact taking_kept h (kept_takeReadKeys s)

/-- A release, which leaves board power on, keeps the contents of memory (R81). -/
theorem enterReleasing_mem (s : State) : (enterReleasing s).mem = s.mem := by
  unfold enterReleasing releaseBoard
  dsimp only
  split
  all_goals simp [changeRegime_mem, Regime.powered]

theorem finishReport_mem (doubtful : Bool) (s : State) : (finishReport doubtful s).mem = s.mem := by
  unfold finishReport
  split
  · rw [enterReleasing_mem]
    split <;> rfl
  · rfl

theorem endPass_mem (s : State) : (endPass s).mem = s.mem := by
  have hreport : (zeroSweepReport s).mem = s.mem := by
    unfold zeroSweepReport
    split <;> rfl
  unfold endPass
  dsimp only
  repeat' split
  all_goals simp [finishReport_mem, hreport]

theorem zeroWriteDone_mem (a : Access) (s : State) : (zeroWriteDone a s).mem = s.mem := by
  unfold zeroWriteDone nextStep
  split
  all_goals simp [endPass_mem]

theorem headerDone_mem (a : Access) (s : State) : (headerDone a s).mem = s.mem := by
  unfold headerDone releaseBoard
  dsimp only
  repeat' split
  all_goals simp [changeRegime_mem, Regime.powered]

/-- What the completion of a write comes to: the write at the port, and then what its requester does, which leaves memory
as it is and changes no part outside `touchedParts`. -/
theorem exec_of_completesWrite {i : Instr} {p : Purpose} (hi : completesWrite i = some p) :
    ∃ k : Access → State → State, (∀ s, exec i s = atWrite p s k) ∧
      (∀ a s, Kept (touchedParts i) s (k a s)) ∧ ∀ a s, (k a s).mem = s.mem := by
  have of_quiet {k : Access → State → State} (he : ∀ s, exec i s = atWrite p s k) (hk : ∀ a s, Kept [] s (k a s)) :
      ∃ k : Access → State → State, (∀ s, exec i s = atWrite p s k) ∧
        (∀ a s, Kept (touchedParts i) s (k a s)) ∧ ∀ a s, (k a s).mem = s.mem :=
    ⟨k, he, fun a s => (hk a s).mono (by simp), fun a s => hk a s .memory (by simp)⟩
  cases i <;> cases hi
  case frontWriteAccessComplete => exact of_quiet (fun _ => rfl) kept_frontWriteDone
  case migrationWriteComplete =>
    exact ⟨migrationWriteDone, fun _ => rfl, fun a s => (kept_migrationWriteDone a s).mono (by simp [touchedParts]),
      fun a s => kept_migrationWriteDone a s .memory (by simp)⟩
  case zeroWriteComplete => exact ⟨zeroWriteDone, fun _ => rfl, kept_zeroWriteDone, zeroWriteDone_mem⟩
  case ringHeaderWriteComplete => exact ⟨headerDone, fun _ => rfl, kept_headerDone, headerDone_mem⟩
  case fixRewriteComplete =>
    exact ⟨_, exec_fixRewriteComplete, fun a s => (kept_fixRewriteDone a s).mono (by simp [touchedParts]),
      fun a s => kept_fixRewriteDone a s .memory (by simp)⟩
  case patternWriteComplete => exact of_quiet exec_patternWriteComplete kept_patternWriteDone
  case completionWriteComplete => exact of_quiet exec_completionWriteComplete kept_completionWriteDone
  case doneWriteComplete => exact of_quiet exec_doneWriteComplete kept_doneWriteDone
  case diagWordWriteComplete => exact of_quiet exec_diagWordWriteComplete kept_diagWriteDone
  case eventEntryWordWriteComplete => exact of_quiet exec_eventEntryWordWriteComplete kept_entryWriteDone
  case produceWriteComplete =>
    exact ⟨_, exec_produceWriteComplete, fun a s => (kept_produceWriteDone a s).mono (by simp [touchedParts]),
      fun a s => kept_produceWriteDone a s .memory (by simp)⟩

/-- What the completion of a read comes to: the read at the port, and then what its requester does with the words, which
leaves memory as it is and changes no part outside `touchedParts`. -/
theorem exec_of_completesRead {i : Instr} {p : Purpose} {flips : List MemWord}
    (hi : completesRead i = some (p, flips)) :
    ∃ k : Access → List MemWord → State → State, (∀ s, exec i s = atRead p flips s k) ∧
      (∀ a ws s, Kept (touchedParts i) s (k a ws s)) ∧ ∀ a ws s, (k a ws s).mem = s.mem := by
  have of_detections (k : Access → List MemWord → State → State) (he : ∀ s, exec i s = atRead p flips s k)
      (hk : ∀ a ws s, Kept Part.detectionParts s (k a ws s)) (hsub : ∀ q ∈ Part.detectionParts, q ∈ touchedParts i) :
      ∃ k : Access → List MemWord → State → State, (∀ s, exec i s = atRead p flips s k) ∧
        (∀ a ws s, Kept (touchedParts i) s (k a ws s)) ∧ ∀ a ws s, (k a ws s).mem = s.mem :=
    ⟨k, he, fun a ws s => (hk a ws s).mono hsub, fun a ws s => hk a ws s .memory (by simp [Part.detectionParts])⟩
  cases i <;> cases hi
  case frontReadAccessComplete => exact of_detections _ (fun _ => rfl) kept_frontReadDone (fun _ => List.mem_cons_of_mem _)
  case frontMergeReadComplete => exact of_detections _ (fun _ => rfl) kept_frontMergeDone (fun _ => List.mem_cons_of_mem _)
  case fixPairReadComplete => exact of_detections _ (fun _ => rfl) kept_fixReadDone (fun _ => List.mem_cons_of_mem _)
  case sweepReadComplete => exact of_detections _ (fun _ => rfl) kept_sweepDone (fun _ => List.mem_cons_of_mem _)
  case migrationReadComplete => exact of_detections _ (fun _ => rfl) kept_migrationReadDone (fun _ => List.mem_cons_of_mem _)
  case readBackComplete => exact of_detections _ (fun _ => rfl) (kept_readBackDone _) (fun _ => List.mem_cons_of_mem _)
  case checkRangeReadComplete => exact of_detections _ (fun _ => rfl) kept_checkReadDone (fun _ => List.mem_cons_of_mem _)
  case commandFetchComplete =>
    exact ⟨fetchDone, fun _ => rfl, fun a ws s => (kept_fetchDone a ws s).mono (by simp),
      fun a ws s => kept_fetchDone a ws s .memory (by simp)⟩
  case diagWordReadComplete =>
    exact ⟨_, exec_diagWordReadComplete flips, fun a ws s => (kept_diagReadDone a ws s).mono (by simp),
      fun a ws s => kept_diagReadDone a ws s .memory (by simp)⟩

theorem memory_mem_touchedParts {i : Instr} {p : Purpose}
    (hi : completesWrite i = some p ∨ ∃ flips, completesRead i = some (p, flips)) : .memory ∈ touchedParts i := by
  cases i <;> simp [completesWrite, completesRead] at hi <;> simp [touchedParts, Part.regimeParts]

/-- The footprint of every completion of an access (R23). -/
theorem exec_kept_completion (p : Purpose) (i : Instr) (s t : State)
    (hi : completesWrite i = some p ∨ ∃ flips, completesRead i = some (p, flips)) (h : exec i s = .next t) :
    Kept (touchedParts i) s t := by
  have hport (m : Memory) : Kept (touchedParts i) s { s with port := none, mem := m } :=
    (kept_port s m).mono (by simpa using memory_mem_touchedParts hi)
  obtain hw | ⟨flips, hr⟩ := hi
  · obtain ⟨k, hexec, hk, -⟩ := exec_of_completesWrite hw
    obtain rfl | ⟨a, -, -, rfl⟩ := atWrite_cases (hexec s ▸ h)
    · exact Kept.refl _ _
    · exact ((hport _).andThen (kept_clearCarried a _)).trans (hk _ _)
  · obtain ⟨k, hexec, hk, -⟩ := exec_of_completesRead hr
    obtain rfl | ⟨a, -, -, rfl⟩ := atRead_cases (hexec s ▸ h)
    · exact Kept.refl _ _
    · exact (hport _).trans (hk _ _ _)

/-- The footprint of the taking of a report (R119, R178). -/
theorem exec_kept_report (i : Instr) (s t : State)
    (hi : i ∈ [.watchWriteReport, .watchReadReport, .refusedWriteReport, .ringSnoopReport])
    (h : exec i s = .next t) : Kept (touchedParts i) s t := by
  simp only [List.mem_cons, List.not_mem_nil, or_false] at hi
  obtain rfl | rfl | rfl | rfl := hi
  · cases h
    refine kept_takeReport s fun r s => ?_
    unfold takeWrite
    dsimp only
    split
    all_goals intro p hp; cases p <;> simp [touchedParts, Part.same] at hp ⊢
  · cases h
    refine kept_takeReport s fun r s => ?_
    intro p hp; cases p <;> simp [touchedParts, Part.same] at hp ⊢
  · cases h
    refine kept_takeReport s fun r s => ?_
    intro p hp; cases p <;> simp [touchedParts, Part.same] at hp ⊢
  · simp only [exec, execRingSnoopReport] at h
    repeat' split at h
    all_goals cases h; intro p hp; cases p <;> simp [touchedParts, Part.same] at hp ⊢

/-- The footprint of an event that can change the regime, other than the completion of an access. -/
theorem exec_kept_regime (i : Instr) (s t : State) (hi : completesWrite i = none) (hr : .control ∈ touchedParts i)
    (h : exec i s = .next t) : Kept (touchedParts i) s t := by
  cases i <;> simp [touchedParts, Part.detectionParts] at hr <;> simp only [completesWrite, reduceCtorEq] at hi
  case partPowerOn =>
    cases h
    intro p hp
    cases p
    case pending => rfl
    all_goals exact absurd (by simp [touchedParts, Part.all]) hp
  case configReadReply | configReadTimeout =>
    simp only [exec, execConfigReadReply, execConfigReadTimeout, loadDefaults] at h
    intro p hp
    cases p
    case pending => split at h <;> cases h <;> simp [Part.same, examineImage_pending, loadComplete_pending]
    all_goals exact absurd (by simp [touchedParts, Part.all]) hp
  case sensorReply | sensorTimeout | heatLimitExpiry | soakTimerExpiry | pulseTimerExpiry | offTimerExpiry =>
    simp only [exec, execSensorReply, execSensorTimeout, execHeatLimitExpiry, execSoakTimerExpiry,
      execPulseTimerExpiry, execOffTimerExpiry] at h
    split at h
    all_goals cases h; intro p hp; cases p <;> simp [touchedParts, Part.same, Part.regimeParts] at hp ⊢
  case resetInputEvent | restartRequest | holdRelease =>
    simp only [exec, execResetInputEvent, execRestartRequest, execHoldRelease, takePress, answerChord] at h
    repeat' split at h
    all_goals cases h; intro p hp; cases p <;> simp [touchedParts, Part.same, Part.regimeParts] at hp ⊢

/-- The footprint of the expiry of a timer other than the regime's. -/
theorem exec_kept_expiry (i : Instr) (s t : State)
    (hi : i ∈ [.scrubIntervalExpiry, .prepRetryExpiry, .pollTimerExpiry, .bootLimitExpiry, .warnWindowExpiry,
      .periodExpiry, .cmdWaitExpiry])
    (h : exec i s = .next t) : Kept (touchedParts i) s t := by
  simp only [List.mem_cons, List.not_mem_nil, or_false] at hi
  obtain rfl | rfl | rfl | rfl | rfl | rfl | rfl := hi
  all_goals
    simp only [exec, execScrubIntervalExpiry, execPrepRetryExpiry, execPollTimerExpiry, execBootLimitExpiry,
      execWarnWindowExpiry, execPeriodExpiry, warningNotice, execCmdWaitExpiry, waitEnds] at h
    repeat' split at h
    all_goals cases h; intro p hp; cases p <;> simp [touchedParts, Part.same] at hp ⊢

theorem kept_chordOutcome (which : Nat) (s t : State) (h : exec (.chordOutcome which) s = .next t) :
    Kept [.queue] s t := by
  simp only [exec, execChordOutcome] at h
  split at h
  all_goals cases h; intro p hp; cases p <;> simp [Part.same] at hp ⊢

theorem kept_scanSample (contacts : BitVec 64) (s t : State) (h : exec (.scanSample contacts) s = .next t) :
    Kept [.keys, .queue] s t := by
  simp only [exec, execScanSample] at h
  split at h
  all_goals rw [← Outcome.next.inj h]; intro p hp; cases p <;> simp [Part.same] at hp ⊢

theorem kept_toggle (s t : State) (h : exec .lampBlinkToggle s = .next t) : Kept [] s t := by
  simp only [exec, execLampBlinkToggle] at h
  split at h
  all_goals cases h; intro p hp; cases p <;> simp [Part.same]

theorem kept_sessionTimeTick (s t : State) (h : exec .sessionTimeTick s = .next t) : Kept [] s t := by
  simp only [exec, execSessionTimeTick] at h
  split at h
  all_goals cases h; intro p hp; cases p <;> simp [Part.same]

/-- The footprint of every command: it changes no part outside `touchedParts`. -/
theorem exec_kept {i : Instr} {s t : State} (h : exec i s = .next t) : Kept (touchedParts i) s t := by
  match hc : commandOf i, hw : completesWrite i, hr : completesRead i with
  | some c, _, _ => exact exec_kept_command c i s t hc h
  | none, some p, _ => exact exec_kept_completion p i s t (.inl hw) h
  | none, none, some (p, flips) => exact exec_kept_completion p i s t (.inr ⟨flips, hr⟩) h
  | none, none, none =>
    cases i <;> cases hc <;> cases hw <;> cases hr
    case read | write | lineRead | lineWrite => cases h; exact kept_frontAccept _ _ _ _ _
    case watchWriteReport | watchReadReport | refusedWriteReport | ringSnoopReport =>
      exact exec_kept_report _ s t (by simp) h
    case scrubIntervalExpiry | prepRetryExpiry | pollTimerExpiry | bootLimitExpiry | warnWindowExpiry | periodExpiry
        | cmdWaitExpiry => exact exec_kept_expiry _ s t (by simp) h
    case chordOutcome which => exact kept_chordOutcome which s t h
    case scanSample contacts => exact kept_scanSample contacts s t h
    case lampBlinkToggle => exact kept_toggle s t h
    case sessionTimeTick => exact kept_sessionTimeTick s t h
    case uptimeTick | resetInputLevelChange => cases h; intro p hp; cases p <;> simp [Part.same]
    all_goals exact exec_kept_regime _ s t rfl (by simp [touchedParts, Part.regimeParts, Part.all]) h

end Sys2Proof.Machine

/-! SUPPORT. The events that change the regime, packaged once: a predicate that a change of regime and the small updates
around it keep is kept by every one of them. -/

namespace Sys2Proof.Machine

open Host (Outcome)

/-- The parts are as they were, and so are the port, the arbiter, the scrubber's work and the repair unit. -/
structure Quiet (s t : State) : Prop where
  kept : Kept [] s t
  port : t.port = s.port
  arbiter : t.arbiter = s.arbiter
  activity : t.scrub.activity = s.scrub.activity
  fixList : t.scrub.fixList = s.scrub.fixList
  repair : t.repair = s.repair

/-- The part is past LOADING, or at its end with the loaded copy in place (R75). -/
def State.started (s : State) : Prop := s.loader.state = .loaded ∨ s.ctl.regime ≠ .loading

/-- A predicate that the changes to the allowed regimes keep, and with them the updates that accompany a change of
regime: the record and the hold release (R146, R149), a restart taken (R145), the heaters (R97 to R99), a notice, and
the end of a step. -/
structure RegimeClosed (allowed : Regime → Prop) (P : State → Prop) : Prop where
  quiet : ∀ {s t}, Quiet s t → P s → P t
  change : ∀ {s} new, allowed new → new ≠ .loading → s.started → P s → P (changeRegime new s)
  heaters : ∀ {s}, P s → P (evalHeaters s)
  notice : ∀ {s} b, P s → P (queueNotice b s)
  record : ∀ {s} cause requested kind, s.ctl.regime = .running ∨ s.ctl.regime = .restarting → P s →
    P (appendRecord cause requested kind s)
  pardon : ∀ {s}, P s → P { s with restarts := { s.restarts with escalation := [], coldCount := 0 } }
  finish : ∀ {s}, P s → P (finish s)

/-- The events that change the regime, but for part power-on, the end of LOADING and the completions of accesses. -/
def changesRegime : Instr → Bool
  | .heatLimitExpiry | .soakTimerExpiry | .pulseTimerExpiry | .offTimerExpiry | .resetInputEvent | .restartRequest _
  | .holdRelease _ | .sensorReply .. | .sensorTimeout => true
  | _ => false

/-- The events that can become a restart (R145). -/
def takesRestart : Instr → Bool
  | .resetInputEvent | .restartRequest _ => true
  | _ => false

/-- The regimes that such an event can lead to, but for those of a restart. -/
def leadsTo : Instr → List Regime
  | .heatLimitExpiry => [.soaking]
  | .soakTimerExpiry => [.preparing]
  | .pulseTimerExpiry => [.releasing, .running]
  | .offTimerExpiry | .resetInputEvent | .holdRelease _ => [.heating, .soaking]
  | .sensorReply .. | .sensorTimeout => [.heating, .soaking, .overheat]
  | _ => []

variable {allowed : Regime → Prop} {P : State → Prop}

theorem Quiet.refl (s : State) : Quiet s s := ⟨Kept.refl _ s, rfl, rfl, rfl, rfl, rfl⟩

theorem quiet_pending (s : State) (forced doubtful : Bool) (heatLimit : Timer) :
    Quiet s { s with ctl := { s.ctl with pendingForced := forced, pendingDoubtful := doubtful, heatLimit := heatLimit } } := by
  refine ⟨?_, rfl, rfl, rfl, rfl, rfl⟩
  intro p _; cases p <;> simp [Part.same]

theorem quiet_thermal (s : State) (readiness : Bool) (polling : Option Nat) (channels : List Channel) :
    Quiet s { s with thermal := { s.thermal with readiness := readiness, polling := polling, channels := channels } } := by
  refine ⟨?_, rfl, rfl, rfl, rfl, rfl⟩
  intro p _; cases p <;> simp [Part.same]

theorem quiet_reportCold (s : State) : Quiet s (reportCold s) := by
  refine ⟨?_, by simp, by simp, by simp, by simp, by simp⟩
  intro p _; cases p <;> simp [Part.same]

theorem quiet_lampError (s : State) (error : Bool) : Quiet s { s with lamp := { s.lamp with error := error } } := by
  refine ⟨?_, rfl, rfl, rfl, rfl, rfl⟩
  intro p _; cases p <;> simp [Part.same]

theorem quiet_headerStart (s : State) : Quiet s (headerStart s) := by
  refine ⟨?_, by simp, by simp, by simp, by simp, by simp⟩
  intro p _; cases p <;> simp [Part.same]

theorem quiet_answerChord (tag : Option ChordTag) (result : ChordResult) (s : State) :
    Quiet s (answerChord tag result s) := by
  unfold answerChord
  split
  · refine ⟨?_, rfl, rfl, rfl, rfl, rfl⟩
    intro p _; cases p <;> simp [Part.same]
  · exact Quiet.refl s

theorem quiet_messages (s : State) (resetInput : ResetInput) (requests : List RestartRequest)
    (holdReleases : List ChordTag) (headers : List Ring) :
    Quiet s { s with
      resetInput := resetInput, requests := requests, holdReleases := holdReleases, headers := headers } := by
  refine ⟨?_, rfl, rfl, rfl, rfl, rfl⟩
  intro p _; cases p <;> simp [Part.same]

/-- After its first change of regime an entry into HEATING only goes on to SOAKING (R76). -/
theorem RegimeClosed.enterHeating_of (h : RegimeClosed allowed P) (ha : allowed .soaking) {s : State}
    (hheating : P (changeRegime .heating s)) : P (enterHeating s) := by
  have hregime : (changeRegime .heating s).ctl.regime = .heating := changeRegime_regime _ _
  unfold Machine.enterHeating
  dsimp only
  generalize changeRegime .heating s = u at hheating hregime
  repeat' split
  · exact h.change .soaking ha (by decide) (.inr (by simp [hregime])) hheating
  · exact hheating
  · exact h.change .soaking ha (by decide) (.inr (by simp [hregime])) (h.quiet (quiet_pending u _ _ _) hheating)
  · exact h.quiet (quiet_pending u _ _ _) hheating

theorem RegimeClosed.enterHeating (h : RegimeClosed allowed P) (ha : allowed .heating ∧ allowed .soaking) {s : State}
    (hr : s.started) (hs : P s) : P (enterHeating s) :=
  h.enterHeating_of ha.2 (h.change .heating ha.1 (by decide) hr hs)

theorem RegimeClosed.enterReleasing (h : RegimeClosed allowed P) (ha : allowed .releasing ∧ allowed .running)
    {s : State} (hr : s.ctl.regime ≠ .loading) (hs : P s) : P (enterReleasing s) := by
  have hreleasing : P (headerStart (changeRegime .releasing { s with lamp := { s.lamp with error := false } })) :=
    h.quiet (quiet_headerStart _) (h.change .releasing ha.1 (by decide) (.inr hr) (h.quiet (quiet_lampError s false) hs))
  unfold Machine.enterReleasing releaseBoard
  dsimp only
  split
  · exact h.change .running ha.2 (by decide) (.inr (by simp [changeRegime_regime])) hreleasing
  · exact hreleasing

theorem RegimeClosed.takeOverheat (h : RegimeClosed allowed P) (ha : allowed .overheat) {s : State} (hs : P s) :
    P (takeOverheat s) := by
  unfold Machine.takeOverheat
  split
  · exact hs
  · exact hs
  · exact hs
  · next hr => exact h.change .overheat ha (by decide) (.inr (by simp [hr])) (h.record _ _ _ (.inl hr) hs)
  · next hr => exact h.change .overheat ha (by decide) (.inr (by simp [hr])) (h.record _ _ _ (.inr hr) hs)
  · next hr _ _ _ _ => exact h.change .overheat ha (by decide) (.inr hr) hs

theorem RegimeClosed.takeHoldRelease (h : RegimeClosed allowed P) (ha : allowed .heating ∧ allowed .soaking)
    {s : State} (hr : s.ctl.regime ≠ .loading) (hs : P s) : P (takeHoldRelease s) := by
  unfold Machine.takeHoldRelease
  exact h.enterHeating ha (.inr hr) (h.pardon hs)

theorem RegimeClosed.armHot (h : RegimeClosed allowed P) (k : Nat) {s : State} (hs : P s) : P (armHot k s) := by
  unfold Machine.armHot thermalNotice setChannel
  dsimp only
  repeat' split
  · exact h.notice _ (h.quiet (quiet_thermal s _ _ _) hs)
  · exact h.quiet (quiet_thermal s _ _ _) hs
  · exact hs

/-- The reports of a poll's end that can change the regime (R91). -/
theorem RegimeClosed.pollEnds (h : RegimeClosed allowed P)
    (ha : allowed .heating ∧ allowed .soaking ∧ allowed .overheat) (k : Nat) (floor : State → State)
    (hfloor : ∀ {s}, P s → P (floor s)) {s : State} (hs : P s) : P (pollEnds k floor s) := by
  have hready {s : State} (hs : P s) : P (reportReadiness s) := by
    unfold reportReadiness
    dsimp only
    repeat' split
    · exact hs
    · next hheating =>
      refine h.change .soaking ha.2.1 (by decide) ?_ (h.quiet (quiet_thermal s _ _ _) hs)
      simp only [Bool.and_eq_true, decide_eq_true_eq] at hheating
      exact .inr (by simp [hheating.2])
    · exact h.quiet (quiet_thermal s _ _ _) hs
  have hover {s : State} (hs : P s) : P (reportOverheat s) := by
    unfold reportOverheat
    split
    · exact h.takeOverheat ha.2.2 hs
    · exact hs
  have hresume {s : State} (hs : P s) : P (reportResume s) := by
    unfold reportResume
    split
    · next hover =>
      simp only [Bool.and_eq_true, decide_eq_true_eq] at hover
      exact h.enterHeating ⟨ha.1, ha.2.1⟩ (.inr (by simp [hover.2])) hs
    · exact hs
  unfold Machine.pollEnds
  dsimp only
  refine h.heaters (h.quiet (quiet_reportCold _) (h.armHot k (hfloor (hresume (hover (hready ?_))))))
  exact h.quiet (quiet_thermal s _ _ _) hs

theorem RegimeClosed.reportSoakFloor (h : RegimeClosed allowed P) (ha : allowed .heating ∧ allowed .soaking)
    (k : Nat) (x : Int) {s : State} (hs : P s) : P (reportSoakFloor k x s) := by
  unfold Machine.reportSoakFloor
  split
  · next hbroken =>
    simp only [Bool.and_eq_true, decide_eq_true_eq] at hbroken
    exact h.enterHeating ha (.inr (by simp [hbroken.1.2])) hs
  · exact hs

theorem RegimeClosed.pollTimesOut (h : RegimeClosed allowed P)
    (ha : allowed .heating ∧ allowed .soaking ∧ allowed .overheat) (k : Nat) {s : State} (hs : P s) :
    P (pollTimesOut k s) := by
  refine h.pollEnds ha k id (fun hs => hs) ?_
  unfold channelTimeout thermalNotice setChannel
  dsimp only
  repeat' split
  · exact hs
  · exact h.notice _ (h.quiet (quiet_thermal s _ _ _) hs)
  · exact h.quiet (quiet_thermal s _ _ _) hs

theorem RegimeClosed.takeReply (h : RegimeClosed allowed P)
    (ha : allowed .heating ∧ allowed .soaking ∧ allowed .overheat) (k : Nat) (x : Int) {s : State} (hs : P s) :
    P (takeReply k x s) := by
  unfold Machine.takeReply
  split
  · refine h.pollEnds ha k _ (h.reportSoakFloor ⟨ha.1, ha.2.1⟩ k x) ?_
    unfold channelReply thermalNotice setChannel
    dsimp only
    split
    · exact h.notice _ (h.quiet (quiet_thermal s _ _ _) hs)
    · exact h.quiet (quiet_thermal s _ _ _) hs
  · exact h.pollTimesOut ha k hs

theorem RegimeClosed.finishReport (h : RegimeClosed allowed P) (ha : allowed .releasing ∧ allowed .running)
    (doubtful : Bool) {s : State} (hs : P s) : P (finishReport doubtful s) := by
  unfold Machine.finishReport
  split
  · next hr =>
    split
    · exact h.enterReleasing ha (by simp [hr]) (h.quiet (quiet_pending s _ _ _) hs)
    · exact h.enterReleasing ha (by simp [hr]) hs
  · exact hs

/-- The completion of a header write, which releases the board after the last (R81, R177). -/
theorem RegimeClosed.headerDone (h : RegimeClosed allowed P) (ha : allowed .running) (a : Access) {s : State}
    (hs : P s) : P (headerDone a s) := by
  unfold Machine.headerDone releaseBoard
  dsimp only
  have hheaders : P { s with headers := s.headers.tail } := h.quiet (quiet_messages s _ _ _ _) hs
  repeat' split
  · next hr _ => exact h.finish (h.change .running ha (by decide) (.inr (by simp [hr])) hheaders)
  · exact h.finish hheaders
  · exact h.finish hs

/-- A predicate that a change of regime keeps is kept by every event that changes the regime. -/
theorem RegimeClosed.exec (h : RegimeClosed allowed P)
    (hadmit : ∀ {s}, s.ctl.regime = .soaking → P s → P (admitHeaters true s))
    {i : Instr} (hrestart : takesRestart i = true →
      ∀ {s} cause cold, s.ctl.regime = .running → P s → P (takeRestart cause cold s))
    {s t : State} (hi : changesRegime i = true) (ha : ∀ r ∈ leadsTo i, allowed r) (hs : P s) (he : exec i s = .next t) : P t := by
  cases i <;> cases hi <;> simp only [leadsTo, List.forall_mem_cons, List.not_mem_nil, false_implies, implies_true,
    and_true] at ha
  case heatLimitExpiry =>
    simp only [Machine.exec, execHeatLimitExpiry] at he
    split at he
    · next hr =>
      rw [← Outcome.next.inj he]
      exact h.finish (h.change .soaking ha (by decide) (.inr (by simp [hr.2])) (h.quiet (quiet_pending s _ _ _) hs))
    · exact Outcome.next.inj he ▸ hs
  case soakTimerExpiry =>
    simp only [Machine.exec, execSoakTimerExpiry] at he
    split at he
    · next hr =>
      rw [← Outcome.next.inj he]
      exact h.finish (h.change .preparing ha (by decide) (.inr (by simp [hr.2])) (hadmit hr.2 hs))
    · exact Outcome.next.inj he ▸ hs
  case pulseTimerExpiry =>
    simp only [Machine.exec, execPulseTimerExpiry] at he
    split at he
    · next hr =>
      rw [← Outcome.next.inj he]
      exact h.finish (h.enterReleasing ha (by simp [hr.2]) hs)
    · exact Outcome.next.inj he ▸ hs
  case offTimerExpiry =>
    simp only [Machine.exec, execOffTimerExpiry] at he
    split at he
    · next hr =>
      rw [← Outcome.next.inj he]
      exact h.finish (h.enterHeating ha (.inr (by simp [hr.2])) hs)
    · exact Outcome.next.inj he ▸ hs
  case resetInputEvent =>
    simp only [Machine.exec, execResetInputEvent] at he
    have htaken : P { s with resetInput := { s.resetInput with filtered := s.resetInput.raw, filtering := false } } :=
      h.quiet (quiet_messages s _ _ _ _) hs
    split at he
    · rw [← Outcome.next.inj he]
      refine h.finish ?_
      split
      · unfold takePress
        split
        · next hr => exact hrestart rfl _ _ hr htaken
        · next hr => exact h.takeHoldRelease ha (by simp_all) htaken
        · exact htaken
      · exact htaken
    · exact Outcome.next.inj he ▸ hs
  case restartRequest which =>
    simp only [Machine.exec, execRestartRequest] at he
    have htaken : P { s with requests := s.requests.eraseIdx which } := h.quiet (quiet_messages s _ _ _ _) hs
    split at he
    · rw [← Outcome.next.inj he]
      refine h.finish ?_
      split
      · next hr => exact h.quiet (quiet_answerChord _ _ _) (hrestart rfl _ _ hr htaken)
      · exact h.quiet (quiet_answerChord _ _ _) htaken
    · exact Outcome.next.inj he ▸ hs
  case holdRelease which =>
    simp only [Machine.exec, execHoldRelease] at he
    have htaken : P { s with holdReleases := s.holdReleases.eraseIdx which } := h.quiet (quiet_messages s _ _ _ _) hs
    split at he
    · rw [← Outcome.next.inj he]
      refine h.finish ?_
      split
      · next hr =>
        exact h.quiet (quiet_answerChord _ _ _) (h.takeHoldRelease ha (by simp [hr]) htaken)
      · exact h.quiet (quiet_answerChord _ _ _) htaken
    · exact Outcome.next.inj he ▸ hs
  case sensorReply channel reading =>
    simp only [Machine.exec, execSensorReply] at he
    split at he
    · rw [← Outcome.next.inj he]
      exact h.finish (h.takeReply ha _ _ hs)
    · exact Outcome.next.inj he ▸ hs
  case sensorTimeout =>
    simp only [Machine.exec, execSensorTimeout] at he
    split at he
    · rw [← Outcome.next.inj he]
      exact h.finish (h.pollTimesOut ha _ hs)
    · exact Outcome.next.inj he ▸ hs

/-! ## The end of LOADING -/

/-- The state at the end of LOADING, before the entry into HEATING (R75). -/
def loadedState (loaded : Settings) (defaults isPartial : Bool) (s : State) : State :=
  beginRound { s with
    loader := { s.loader with
      state := .loaded, loaded := some loaded, defaultsFlag := defaults, partialFlag := isPartial }
    windows := loaded.windows
    watch := { s.watch with entries := loaded.watches, hits := 0 }
    keypad := { s.keypad with
      map := loaded.keys
      chords := loaded.chords.map fun c => { ChordRecord.initial with chord := c }
      scanTimer := .running loaded.scanPeriod }
    thermal := { s.thermal with pollTimer := .running loaded.sensorPeriod } }

theorem loadComplete_eq (loaded : Settings) (defaults isPartial : Bool) (s : State) :
    loadComplete loaded defaults isPartial s = enterHeating (loadedState loaded defaults isPartial s) := rfl

/-- The loaded copies there can be: the built-in defaults, and what validation makes of an image (R193, R195). -/
def Loadable (loaded : Settings) : Prop :=
  ∃ straps : Nat, loaded = builtIn straps ∨ ∃ b : List Byte, loaded = (validate b straps).1

theorem quiet_buffer (s : State) (b : List Byte) : Quiet s { s with loader := { s.loader with buffer := b } } := by
  refine ⟨?_, rfl, rfl, rfl, rfl, rfl⟩
  intro p _; cases p <;> simp [Part.same]

/-- A predicate that the end of LOADING keeps is kept by every event of the config link (R192). -/
theorem RegimeClosed.configLink_of (h : RegimeClosed allowed P) (ha : allowed .soaking)
    (hload : ∀ {s} loaded defaults isPartial, Loadable loaded → s.loader.state = .reading → P s →
      P (changeRegime .heating (loadedState loaded defaults isPartial s)))
    {i : Instr} {s t : State} (hi : (∃ data straps, i = .configReadReply data straps) ∨ ∃ straps, i = .configReadTimeout straps)
    (hs : P s) (he : Machine.exec i s = .next t) : P t := by
  have hcomplete {s : State} (loaded : Settings) (defaults isPartial : Bool) (hl : Loadable loaded)
      (hreading : s.loader.state = .reading) (hs : P s) : P (loadComplete loaded defaults isPartial s) :=
    h.enterHeating_of ha (hload loaded defaults isPartial hl hreading hs)
  obtain ⟨data, straps, rfl⟩ | ⟨straps, rfl⟩ := hi
  · simp only [Machine.exec, execConfigReadReply] at he
    split at he
    · next hreading =>
      rw [← Outcome.next.inj he]
      refine h.finish ?_
      have hbuffer := h.quiet (quiet_buffer s ((s.loader.buffer ++ data).take 2048)) hs
      unfold examineImage loadDefaults
      dsimp only
      repeat' split
      · exact hbuffer
      · exact hcomplete _ _ _ ⟨_, .inl rfl⟩ hreading hbuffer
      · exact hbuffer
      · exact hcomplete _ _ _ ⟨_, .inl rfl⟩ hreading hbuffer
      · exact hcomplete _ _ _ ⟨_, .inr ⟨_, rfl⟩⟩ hreading hbuffer
    · exact Outcome.next.inj he ▸ hs
  · simp only [Machine.exec, execConfigReadTimeout, loadDefaults] at he
    split at he
    · next hreading =>
      rw [← Outcome.next.inj he]
      exact h.finish (hcomplete _ _ _ ⟨_, .inl rfl⟩ hreading hs)
    · exact Outcome.next.inj he ▸ hs

theorem RegimeClosed.configLink (h : RegimeClosed allowed P) (ha : allowed .heating ∧ allowed .soaking)
    (hload : ∀ {s} loaded defaults isPartial, Loadable loaded → s.loader.state = .reading → P s →
      P (loadedState loaded defaults isPartial s))
    {i : Instr} {s t : State} (hi : (∃ data straps, i = .configReadReply data straps) ∨ ∃ straps, i = .configReadTimeout straps)
    (hs : P s) (he : Machine.exec i s = .next t) : P t := by
  refine h.configLink_of ha.2 (fun loaded defaults isPartial hl hreading hs => ?_) hi hs he
  exact h.change .heating ha.1 (by decide) (.inl rfl) (hload loaded defaults isPartial hl hreading hs)

end Sys2Proof.Machine

/-! SUPPORT. The queue, part power-on and the contents of memory: what a step takes, what a completion stores or reads,
and that nothing else touches memory but the loss of board power. -/

namespace Sys2Proof.Machine

open Host (Outcome)

/-! ## The queue, and the state at reset -/

/-- What every command keeps, every step keeps, where taking a command from the queue does not matter. -/
theorem step_keeps {P Q : State → Prop} (hrest : ∀ s rest, P s → P { s with pending := rest })
    (hidle : ∀ s, P s → Q s) (hexec : ∀ {i s t}, P s → exec i s = .next t → Q t) {s t : State} (hs : P s)
    (h : step s = .next t) : Q t := by
  unfold step at h
  split at h
  · cases h
    exact hidle s hs
  · exact hexec (hrest s _ hs) h

/-- Settles O1: the two cases of a step. -/
theorem stepTakesFront : Obligations.StepTakesFront := by
  constructor
  · intro s c rest hqueue
    simp only [step, hqueue]
  · intro s hqueue
    simp only [step, hqueue]

/-- Settles O2: the values of the state at reset, one by one. -/
theorem partPowerOn : Obligations.PartPowerOn := by
  refine ⟨exec_partPowerOn, ?_⟩
  refine ⟨rfl, rfl, rfl, rfl, rfl, rfl, rfl, rfl, rfl, rfl, rfl, rfl, rfl, rfl, rfl, rfl, rfl, rfl, rfl, ?arbiter, rfl,
    rfl, rfl, rfl, rfl, rfl, rfl, rfl, rfl, rfl, rfl, rfl, rfl, rfl, rfl, rfl, rfl, rfl, rfl, rfl, rfl, rfl, rfl, rfl,
    rfl, rfl, rfl, ?keys, ?chords, rfl, rfl, rfl, rfl, rfl, rfl, rfl, rfl, rfl, rfl⟩
  case arbiter =>
    intro q
    cases q <;> rfl
  case keys => decide
  case chords => decide

/-! ## Memory after a completion -/

/-- The completion of a write that lies within memory (R23). -/
theorem atWrite_inMemory (p : Purpose) (s : State) (k : Access → State → State) (a : Access) (hport : s.port = some a)
    (hp : a.purpose = p) (hin : s.inMemory a = true) : atWrite p s k =
      .next (k a (clearCarried a { s with port := none, mem := writeWords a.words (s.accessAddress a) s.mem })) := by
  simp [atWrite, hport, hp, hin]

theorem atWrite_outside (p : Purpose) (s : State) (k : Access → State → State) (a : Access) (hport : s.port = some a)
    (hp : a.purpose = p) (hin : s.inMemory a = false) : atWrite p s k = .fault .addressOutsideMemory := by
  simp [atWrite, hport, hp, hin]

theorem atWrite_idle (p : Purpose) (s : State) (k : Access → State → State)
    (hport : ∀ a, s.port = some a → a.purpose ≠ p) : atWrite p s k = .next s := by
  unfold atWrite
  split
  · rfl
  · next a ha => rw [if_neg (hport a ha)]

/-- The completion of a read that lies within memory (R23). -/
theorem atRead_inMemory (p : Purpose) (flips : List MemWord) (s : State) (k : Access → List MemWord → State → State)
    (a : Access) (hport : s.port = some a) (hp : a.purpose = p) (hin : s.inMemory a = true) : atRead p flips s k =
      .next (k a (readWords s.memEpoch flips (s.accessAddress a) a.count s.mem).1
        { s with port := none, mem := (readWords s.memEpoch flips (s.accessAddress a) a.count s.mem).2 }) := by
  simp [atRead, hport, hp, hin]

theorem atRead_outside (p : Purpose) (flips : List MemWord) (s : State) (k : Access → List MemWord → State → State)
    (a : Access) (hport : s.port = some a) (hp : a.purpose = p) (hin : s.inMemory a = false) :
    atRead p flips s k = .fault .addressOutsideMemory := by
  simp [atRead, hport, hp, hin]

theorem atRead_idle (p : Purpose) (flips : List MemWord) (s : State) (k : Access → List MemWord → State → State)
    (hport : ∀ a, s.port = some a → a.purpose ≠ p) : atRead p flips s k = .next s := by
  unfold atRead
  split
  · rfl
  · next a ha => rw [if_neg (hport a ha)]

/-- Settles O4: every completion is a read or a write at the port, whose requester leaves memory as it is; what is read
is `readWords_spec`. -/
theorem accessCompletes : Obligations.AccessCompletes := by
  refine ⟨?writes, ?reads, ?idle, fun epoch flips a n m => readWords_spec epoch flips a n m⟩
  case writes =>
    intro c p s a hc hport hp
    obtain ⟨k, hexec, -, hmem⟩ := exec_of_completesWrite hc
    constructor
    · intro hin
      refine ⟨_, (hexec s).trans (atWrite_inMemory p s k a hport hp hin), fun x hx => ?_, fun j hj => ?_⟩
      · rw [hmem, (clearCarried_frame a _).2.2.2.2.2.2.2.2.2.2.1]
        exact read_writeWords_other _ _ _ _ hx
      · rw [hmem, (clearCarried_frame a _).2.2.2.2.2.2.2.2.2.2.1]
        exact read_writeWords_at _ _ _ _ hj
    · exact fun hin => (hexec s).trans (atWrite_outside p s k a hport hp hin)
  case reads =>
    intro c p flips s a hc hport hp
    obtain ⟨k, hexec, -, hmem⟩ := exec_of_completesRead hc
    constructor
    · intro hin
      refine ⟨_, (hexec s).trans (atRead_inMemory p flips s k a hport hp hin), hmem _ _ _, ?_⟩
      rintro rfl
      exact (hmem _ _ _).trans (readWords_noFlip _ _ _ _)
    · exact fun hin => (hexec s).trans (atRead_outside p flips s k a hport hp hin)
  case idle =>
    rintro c p s (hc | ⟨flips, hc⟩) hport
    · obtain ⟨k, hexec, -, -⟩ := exec_of_completesWrite hc
      exact (hexec s).trans (atWrite_idle p s k hport)
    · obtain ⟨k, hexec, -, -⟩ := exec_of_completesRead hc
      exact (hexec s).trans (atRead_idle p flips s k hport)

/-! ## Memory otherwise: kept, unless board power is lost -/

/-- The contents of memory are as they were, or board power is off and nothing defined is left (assumption log 5). -/
def MemoryKeptOrLost (s t : State) : Prop :=
  t.mem = s.mem ∨ (t.mem = [] ∧ t.ctl.power = false ∧ t.ctl.regime.powered = false)

theorem MemoryKeptOrLost.of_same {s t u : State} (hmem : u.mem = t.mem) (hpower : u.ctl.power = t.ctl.power)
    (hregime : u.ctl.regime = t.ctl.regime) (h : MemoryKeptOrLost s t) : MemoryKeptOrLost s u := by
  unfold MemoryKeptOrLost
  rwa [hmem, hpower, hregime]

/-- A change to a regime with board power off keeps or loses the contents (R73). -/
theorem MemoryKeptOrLost.changeRegime {s t : State} (h : MemoryKeptOrLost s t) (new : Regime)
    (hnew : new.powered = false) : MemoryKeptOrLost s (changeRegime new t) := by
  unfold MemoryKeptOrLost
  rw [changeRegime_mem, changeRegime_power, changeRegime_regime, hnew]
  obtain hkept | ⟨hlost, -⟩ := h
  · split
    · exact .inr ⟨rfl, rfl, rfl⟩
    · exact .inl hkept
  · simp [hlost]

theorem regimeClosed_memoryKeptOrLost (s : State) :
    RegimeClosed (fun r => r.powered = false) (MemoryKeptOrLost s) where
  quiet hquiet h :=
    have hcontrol := hquiet.kept .control (by simp)
    h.of_same (hquiet.kept .memory (by simp)) hcontrol.2.1 hcontrol.1
  change new hnew _ _ h := h.changeRegime new hnew
  heaters h := h.of_same (by simp) (by simp) (by simp)
  notice _ h := h.of_same (by simp) (by simp) (by simp)
  record _ _ _ _ h := h.of_same (by simp) (by simp) (by simp)
  pardon h := h.of_same rfl rfl rfl
  finish h := h.of_same (by simp) (by simp) (by simp)

/-- A change to a regime with board power on keeps the contents (R73). -/
theorem changeRegime_mem_of_powered (new : Regime) (s : State) (hnew : new.powered = true) :
    (changeRegime new s).mem = s.mem := by
  simp [changeRegime_mem, hnew]

theorem regimeClosed_mem (m : Memory) : RegimeClosed (fun r => r.powered = true) (fun t => t.mem = m) where
  quiet hquiet h := (hquiet.kept .memory (by simp)).trans h
  change new hnew _ _ h := (changeRegime_mem_of_powered new _ hnew).trans h
  heaters h := by simpa using h
  notice _ h := by simpa using h
  record _ _ _ _ h := by simpa using h
  pardon h := h
  finish h := by simpa using h

/-- A restart, which is taken in RUNNING, keeps the contents, or loses them with board power (R145, R148). -/
theorem memoryKeptOrLost_takeRestart (cause : RestartCause) (cold : Bool) (s t : State)
    (hr : t.ctl.regime = .running) (h : MemoryKeptOrLost s t) : MemoryKeptOrLost s (takeRestart cause cold t) := by
  have hmem : t.mem = s.mem := h.resolve_right (by simp [hr, Regime.powered])
  have hregime (kind : RestartKind) (u : State) (hu : u.mem = t.mem) :
      MemoryKeptOrLost s (changeRegime kind.regime u) := by
    cases kind with
    | warm => exact .inl ((changeRegime_mem_of_powered _ u rfl).trans (hu.trans hmem))
    | cold | halt | thermal => exact MemoryKeptOrLost.changeRegime (.inl (hu.trans hmem)) _ rfl
  unfold takeRestart
  dsimp only
  exact (hregime _ _ (by simp)).of_same rfl rfl rfl

/-- Every event that changes the regime keeps the contents, or loses them with board power (R73). -/
theorem exec_memoryKeptOrLost_regime {i : Instr} {s t : State} (hi : changesRegime i = true)
    (h : exec i s = .next t) : MemoryKeptOrLost s t := by
  by_cases hoff : ∀ r ∈ leadsTo i, r.powered = false
  · exact (regimeClosed_memoryKeptOrLost s).exec (fun _ hs => hs.of_same (by simp) (by simp) (by simp))
      (fun _ => (memoryKeptOrLost_takeRestart · · s _)) hi hoff (.inl rfl) h
  · have hpowered : (∀ r ∈ leadsTo i, r.powered = true) ∧ takesRestart i = false := by
      cases i <;> simp_all [leadsTo, Regime.powered, changesRegime, takesRestart]
    exact .inl ((regimeClosed_mem s.mem).exec (fun _ hs => by simpa using hs) (by simp [hpowered.2]) hi hpowered.1 rfl h)

/-- Every command that completes no access keeps the contents of memory or loses them with board power, part power-on
included (R73, R196). -/
theorem exec_memoryKeptOrLost {i : Instr} {s t : State} (hw : completesWrite i = none) (hr : completesRead i = none)
    (h : exec i s = .next t) : t.mem = s.mem ∨ (t.mem = [] ∧ t.ctl.power = false) := by
  have of_keptOrLost (hs : MemoryKeptOrLost s t) : t.mem = s.mem ∨ (t.mem = [] ∧ t.ctl.power = false) :=
    hs.imp_right fun ⟨hmem, hpower, _⟩ => ⟨hmem, hpower⟩
  by_cases hc : changesRegime i = true
  · exact of_keptOrLost (exec_memoryKeptOrLost_regime hc h)
  by_cases hm : .memory ∈ touchedParts i
  · cases i <;> simp [touchedParts, changesRegime, completesWrite, completesRead, Part.all, Part.detectionParts] at hm hc hw hr
    case partPowerOn =>
      cases h
      exact .inr ⟨rfl, rfl⟩
    case configReadReply data straps =>
      exact of_keptOrLost ((regimeClosed_memoryKeptOrLost s).configLink ⟨rfl, rfl⟩
        (fun _ _ _ _ _ hs => hs.of_same rfl rfl rfl) (.inl ⟨data, straps, rfl⟩) (.inl rfl) h)
    case configReadTimeout straps =>
      exact of_keptOrLost ((regimeClosed_memoryKeptOrLost s).configLink ⟨rfl, rfl⟩
        (fun _ _ _ _ _ hs => hs.of_same rfl rfl rfl) (.inr ⟨straps, rfl⟩) (.inl rfl) h)
  · exact .inl (exec_kept h .memory hm)

/-- Settles O5: no command's footprint has the queue; only completions touch memory, or what switches power off. -/
theorem commandsKeep : Obligations.CommandsKeep := by
  constructor
  · intro c s t h
    refine exec_kept h .pending ?_
    cases c <;> simp [touchedParts, Part.all, Part.detectionParts, Part.regimeParts]
  · exact fun c s t hw hr h => exec_memoryKeptOrLost hw hr h

/-! ## The canonical form of memory -/

theorem exec_wf {i : Instr} {s t : State} (hs : Memory.wf s.mem = true) (h : exec i s = .next t) :
    Memory.wf t.mem = true := by
  match hw : completesWrite i, hr : completesRead i with
  | some p, _ =>
    obtain ⟨k, hexec, -, hmem⟩ := exec_of_completesWrite hw
    obtain rfl | ⟨a, -, -, rfl⟩ := atWrite_cases (hexec s ▸ h)
    · exact hs
    · rw [hmem, (clearCarried_frame a _).2.2.2.2.2.2.2.2.2.2.1]
      exact wf_writeWords _ _ _ hs
  | none, some (p, flips) =>
    obtain ⟨k, hexec, -, hmem⟩ := exec_of_completesRead hr
    obtain rfl | ⟨a, -, -, rfl⟩ := atRead_cases (hexec s ▸ h)
    · exact hs
    · rw [hmem]
      exact wf_readWords _ _ _ _ _ hs
  | none, none =>
    obtain hmem | ⟨hmem, -⟩ := exec_memoryKeptOrLost hw hr h
    · rwa [hmem]
    · rw [hmem]
      rfl

/-- Settles O56: stores and failed bits keep the form, and whatever else changes memory empties it. -/
theorem keepsMemoryForm : Obligations.KeepsMemoryForm :=
  fun _ _ hs h => step_keeps (P := fun s => Memory.wf s.mem = true) (Q := fun s => Memory.wf s.mem = true)
    (fun _ _ hs => hs) (fun _ hs => hs) exec_wf hs h

theorem legalWindows_empty (usable : Nat) : legalWindows usable (List.replicate 16 none) := by
  refine ⟨rfl, fun w h => ?_, fun i j v w _ hi _ => ?_⟩
  · simp at h
  · simpa using List.mem_of_getElem? hi

theorem clearOf_none (reserved : Option Nat) : clearOf reserved none := fun _ h => nomatch h

/-- Settles O3: the laws of the state at reset, one by one. -/
theorem resetLawful : Obligations.ResetLawful := by
  refine ⟨?regime, ?powerOff, wf_reset, ?reservation, ?dog, ?queue, ?keypad, ?log, ?budget, ?table, ?history, ?windows⟩
  case regime => exact ⟨by decide, by decide⟩
  case powerOff => exact fun _ => ⟨rfl, rfl, rfl, rfl, rfl, rfl, rfl⟩
  case reservation => exact ⟨clearOf_none _, clearOf_none _, clearOf_none _, clearOf_none _⟩
  case dog => exact fun _ => ⟨rfl, rfl, rfl⟩
  case queue => exact ⟨by decide, fun _ _ h => (List.not_mem_nil h).elim⟩
  case keypad => exact keypadLaw_silent _ (by decide)
  case log => exact ⟨by decide, by decide⟩
  case budget => exact ⟨by decide, by decide, fun _ => ⟨rfl, rfl⟩⟩
  case table => exact ⟨.nil, .nil, fun _ h => (List.not_mem_nil h).elim, fun _ h => nomatch h⟩
  case history =>
    exact ⟨by decide, by decide, by decide, by decide, fun _ => ⟨rfl, rfl, rfl, rfl⟩, by decide,
      fun _ h => (List.not_mem_nil h).elim⟩
  case windows => exact ⟨legalWindows_empty _, legalWindows_empty _⟩

end Sys2Proof.Machine

/-! SUPPORT. The arbiter: the choice among the waiting requests, the grant, and what a grant leaves (R24). -/

namespace Sys2Proof.Machine

/-! ## The waiting requests -/

theorem mem_waiting_iff (a : Arbiter) (r : Requester) (w : Waiting) : (r, w) ∈ a.waiting ↔ a.get r = some w := by
  simp only [Arbiter.waiting, List.mem_filterMap, Option.map_eq_some_iff, Prod.mk.injEq]
  constructor
  · rintro ⟨_, -, _, hget, rfl, rfl⟩
    exact hget
  · exact fun hget => ⟨r, by cases r <;> simp [Requester.byPriority], w, hget, rfl, rfl⟩

/-- The waiting requests stand in the order of priority (R24). -/
theorem waiting_sorted (a : Arbiter) : a.waiting.Pairwise fun x y => x.1.rank < y.1.rank := by
  rw [Arbiter.waiting, List.pairwise_filterMap]
  refine List.Pairwise.imp (R := fun r r' => Requester.rank r < Requester.rank r') ?_ (by decide)
  rintro r r' hrank x hx y hy
  simp only [Option.map_eq_some_iff] at hx hy
  obtain ⟨w, -, rfl⟩ := hx
  obtain ⟨w', -, rfl⟩ := hy
  exact hrank

/-- In a list in priority order, the request chosen has the highest count, and of equal counts the highest priority. -/
theorem longest_spec (xs : List (Requester × Waiting)) (x : Requester × Waiting)
    (hsorted : xs.Pairwise fun x y => x.1.rank < y.1.rank) (h : longest xs = some x) :
    x ∈ xs ∧ ∀ y ∈ xs, y.2.passed < x.2.passed ∨ (y.2.passed = x.2.passed ∧ x.1.rank ≤ y.1.rank) := by
  induction xs generalizing x with
  | nil => cases h
  | cons z zs ih =>
    obtain ⟨hhead, htail⟩ := List.pairwise_cons.1 hsorted
    simp only [longest] at h
    match hlongest : longest zs with
    | none =>
      rw [hlongest] at h
      cases h
      cases zs with
      | nil => simp
      | cons y ys =>
        simp only [longest] at hlongest
        split at hlongest
        · cases hlongest
        · split at hlongest <;> cases hlongest
    | some y =>
      rw [hlongest] at h
      obtain ⟨hmem, hbest⟩ := ih y htail hlongest
      dsimp only at h
      split at h
      · next hless =>
        cases h
        refine ⟨List.mem_cons_of_mem _ hmem, fun v hv => ?_⟩
        obtain rfl | hv := List.mem_cons.1 hv
        · exact .inl hless
        · exact hbest v hv
      · next hge =>
        cases h
        refine ⟨List.mem_cons_self, fun v hv => ?_⟩
        obtain rfl | hv := List.mem_cons.1 hv
        · exact .inr ⟨rfl, Nat.le_refl _⟩
        · have hrank := hhead v hv
          have hcount := hbest v hv
          omega

theorem longest_eq_none_iff (xs : List (Requester × Waiting)) : longest xs = none ↔ xs = [] := by
  cases xs with
  | nil => simp [longest]
  | cons x xs =>
    simp only [longest, reduceCtorEq, iff_false]
    split
    · simp
    · split <;> simp

/-- The arbiter's choice (R24). -/
theorem pick_spec (a : Arbiter) (r : Requester) (w : Waiting) (h : a.pick = some (r, w)) :
    a.get r = some w ∧
    (∀ r' w', a.get r' = some w' → 16 ≤ w'.passed → 16 ≤ w.passed) ∧
    (16 ≤ w.passed → ∀ r' w', a.get r' = some w' →
      w'.passed < w.passed ∨ (w'.passed = w.passed ∧ r.rank ≤ r'.rank)) ∧
    (w.passed < 16 → ∀ r' w', a.get r' = some w' → r.rank ≤ r'.rank) := by
  unfold Arbiter.pick at h
  have long_of {r' w'} (hget : a.get r' = some w') (hlong : 16 ≤ w'.passed) :
      (r', w') ∈ a.waiting.filter fun x => decide (16 ≤ x.2.passed) :=
    List.mem_filter.2 ⟨(mem_waiting_iff a r' w').2 hget, by simpa using hlong⟩
  split at h
  · next x hx =>
    cases h
    obtain ⟨hmem, hbest⟩ := longest_spec _ _ ((waiting_sorted a).filter _) hx
    obtain ⟨hmem, hlong⟩ := List.mem_filter.1 hmem
    simp only [decide_eq_true_eq] at hlong
    refine ⟨(mem_waiting_iff a r w).1 hmem, fun _ _ _ _ => hlong, fun _ r' w' hget => ?_, fun hshort => by omega⟩
    by_cases hlong' : 16 ≤ w'.passed
    · exact hbest (r', w') (long_of hget hlong')
    · exact .inl (by omega)
  · next hnone =>
    have hshort {r' w'} (hget : a.get r' = some w') : w'.passed < 16 := by
      refine Classical.byContradiction fun hlong => ?_
      have hmem := long_of hget (by omega)
      rw [(longest_eq_none_iff _).1 hnone] at hmem
      cases hmem
    obtain ⟨rest, hwaiting⟩ := List.head?_eq_some_iff.1 h
    have hget : a.get r = some w := (mem_waiting_iff a r w).1 (hwaiting ▸ List.mem_cons_self)
    have hsorted := waiting_sorted a
    rw [hwaiting] at hsorted
    refine ⟨hget, fun r' w' hget' hlong => ?_, fun hlong => ?_, fun _ r' w' hget' => ?_⟩
    · have := hshort hget'
      omega
    · have := hshort hget
      omega
    · have hmem := (mem_waiting_iff a r' w').2 hget'
      rw [hwaiting] at hmem
      obtain heq | hmem := List.mem_cons.1 hmem
      · cases heq
        exact Nat.le_refl _
      · exact Nat.le_of_lt ((List.pairwise_cons.1 hsorted).1 _ hmem)

theorem get_of_pick_none (a : Arbiter) (h : a.pick = none) (r : Requester) : a.get r = none := by
  unfold Arbiter.pick at h
  split at h
  · cases h
  · refine Classical.byContradiction fun hsome => ?_
    obtain ⟨w, hget⟩ := Option.ne_none_iff_exists'.1 hsome
    have hmem := (mem_waiting_iff a r w).2 hget
    rw [List.head?_eq_none_iff.1 h] at hmem
    cases hmem

/-! ## The grant -/

theorem afterGrant_get_same (a : Arbiter) (r : Requester) : (a.afterGrant r).get r = none := by cases r <;> rfl

theorem afterGrant_get_other (a : Arbiter) (r r' : Requester) (h : r' ≠ r) :
    (a.afterGrant r).get r' = passedOver (a.get r') := by
  cases r <;> cases r' <;> simp at h <;> rfl

@[simp] theorem granted_port (r : Requester) (a : Access) (s : State) : (granted r a s).port = s.port := by
  simp only [granted_frame]

@[simp] theorem granted_arbiter (r : Requester) (a : Access) (s : State) : (granted r a s).arbiter = s.arbiter := by
  simp only [granted_frame]

/-- With the port busy, board power off or nothing waiting, there is no grant (R24). -/
theorem grant_none (s : State) (h : s.port.isSome = true ∨ s.ctl.power = false ∨ s.arbiter.pick = none) :
    grant s = s := by
  unfold grant
  split
  · rfl
  · next hfree =>
    have hpick : s.arbiter.pick = none := by
      simp only [Bool.or_eq_true, Bool.not_eq_true', not_or, Bool.not_eq_true, Bool.not_eq_false] at hfree
      obtain h | h | h := h
      · simp [hfree.1] at h
      · simp [hfree.2] at h
      · exact h
    rw [hpick]

/-- Settles O6: the arbiter's choice is `pick_spec`, and a grant is `grant_made`. -/
theorem arbiterGrants : Obligations.ArbiterGrants := by
  refine ⟨pick_spec, get_of_pick_none, ?grant, grant_none, fun s => rfl⟩
  case grant =>
    intro s r w hport hpower hpick
    have hmade := grant_made s r w hport hpower hpick
    have harbiter : (grant s).arbiter = s.arbiter.afterGrant r := by rw [hmade, granted_arbiter]
    dsimp only
    rw [harbiter]
    refine ⟨by rw [hmade, granted_port], afterGrant_get_same _ r, fun r' hne => afterGrant_get_other _ r r' hne,
      ?_, ?_, ?_, ?_, ?_, ?_⟩
    · rintro rfl
      rw [hmade, granted]
    · rintro rfl
      rw [hmade, granted]
    · rintro rfl
      rw [hmade, granted]
    · rintro rfl
      rw [hmade, granted]
    · rintro rfl hsweep
      rw [hmade, granted, if_pos hsweep]
    · rintro rfl hsweep
      rw [hmade, granted, if_neg hsweep]

end Sys2Proof.Machine

/-! SUPPORT. The laws of the regime and of board power off: what a step does to them, with the port free and the blocks
at rest while board power is off. -/

namespace Sys2Proof.Machine

open Host (Outcome)

/-- Board power is off, and nothing that depends on the contents of memory is held. -/
def State.dark (s : State) : Prop :=
  s.ctl.power = false ∧ s.ctl.memValid = false ∧ s.port = none ∧ s.repair.migration = none ∧
    s.repair.reservation = none ∧ s.repair.requests = [] ∧ s.scrub.fixList = [] ∧ s.scrub.activity = .paused

theorem dark_of_powerOffLaw {s : State} (h : s.powerOffLaw) (hpower : s.ctl.power = false) : s.dark :=
  ⟨hpower, h hpower⟩

theorem powerOffLaw_of_dark {s : State} (h : s.dark) : s.powerOffLaw := fun _ => h.2

theorem powerOffLaw_of_power {s : State} (h : s.ctl.power = true) : s.powerOffLaw := fun hoff => by simp [h] at hoff

theorem State.dark.of_same {s t : State} (h : s.dark) (hctl : t.ctl = s.ctl) (hport : t.port = s.port)
    (hrepair : t.repair = s.repair) (hscrub : t.scrub = s.scrub) : t.dark := by
  unfold State.dark
  rwa [hctl, hport, hrepair, hscrub]

theorem State.dark.finish {s : State} (h : s.dark) : (finish s).dark := by
  have hplaced : (mailboxPlace s).dark := h.of_same (by simp) (by simp) (by simp) (by simp)
  unfold Machine.finish
  rwa [grant_none _ (.inr (.inl hplaced.1))]

/-! ## While board power is off -/

theorem State.dark.taking {c : CommandCode} {k : State → State} {s t : State} (h : s.dark)
    (hk : (k s).dark) (he : Machine.taking c k s = .next t) : t.dark := by
  obtain rfl | ⟨-, rfl⟩ := taking_cases he
  · exact h
  · exact hk.finish

theorem State.dark.offerRepair {s : State} (h : s.dark) (g : Nat) : (offerRepair g s).dark := by
  obtain ⟨hpower, hrest⟩ := h
  simp only [Machine.offerRepair, hpower, Bool.not_false, if_true]
  exact ⟨hpower, hrest⟩

theorem State.dark.takeRepairGroup {s : State} (h : s.dark) : (takeRepairGroup s).dark := by
  unfold Machine.takeRepairGroup offerAndWait answer
  dsimp only
  repeat' split
  · exact h.of_same (by simp) (by simp) (by simp) (by simp)
  · exact State.dark.offerRepair (h.of_same (by simp) (by simp) (by simp) (by simp)) _
  · exact h.of_same (by simp) (by simp) (by simp) (by simp)

/-- The regime and its outputs, the port, the arbiter, the repair unit and the scrubber are as they were. -/
structure Calm (s u : State) : Prop where
  ctl : u.ctl = s.ctl
  port : u.port = s.port
  repair : u.repair = s.repair
  scrub : u.scrub = s.scrub
  arbiter : u.arbiter = s.arbiter

theorem Calm.refl (s : State) : Calm s s := ⟨rfl, rfl, rfl, rfl, rfl⟩

theorem State.dark.calm {s u : State} (h : s.dark) (hcalm : Calm s u) : u.dark :=
  h.of_same hcalm.ctl hcalm.port hcalm.repair hcalm.scrub

/-- What the owner of a command does with it (R180). -/
def taker : CommandCode → State → State
  | .status => takeStatus
  | .setWindow => takeSetWindow
  | .clearWindow => takeClearWindow
  | .readWindow => takeReadWindow
  | .takeError => takeTakeError
  | .diagRead => takeDiagRead
  | .diagWrite => takeDiagWrite
  | .repairGroup => takeRepairGroup
  | .readRepairs => takeReadRepairs
  | .readThermal => takeReadThermal
  | .checkRange => takeCheckRange
  | .setWatch => takeSetWatch
  | .clearWatch => takeClearWatch
  | .readWatch => takeReadWatch
  | .takeWatchHits => takeTakeWatchHits
  | .lockWatch => takeLockWatch
  | .armWatchdog => takeArmWatchdog
  | .disarmWatchdog => takeDisarmWatchdog
  | .restart => takeRestartCommand
  | .readRestart => takeReadRestart
  | .readTrace => takeReadTrace
  | .setKey => takeSetKey
  | .readKeys => takeReadKeys

theorem exec_command {c : CommandCode} {i : Instr} (hi : commandOf i = some c) (s : State) :
    exec i s = taking c (taker c) s := by
  cases i <;> cases hi <;> rfl

/-- Most commands of the ring leave the port, the arbiter and the units that work on memory as they are. -/
theorem taker_rest (c : CommandCode) (s : State) (hrepair : c ≠ .repairGroup) (hcheck : c ≠ .checkRange) :
    Calm s (taker c s) := by
  cases c
  case repairGroup => exact absurd rfl hrepair
  case checkRange => exact absurd rfl hcheck
  all_goals
    simp only [taker, takeStatus, takeSetWindow, takeClearWindow, takeReadWindow, takeTakeError, takeDiagRead,
      takeDiagWrite, beginDiag, takeReadRepairs, takeReadThermal, takeSetWatch, takeClearWatch, placeWatch, takeReadWatch,
      takeTakeWatchHits, takeLockWatch, takeArmWatchdog, takeDisarmWatchdog, underLock, takeRestartCommand,
      takeReadRestart, takeReadTrace, takeSetKey, placeKey, takeReadKeys, answer]
    repeat' split
    all_goals constructor <;> simp

theorem State.dark.takeCheckRange {s : State} (h : s.dark) : (takeCheckRange s).dark := by
  unfold Machine.takeCheckRange beginCheck answer
  repeat' split
  all_goals exact h.of_same (by simp) (by simp) (by simp) (by simp)

theorem taker_dark (c : CommandCode) {s : State} (h : s.dark) : (taker c s).dark := by
  by_cases hrepair : c = .repairGroup
  · subst hrepair
    exact h.takeRepairGroup
  by_cases hcheck : c = .checkRange
  · subst hcheck
    exact h.takeCheckRange
  · exact h.calm (taker_rest c s hrepair hcheck)

/-- With the port free no access completes. -/
theorem exec_completion_idle {i : Instr} {p : Purpose} {s t : State}
    (hi : completesWrite i = some p ∨ ∃ flips, completesRead i = some (p, flips)) (hport : s.port = none)
    (he : exec i s = .next t) : t = s := by
  obtain hw | ⟨flips, hr⟩ := hi
  · obtain ⟨k, hexec, -, -⟩ := exec_of_completesWrite hw
    obtain rfl | ⟨a, ha, -, -⟩ := atWrite_cases (hexec s ▸ he)
    · rfl
    · simp [hport] at ha
  · obtain ⟨k, hexec, -, -⟩ := exec_of_completesRead hr
    obtain rfl | ⟨a, ha, -, -⟩ := atRead_cases (hexec s ▸ he)
    · rfl
    · simp [hport] at ha

theorem State.dark.frontAccept {s : State} (h : s.dark) (kind : TxnKind) (o : Nat) (mask : Byte) (words : List Word) :
    (frontAccept kind o mask words s).dark := by
  unfold Machine.frontAccept
  dsimp only
  generalize (if kind.isLine = true then groupOf o else wordOffset o) = x
  repeat' split
  · exact h
  · exact h.of_same (by simp) (by simp) (by simp) (by simp)
  · exact h.of_same rfl rfl rfl rfl
  · exact State.dark.finish (h.of_same (by simp) (by simp) (by simp) (by simp))

/-- With board power off the scrubber, which is PAUSED, chooses no work when its interval ends (R44, R51). -/
theorem State.dark.scrubInterval {s t : State} (h : s.dark) (he : exec .scrubIntervalExpiry s = .next t) : t.dark := by
  have hpaused : s.scrub.activity = .paused := h.2.2.2.2.2.2.2
  simp only [exec, execScrubIntervalExpiry, hpaused, reduceCtorEq, if_false] at he
  split at he
  · cases he
    obtain ⟨hpower, hvalid, hport, hmigration, hreservation, hrequests, hfixes, -⟩ := h
    exact State.dark.finish ⟨hpower, hvalid, hport, hmigration, hreservation, hrequests, hfixes, rfl⟩
  · exact Outcome.next.inj he ▸ h

theorem State.dark.prepRetry {s t : State} (h : s.dark) (he : exec .prepRetryExpiry s = .next t) : t.dark := by
  simp only [exec, execPrepRetryExpiry] at he
  split at he
  · rw [← Outcome.next.inj he]
    exact State.dark.finish (h.of_same (by simp) (by simp) (by simp) (by simp))
  · exact Outcome.next.inj he ▸ h

/-! ## The events that leave the units that work on memory alone -/

/-- The events that leave the arbiter and the units that work on memory as they are, but for what `finish` does. -/
def calmEvent : Instr → Bool
  | .watchWriteReport | .watchReadReport | .refusedWriteReport | .ringSnoopReport | .pollTimerExpiry
  | .bootLimitExpiry | .warnWindowExpiry | .periodExpiry | .cmdWaitExpiry | .chordOutcome _ | .scanSample _
  | .lampBlinkToggle | .sessionTimeTick | .uptimeTick | .resetInputLevelChange _ => true
  | _ => false

theorem calm_takeReport (kind : ReportKind → Bool) {k : FrontReport → State → State} (s : State)
    (hk : ∀ r s, Calm s (k r s)) : Calm s (takeReport kind k s) := by
  unfold takeReport
  split
  · dsimp only
    repeat' split
    · obtain ⟨hctl, hport, hrepair, hscrub, harbiter⟩ := hk _ _
      exact ⟨hctl, hport, hrepair, hscrub, harbiter⟩
    · exact ⟨rfl, rfl, rfl, rfl, rfl⟩
    · exact Calm.refl s
  · exact Calm.refl s

/-- Such an event does a calm update, with or without the end of a step. -/
theorem exec_calm {i : Instr} {s t : State} (hi : calmEvent i = true) (he : exec i s = .next t) :
    ∃ u, Calm s u ∧ (t = u ∨ t = finish u) := by
  have idle (h : Outcome.next s = (.next t : Outcome State Fault Refusal)) : ∃ u, Calm s u ∧ (t = u ∨ t = finish u) :=
    ⟨s, Calm.refl s, .inl (Outcome.next.inj h).symm⟩
  cases i <;> cases hi
  case watchWriteReport =>
    refine ⟨_, ?_, .inl (Outcome.next.inj he).symm⟩
    refine calm_takeReport _ s fun r s => ?_
    unfold takeWrite
    dsimp only
    split
    all_goals constructor <;> simp
  case watchReadReport =>
    refine ⟨_, ?_, .inl (Outcome.next.inj he).symm⟩
    exact calm_takeReport _ s fun r s => by constructor <;> simp
  case refusedWriteReport =>
    refine ⟨_, ?_, .inl (Outcome.next.inj he).symm⟩
    exact calm_takeReport _ s fun r s => by constructor <;> simp
  case ringSnoopReport =>
    simp only [exec, execRingSnoopReport] at he
    repeat' split at he
    · exact ⟨_, by constructor <;> simp, .inr (Outcome.next.inj he).symm⟩
    · exact ⟨_, by constructor <;> rfl, .inl (Outcome.next.inj he).symm⟩
    · exact idle he
  case uptimeTick | resetInputLevelChange => exact ⟨_, by constructor <;> rfl, .inl (Outcome.next.inj he).symm⟩
  case pollTimerExpiry | bootLimitExpiry | warnWindowExpiry =>
    simp only [exec, execPollTimerExpiry, execBootLimitExpiry, execWarnWindowExpiry] at he
    split at he
    · exact ⟨_, by constructor <;> simp, .inl (Outcome.next.inj he).symm⟩
    · exact idle he
  case cmdWaitExpiry =>
    simp only [exec, execCmdWaitExpiry] at he
    split at he
    · refine ⟨_, ?_, .inr (Outcome.next.inj he).symm⟩
      unfold waitEnds
      split
      all_goals constructor <;> simp
    · exact idle he
  case periodExpiry | chordOutcome | scanSample =>
    simp only [exec, execPeriodExpiry, warningNotice, execChordOutcome, execScanSample] at he
    split at he
    · exact ⟨_, by constructor <;> simp, .inr (Outcome.next.inj he).symm⟩
    · exact idle he
  case lampBlinkToggle | sessionTimeTick =>
    simp only [exec, execLampBlinkToggle, execSessionTimeTick] at he
    split at he
    · exact ⟨_, by constructor <;> rfl, .inl (Outcome.next.inj he).symm⟩
    · exact idle he

/-- With board power off an event that does not change the regime leaves the blocks at rest. -/
theorem exec_dark {i : Instr} {s t : State} (hi : .control ∉ touchedParts i) (h : s.dark)
    (he : exec i s = .next t) : t.dark := by
  match hc : commandOf i, hw : completesWrite i, hr : completesRead i, hq : calmEvent i with
  | some c, _, _, _ => exact h.taking (taker_dark c h) (exec_command hc s ▸ he)
  | none, some p, _, _ => exact exec_completion_idle (.inl hw) h.2.2.1 he ▸ h
  | none, none, some (p, flips), _ => exact exec_completion_idle (.inr ⟨flips, hr⟩) h.2.2.1 he ▸ h
  | none, none, none, true =>
    obtain ⟨u, hcalm, rfl | rfl⟩ := exec_calm hq he
    · exact h.calm hcalm
    · exact (h.calm hcalm).finish
  | none, none, none, false =>
    cases i <;> cases hc <;> cases hw <;> cases hr <;> cases hq
    case read | write | lineRead | lineWrite => cases he; exact h.frontAccept _ _ _ _
    case scrubIntervalExpiry => exact h.scrubInterval he
    case prepRetryExpiry => exact h.prepRetry he
    all_goals exact absurd (by simp [touchedParts, Part.regimeParts, Part.all]) hi

/-! ## The two laws at a change of regime -/

theorem regimeLaw_iff (s : State) :
    s.regimeLaw ↔ s.ctl.processorReset = s.ctl.regime.resetAsserted ∧ s.ctl.power = s.ctl.regime.powered := by
  unfold State.regimeLaw
  cases s.ctl.regime <;> simp [Regime.resetAsserted, Regime.powered]

theorem regimeLaw_changeRegime (new : Regime) (s : State) : (changeRegime new s).regimeLaw := by
  rw [regimeLaw_iff]
  exact ⟨by rw [changeRegime_processorReset, changeRegime_regime], by rw [changeRegime_power, changeRegime_regime]⟩

theorem Kept.regimeLaw {ps : List Part} {s t : State} (h : Kept ps s t) (hp : .control ∉ ps) (hs : s.regimeLaw) :
    t.regimeLaw := by
  obtain ⟨hregime, hpower, hreset, -⟩ := h .control hp
  unfold State.regimeLaw
  rwa [hregime, hpower, hreset]

/-- After the loss of board power, and in a regime without it, the scrubber's news finds it PAUSED (R44, R45). -/
theorem scrubNews_of_paused (s : State) (hpaused : s.scrub.activity = .paused) (hvalid : s.ctl.memValid = false) :
    scrubNews s = s := by
  simp [scrubNews, State.scrubRuns, hpaused, hvalid]

theorem changeRegime_port_of_unpowered (new : Regime) (s : State) (hs : s.ctl.regime.powered = false)
    (hnew : new ≠ .running) : (beforeScrubNews new s).port = s.port := by
  have hrunning : s.ctl.regime ≠ .running := by
    intro h
    simp [h, Regime.powered] at hs
  simp [beforeScrubNews, hrunning, hs, hnew]

/-- A change to a regime with board power off leaves the blocks at rest (R23, R45, R64, R73). -/
theorem dark_changeRegime (new : Regime) (s : State) (hnew : new.powered = false) (hregime : s.regimeLaw)
    (hs : s.powerOffLaw) : (changeRegime new s).dark := by
  have hrunning : new ≠ .running := by
    rintro rfl
    cases hnew
  have hbefore : (beforeScrubNews new s).dark := by
    have hpower : (beforeScrubNews new s).ctl.power = false := by
      have h := changeRegime_power new s
      rw [changeRegime_eq, hnew] at h
      simpa using h
    by_cases hlost : s.ctl.regime.powered = true
    · obtain ⟨hscrub, hrepair, -, -, -, -, hvalid, -, hport, -, -⟩ := beforeScrubNews_lost new s ⟨hlost, hnew⟩
      refine ⟨hpower, hvalid, hport, ?_, ?_, ?_, ?_, ?_⟩
      all_goals simp [hscrub, hrepair]
    · have hoff : s.ctl.power = false := by simpa [((regimeLaw_iff s).1 hregime).2] using hlost
      obtain ⟨hscrub, hrepair, -, -, -, -, hvalid, -⟩ := beforeScrubNews_kept new s (by simp [hlost])
      obtain ⟨hvalid', hport', hrest⟩ := hs hoff
      have hport := changeRegime_port_of_unpowered new s (by simpa using hlost) hrunning
      refine ⟨hpower, hvalid.trans hvalid', hport.trans hport', ?_⟩
      rwa [hscrub, hrepair]
  rw [changeRegime_eq, scrubNews_of_paused _ hbefore.2.2.2.2.2.2.2 hbefore.2.1]
  exact hbefore.of_same (by simp) (by simp) (by simp) (by simp)

/-- The laws of the regime and of board power off. -/
def State.powerLaws (s : State) : Prop := s.regimeLaw ∧ s.powerOffLaw

theorem powerLaws_changeRegime (new : Regime) {s : State} (h : s.powerLaws) : (changeRegime new s).powerLaws := by
  refine ⟨regimeLaw_changeRegime new s, ?_⟩
  cases hnew : new.powered
  · exact powerOffLaw_of_dark (dark_changeRegime new s hnew h.1 h.2)
  · exact powerOffLaw_of_power ((changeRegime_power new s).trans hnew)

theorem State.powerLaws.of_same {s t : State} (h : s.powerLaws) (hcontrol : Part.same s t .control)
    (hport : t.port = s.port) (hrepair : t.repair = s.repair) (hfixes : t.scrub.fixList = s.scrub.fixList)
    (hactivity : t.scrub.activity = s.scrub.activity) : t.powerLaws := by
  obtain ⟨hregime, hpower, hreset, hvalid⟩ := hcontrol
  unfold State.powerLaws State.regimeLaw State.powerOffLaw
  rwa [hregime, hpower, hreset, hvalid, hport, hrepair, hfixes, hactivity]

theorem State.powerLaws.finish {s : State} (h : s.powerLaws) : (finish s).powerLaws := by
  refine ⟨(kept_finish s).regimeLaw (by simp) h.1, fun hoff => ?_⟩
  exact (dark_of_powerOffLaw h.2 (by simpa using hoff)).finish.2

theorem regimeClosed_powerLaws : RegimeClosed (fun _ => True) State.powerLaws where
  quiet hquiet h :=
    h.of_same (hquiet.kept .control (by simp)) hquiet.port hquiet.repair hquiet.fixList hquiet.activity
  change new _ _ _ h := powerLaws_changeRegime new h
  heaters h := h.of_same (by simp [Part.same]) (by simp) (by simp) (by simp) (by simp)
  notice _ h := h.of_same (by simp [Part.same]) (by simp) (by simp) (by simp) (by simp)
  record _ _ _ _ h := h.of_same (by simp [Part.same]) (by simp) (by simp) (by simp) (by simp)
  pardon h := h.of_same (by simp [Part.same]) rfl rfl rfl rfl
  finish h := h.finish

theorem powerLaws_takeRestart (cause : RestartCause) (cold : Bool) {s : State} (h : s.powerLaws) :
    (takeRestart cause cold s).powerLaws := by
  unfold takeRestart
  dsimp only
  refine State.powerLaws.of_same (powerLaws_changeRegime _ ?_) (by simp [Part.same]) rfl rfl rfl rfl
  exact h.of_same (by simp [Part.same]) (by simp) (by simp) (by simp) (by simp)

/-! ## Every step -/

theorem powerLaws_zeroWriteDone (a : Access) {s : State} (h : s.powerLaws) : (zeroWriteDone a s).powerLaws := by
  have hreport {s : State} (doubtful : Bool) (h : s.powerLaws) : (finishReport doubtful s).powerLaws :=
    regimeClosed_powerLaws.finishReport ⟨trivial, trivial⟩ doubtful h
  have hprep {s : State} (prep : Prep) (h : s.powerLaws) : State.powerLaws { s with prep := prep } :=
    h.of_same (by simp [Part.same]) rfl rfl rfl rfl
  have hvalid : (zeroSweepReport s).powerLaws := by
    unfold zeroSweepReport
    split
    · next hr =>
      have hpower : s.ctl.power = true := by simp [((regimeLaw_iff s).1 h.1).2, hr, Regime.powered]
      exact ⟨h.1, powerOffLaw_of_power hpower⟩
    · exact h
  unfold zeroWriteDone endPass nextStep
  dsimp only
  repeat' split
  · exact State.powerLaws.finish (h.of_same (by simp [Part.same]) (by simp) (by simp) (by simp) (by simp))
  · exact State.powerLaws.finish (hreport _ (hprep _ hvalid))
  · exact State.powerLaws.finish (hprep _ hvalid)
  · exact State.powerLaws.finish (hreport _ (hprep _ hvalid))

/-- The completion of an access that can release the board or end preparation. -/
theorem powerLaws_written {p : Purpose} {s t : State} {k : Access → State → State} (h : s.powerLaws)
    (hk : ∀ a {s}, s.powerLaws → (k a s).powerLaws) (he : atWrite p s k = .next t) : t.powerLaws := by
  obtain rfl | ⟨a, ha, -, rfl⟩ := atWrite_cases he
  · exact h
  · refine hk a ⟨?_, fun hoff => ?_⟩
    · exact ((kept_port s _).andThen (kept_clearCarried a _)).regimeLaw (by simp) h.1
    · have hdark := dark_of_powerOffLaw h.2 (by simpa using hoff)
      exact nomatch ha.symm.trans hdark.2.2.1

theorem exec_powerLaws {i : Instr} {s t : State} (h : s.powerLaws) (he : exec i s = .next t) : t.powerLaws := by
  by_cases hc : .control ∈ touchedParts i
  · by_cases hr : changesRegime i = true
    · exact regimeClosed_powerLaws.exec
        (fun _ h => h.of_same (by simp [Part.same]) (by simp) (by simp) (by simp) (by simp))
        (fun _ _ cause cold _ => powerLaws_takeRestart cause cold) hr (fun _ _ => trivial) h he
    cases i <;> simp [touchedParts, Part.detectionParts, changesRegime] at hc hr
    case partPowerOn =>
      cases he
      exact ⟨(regimeLaw_iff _).2 ⟨rfl, rfl⟩, fun _ => ⟨rfl, rfl, rfl, rfl, rfl, rfl, rfl⟩⟩
    case configReadReply data straps =>
      exact regimeClosed_powerLaws.configLink ⟨trivial, trivial⟩
        (fun _ _ _ _ _ hs => hs.of_same (by simp [Part.same, loadedState]) rfl rfl rfl rfl) (.inl ⟨data, straps, rfl⟩) h he
    case configReadTimeout straps =>
      exact regimeClosed_powerLaws.configLink ⟨trivial, trivial⟩
        (fun _ _ _ _ _ hs => hs.of_same (by simp [Part.same, loadedState]) rfl rfl rfl rfl) (.inr ⟨straps, rfl⟩) h he
    case zeroWriteComplete => exact powerLaws_written h powerLaws_zeroWriteDone he
    case ringHeaderWriteComplete =>
      exact powerLaws_written h (fun a _ => regimeClosed_powerLaws.headerDone trivial a) he
  · have hkept := exec_kept he
    refine ⟨hkept.regimeLaw hc h.1, fun hoff => ?_⟩
    rw [(hkept .control hc).2.1] at hoff
    exact (exec_dark hc (dark_of_powerOffLaw h.2 hoff) he).2

/-- Settles O55: a change of regime establishes both laws, and without one the blocks stay at rest. -/
theorem keepsRegimeLaws : Obligations.KeepsRegimeLaws :=
  fun _ _ hregime hoff h => step_keeps (P := State.powerLaws) (Q := State.powerLaws)
    (fun _ _ hs => hs) (fun _ hs => hs) exec_powerLaws ⟨hregime, hoff⟩ h

end Sys2Proof.Machine

/-! SUPPORT. The law of the reservation: a request is placed outside the reserved group alone, and a reservation that is
set finds every other request for its group withdrawn (R57). -/

namespace Sys2Proof.Machine

open Host (Outcome)

/-! ## The law and the arbiter -/

theorem clearOf_some (reserved : Option Nat) (a : Access) (n : Nat) (h : reserved ≠ some (groupOf a.offset)) :
    clearOf reserved (some { access := a, passed := n }) := by
  intro x hx
  cases hx
  exact h

theorem clearOf_passedOver {reserved : Option Nat} {w : Option Waiting} (h : clearOf reserved w) :
    clearOf reserved (passedOver w) := by
  intro x hx
  obtain ⟨y, rfl, rfl⟩ := Option.map_eq_some_iff.1 hx
  exact h y rfl

/-- While no group is reserved every request may wait. -/
theorem reservationLaw_of_none {s : State} (h : s.repair.reservation = none) : s.reservationLaw := by
  have hclear (w : Option Waiting) : clearOf s.repair.reservation w := fun _ _ => by simp [h]
  exact ⟨hclear _, hclear _, hclear _, hclear _⟩

theorem State.reservationLaw.of_same {s t : State} (h : s.reservationLaw)
    (hreserved : t.repair.reservation = s.repair.reservation) (harbiter : t.arbiter = s.arbiter) :
    t.reservationLaw := by
  unfold State.reservationLaw
  rwa [hreserved, harbiter]

theorem State.reservationLaw.calm {s u : State} (h : s.reservationLaw) (hcalm : Calm s u) : u.reservationLaw :=
  h.of_same (by rw [hcalm.repair]) hcalm.arbiter

theorem State.reservationLaw.place {s : State} (h : s.reservationLaw) (a : Access)
    (ha : a.requester ≠ .repair → s.repair.reservation ≠ some (groupOf a.offset)) : (place a s).reservationLaw := by
  obtain ⟨hfront, hmailbox, hprep, hscrub⟩ := h
  unfold State.reservationLaw Machine.place
  cases hr : a.requester
  case repair => exact ⟨hfront, hmailbox, hprep, hscrub⟩
  all_goals have hnew := clearOf_some s.repair.reservation a 0 (ha (by simp [hr]))
  case front => exact ⟨hnew, hmailbox, hprep, hscrub⟩
  case mailbox => exact ⟨hfront, hnew, hprep, hscrub⟩
  case prep => exact ⟨hfront, hmailbox, hnew, hscrub⟩
  case scrub => exact ⟨hfront, hmailbox, hprep, hnew⟩

theorem State.reservationLaw.withdraw {s : State} (h : s.reservationLaw) (r : Requester) :
    (withdraw r s).reservationLaw := by
  obtain ⟨hfront, hmailbox, hprep, hscrub⟩ := h
  unfold State.reservationLaw Machine.withdraw
  cases r
  case repair => exact ⟨hfront, hmailbox, hprep, hscrub⟩
  case front => exact ⟨clearOf_none _, hmailbox, hprep, hscrub⟩
  case mailbox => exact ⟨hfront, clearOf_none _, hprep, hscrub⟩
  case prep => exact ⟨hfront, hmailbox, clearOf_none _, hscrub⟩
  case scrub => exact ⟨hfront, hmailbox, hprep, clearOf_none _⟩

theorem granted_reservation (r : Requester) (a : Access) (s : State) :
    (granted r a s).repair.reservation = s.repair.reservation := by
  simp only [granted_frame]

theorem State.reservationLaw.grant {s : State} (h : s.reservationLaw) : (grant s).reservationLaw := by
  unfold Machine.grant
  split
  · exact h
  · split
    · exact h
    · next r w _ =>
      have hafter : State.reservationLaw { s with arbiter := s.arbiter.afterGrant r, port := some w.access } := by
        obtain ⟨hfront, hmailbox, hprep, hscrub⟩ := h
        have hpassed : State.reservationLaw { s with arbiter :=
            { repair := passedOver s.arbiter.repair, front := passedOver s.arbiter.front
              mailbox := passedOver s.arbiter.mailbox, prep := passedOver s.arbiter.prep
              scrub := passedOver s.arbiter.scrub } } :=
          ⟨clearOf_passedOver hfront, clearOf_passedOver hmailbox, clearOf_passedOver hprep, clearOf_passedOver hscrub⟩
        exact (hpassed.withdraw r).of_same rfl rfl
      exact hafter.of_same (granted_reservation r w.access _) (granted_arbiter r w.access _)

/-! ## The mailbox unit's request, and the end of a step -/

theorem unreserved_clear {s : State} {b : Access} {x : Option Access} (h : unreserved s x = some b) :
    s.repair.reservation ≠ some (groupOf b.offset) := by
  obtain ⟨-, hfree⟩ := Option.filter_eq_some_iff.1 h
  simpa [State.reservedAt] using hfree

theorem State.reservationLaw.mailboxPlace {s : State} (h : s.reservationLaw) : (mailboxPlace s).reservationLaw := by
  have hposting {p : Posting} {a : Access} (ha : s.repair.reservation ≠ some (groupOf a.offset)) :
      (placePosting p a s).reservationLaw :=
    State.reservationLaw.place (h.of_same rfl rfl) a fun _ => ha
  unfold Machine.mailboxPlace
  split
  · exact h
  · split
    · next a ha => exact h.place a fun _ => unreserved_clear ha
    · dsimp only
      have hplaced {p : Posting} {a : Access} (hp : ((postingInHand s).bind fun p =>
          (unreserved s (postingAccess s p)).map fun a => (p, a)) = some (p, a)) :
          (placePosting p a s).reservationLaw := by
        obtain ⟨q, -, hmap⟩ := Option.bind_eq_some_iff.1 hp
        obtain ⟨b, hb, heq⟩ := Option.map_eq_some_iff.1 hmap
        cases heq
        exact hposting (unreserved_clear hb)
      split
      · next hengine hp =>
        split
        · exact hplaced hp
        · exact h.place _ fun _ => unreserved_clear hengine
      · next hengine _ => exact h.place _ fun _ => unreserved_clear hengine
      · next hp => exact hplaced hp
      · exact h

theorem State.reservationLaw.finish {s : State} (h : s.reservationLaw) : (finish s).reservationLaw :=
  h.mailboxPlace.grant

/-! ## The blocks that place requests -/

theorem State.reservationLaw.frontRequest {s : State} (h : s.reservationLaw) (t : FrontTxn)
    (ht : s.repair.reservation ≠ some (groupOf t.offset)) : (frontRequest t s).reservationLaw := by
  have hoffset : (frontAccess s t).offset = t.offset := by
    unfold frontAccess
    repeat' split
    all_goals rfl
  exact State.reservationLaw.place (h.of_same rfl rfl) _ fun _ => hoffset ▸ ht

theorem State.reservationLaw.frontClassify {s : State} (h : s.reservationLaw) (t : FrontTxn)
    (ht : s.repair.reservation ≠ some (groupOf t.offset)) : (frontClassify t s).reservationLaw := by
  unfold Machine.frontClassify
  dsimp only
  repeat' split
  · exact h.of_same (by simp) (by simp)
  · exact h.of_same (by simp) (by simp)
  · exact h.of_same (by simp) (by simp)
  · exact h.frontRequest _ ht

theorem State.reservationLaw.frontAccept {s : State} (h : s.reservationLaw) (kind : TxnKind) (o : Nat) (mask : Byte)
    (words : List Word) : (frontAccept kind o mask words s).reservationLaw := by
  unfold Machine.frontAccept
  dsimp only
  generalize (if kind.isLine = true then groupOf o else wordOffset o) = x
  repeat' split
  · exact h
  · exact h.of_same (by simp) (by simp)
  · exact h.of_same rfl rfl
  · next hfree => exact State.reservationLaw.finish (h.frontClassify _ (by simpa [State.reservedAt] using hfree))

theorem State.reservationLaw.scrubServe {s : State} (h : s.reservationLaw) (w : ScrubWork) :
    (scrubServe w s).reservationLaw := by
  have hoffset : (s.scrubAccess w).offset = w.offset := by cases w <;> rfl
  unfold Machine.scrubServe
  split
  · exact h.of_same rfl rfl
  · next hfree =>
    refine State.reservationLaw.place (h.of_same rfl rfl) _ fun _ => ?_
    rw [hoffset]
    simpa [State.reservedAt] using hfree

theorem State.reservationLaw.chooseWork {s : State} (h : s.reservationLaw) : (chooseWork s).reservationLaw := by
  unfold Machine.chooseWork
  dsimp only
  split
  · refine State.reservationLaw.scrubServe ?_ _
    exact h.of_same rfl rfl
  · split
    · refine State.reservationLaw.scrubServe ?_ _
      exact h.of_same rfl rfl
    · exact h.of_same rfl rfl

theorem State.reservationLaw.endWork {s : State} (h : s.reservationLaw) : (endWork s).reservationLaw := by
  unfold Machine.endWork
  split
  · exact State.reservationLaw.chooseWork (h.of_same rfl rfl)
  · exact h.of_same rfl rfl

theorem State.reservationLaw.offerFix {s : State} (h : s.reservationLaw) (o : Nat) (loc : Location) :
    (offerFix o loc s).reservationLaw := by
  unfold Machine.offerFix
  dsimp only
  repeat' split
  · exact h
  · exact State.reservationLaw.chooseWork (h.of_same rfl rfl)
  · exact h.of_same rfl rfl

theorem State.reservationLaw.offerFixes {s : State} (h : s.reservationLaw) (es : List FixEntry) :
    (offerFixes es s).reservationLaw := by
  induction es generalizing s with
  | nil => exact h
  | cons e es ih => exact ih (h.offerFix e.offset e.loc)

theorem State.reservationLaw.scrubRelease {s : State} (h : s.reservationLaw) (g : Nat) :
    (scrubRelease g s).reservationLaw := by
  unfold Machine.scrubRelease
  repeat' split
  · exact h.scrubServe _
  · exact h
  · exact h

theorem State.reservationLaw.scrubNews {s : State} (h : s.reservationLaw) : (scrubNews s).reservationLaw := by
  unfold Machine.scrubNews
  repeat' split
  · exact State.reservationLaw.chooseWork (h.of_same rfl rfl)
  · exact h.of_same rfl rfl
  · exact h
  · exact h.of_same rfl rfl
  · exact h
  · exact h
  · exact h
  · exact h.of_same rfl rfl
  · exact h.of_same rfl rfl
  · exact State.reservationLaw.withdraw (h.of_same rfl rfl) _

theorem State.reservationLaw.prepHandle {s : State} (h : s.reservationLaw) : (prepHandle s).reservationLaw := by
  have hoffset : s.prepAccess.offset = s.prepGroup := by
    unfold State.prepAccess
    repeat' split
    all_goals rfl
  unfold Machine.prepHandle
  dsimp only
  split
  · split
    · exact h.of_same (by simp) (by simp)
    · exact h.of_same rfl rfl
  · next hfree =>
    refine State.reservationLaw.place (h.of_same rfl rfl) _ fun _ => ?_
    rw [hoffset]
    simpa [State.reservedAt] using hfree

theorem State.reservationLaw.prepAbandon {s : State} (h : s.reservationLaw) : (prepAbandon s).reservationLaw :=
  State.reservationLaw.withdraw (h.of_same rfl rfl) _

theorem State.reservationLaw.beginPass {s : State} (h : s.reservationLaw) (p : Nat) :
    (beginPass p s).reservationLaw :=
  State.reservationLaw.prepHandle (h.of_same rfl rfl)

theorem State.reservationLaw.prepRelease {s : State} (h : s.reservationLaw) (g : Nat) :
    (prepRelease g s).reservationLaw := by
  unfold Machine.prepRelease
  repeat' split
  · exact h.prepHandle
  · exact State.reservationLaw.prepHandle (h.of_same (by simp) (by simp))
  · exact h
  · exact h

/-! ## The reservation set and released -/

/-- Every request of `t` at the arbiter is one of `s`. -/
def Shrinks (s t : State) : Prop := ∀ r, t.arbiter.get r = s.arbiter.get r ∨ t.arbiter.get r = none

theorem Shrinks.clear {s t : State} (h : Shrinks s t) {reserved : Option Nat} {r : Requester}
    (hs : clearOf reserved (s.arbiter.get r)) : clearOf reserved (t.arbiter.get r) := by
  obtain heq | heq := h r
  · rwa [heq]
  · rw [heq]
    exact clearOf_none _

theorem shrinks_of_same {s t : State} (h : t.arbiter = s.arbiter) : Shrinks s t := fun r => .inl (by rw [h])

theorem shrinks_withdraw (q : Requester) {s t : State} (h : t.arbiter = s.arbiter.set q none) : Shrinks s t := by
  intro r
  rw [h]
  by_cases hr : r = q
  · subst hr
    exact .inr (by cases r <;> rfl)
  · exact .inl (by cases r <;> cases q <;> simp [Arbiter.get, Arbiter.set] at hr ⊢)

theorem clearOf_of_none {reserved : Option Nat} {x : Option Waiting} (h : x = none) : clearOf reserved x := by
  rw [h]
  exact clearOf_none _

/-- What a block's yield does to its own request: one for the group is withdrawn (R57). -/
theorem clearOf_kept {g : Nat} {w : Waiting} {x : Option Waiting} (hx : x = some w)
    (hne : ¬ groupOf w.access.offset = g) : clearOf (some g) x := by
  rintro y hy heq
  cases hx.symm.trans hy
  exact hne (Option.some.inj heq).symm

theorem frontYield_yields (g : Nat) (s : State) :
    Shrinks s (frontYield g s) ∧ clearOf (some g) ((frontYield g s).arbiter.get .front) := by
  unfold frontYield
  split
  · next w hw =>
    split
    · exact ⟨shrinks_withdraw .front rfl, clearOf_none _⟩
    · next hne => exact ⟨shrinks_of_same rfl, clearOf_kept hw hne⟩
  · next hnone => exact ⟨shrinks_of_same rfl, clearOf_of_none hnone⟩

theorem scrubYield_yields (g : Nat) (s : State) :
    Shrinks s (scrubYield g s) ∧ clearOf (some g) ((scrubYield g s).arbiter.get .scrub) := by
  unfold scrubYield
  split
  · next w hw =>
    split
    · exact ⟨shrinks_withdraw .scrub rfl, clearOf_none _⟩
    · next hne => exact ⟨shrinks_of_same rfl, clearOf_kept hw hne⟩
  · next hnone => exact ⟨shrinks_of_same rfl, clearOf_of_none hnone⟩

theorem prepYield_yields (g : Nat) (s : State) :
    Shrinks s (prepYield g s) ∧ clearOf (some g) ((prepYield g s).arbiter.get .prep) := by
  unfold prepYield
  split
  · next w hw =>
    dsimp only
    repeat' split
    · exact ⟨shrinks_withdraw .prep rfl, clearOf_none _⟩
    · exact ⟨shrinks_withdraw .prep rfl, clearOf_none _⟩
    · next hne => exact ⟨shrinks_of_same rfl, clearOf_kept hw hne⟩
  · next hnone => exact ⟨shrinks_of_same rfl, clearOf_of_none hnone⟩

theorem mailboxYield_yields (g : Nat) (s : State) :
    Shrinks s (mailboxYield g s) ∧ clearOf (some g) ((mailboxYield g s).arbiter.get .mailbox) := by
  have hwaits (t : State) :
      (if t.engine.state = .executing ∧ t.engine.work.diagGroup = some g ∧ diagInProgress t = false then enterWaiting t
        else t).arbiter = t.arbiter := by
    split <;> simp
  unfold mailboxYield
  dsimp only
  unfold Shrinks
  rw [hwaits]
  split
  · next w hw =>
    split
    · exact ⟨shrinks_withdraw .mailbox rfl, clearOf_none _⟩
    · next hne => exact ⟨shrinks_of_same rfl, clearOf_kept hw hne⟩
  · next hnone => exact ⟨shrinks_of_same rfl, clearOf_of_none hnone⟩

/-- Setting a reservation establishes its law, whatever the state was (R57). -/
theorem setReservation_reservationLaw (g : Nat) (s : State) : (setReservation g s).reservationLaw := by
  have hreserved : (setReservation g s).repair.reservation = some g := by
    unfold setReservation
    simp
  unfold State.reservationLaw
  rw [hreserved]
  unfold setReservation
  obtain ⟨-, hfront⟩ := frontYield_yields g { s with repair := { s.repair with reservation := some g } }
  generalize frontYield g _ = s1 at hfront
  obtain ⟨hs2, hscrub⟩ := scrubYield_yields g s1
  generalize scrubYield g s1 = s2 at hs2 hscrub
  obtain ⟨hs3, hprep⟩ := prepYield_yields g s2
  generalize prepYield g s2 = s3 at hs3 hprep
  obtain ⟨hs4, hmailbox⟩ := mailboxYield_yields g s3
  exact ⟨hs4.clear (hs3.clear (hs2.clear hfront)), hmailbox, hs4.clear hprep, hs4.clear (hs3.clear hscrub)⟩

theorem startMigration_reservationLaw (g slot : Nat) (s : State) : (startMigration g slot s).reservationLaw :=
  (setReservation_reservationLaw g _).place _ fun hne => absurd rfl hne

theorem State.reservationLaw.reportOutcome {s : State} (h : s.reservationLaw) (n : RepairNotice) :
    (reportOutcome n s).reservationLaw := h.of_same (by simp) (by simp)

theorem State.reservationLaw.reoffer {s : State} (h : s.reservationLaw) : (reoffer s).reservationLaw :=
  h.of_same (by simp) (by simp)

theorem State.reservationLaw.startMigrations {s : State} (h : s.reservationLaw) (fuel : Nat) :
    (startMigrations fuel s).reservationLaw := by
  induction fuel generalizing s with
  | zero => exact h
  | succ fuel ih =>
    unfold Machine.startMigrations
    dsimp only
    repeat' split
    · exact h
    · exact h
    · refine ih (State.reservationLaw.reoffer ?_)
      exact h.of_same (by simp) (by simp)
    · exact (startMigration_reservationLaw _ _ _).reoffer

theorem State.reservationLaw.nextMigration {s : State} (h : s.reservationLaw) : (nextMigration s).reservationLaw :=
  h.startMigrations _

theorem State.reservationLaw.offerRepair {s : State} (h : s.reservationLaw) (g : Nat) :
    (offerRepair g s).reservationLaw := by
  unfold Machine.offerRepair
  repeat' split
  · exact h.of_same rfl rfl
  · exact h
  · exact h.of_same rfl rfl
  · exact State.reservationLaw.nextMigration (h.of_same rfl rfl)

theorem frontRelease_reservation (g : Nat) (s : State) :
    (frontRelease g s).repair.reservation = s.repair.reservation := by simp

theorem releaseReservation_reservationLaw (g : Nat) (s : State) : (releaseReservation g s).reservationLaw := by
  refine reservationLaw_of_none ?_
  unfold releaseReservation
  simp

theorem endMigration_reservationLaw (n : RepairNotice) (s : State) : (endMigration n s).reservationLaw :=
  State.reservationLaw.nextMigration ((releaseReservation_reservationLaw _ _).reportOutcome n)

/-! ## Detections and completions -/

theorem State.reservationLaw.queueNotice {s : State} (h : s.reservationLaw) (b : NoticeBody) :
    (queueNotice b s).reservationLaw := h.of_same (by simp) (by simp)

theorem State.reservationLaw.detect {s : State} (h : s.reservationLaw) (d : Detection) :
    (detect d s).reservationLaw := by
  have hcoalesce {s : State} (h : s.reservationLaw) (e : LogEntry) : (coalesce d e s).reservationLaw := by
    unfold coalesce
    dsimp only
    repeat' split
    · exact h
    · exact State.reservationLaw.offerRepair (by exact h.of_same rfl rfl) _
    · exact h.of_same rfl rfl
  have henter {s : State} (h : s.reservationLaw) : (enterDetection d s).reservationLaw := by
    unfold enterDetection
    dsimp only
    repeat' split
    · exact State.reservationLaw.offerRepair (by exact h.of_same rfl rfl) _
    · exact h.of_same rfl rfl
    · exact State.reservationLaw.queueNotice (State.reservationLaw.offerRepair (by exact h.of_same rfl rfl) _) _
    · exact State.reservationLaw.queueNotice (by exact h.of_same rfl rfl) _
  have hcounted : (countDetection d s).reservationLaw := h.of_same (by simp) (by simp)
  unfold Machine.detect
  dsimp only
  repeat' split
  · exact hcoalesce hcounted _
  · exact henter hcounted
  · exact hcounted.of_same rfl rfl
  · exact henter (hcounted.of_same rfl rfl)
  · exact hcounted.of_same rfl rfl

theorem State.reservationLaw.detectAll {s : State} (h : s.reservationLaw) (ds : List Detection) :
    (detectAll ds s).reservationLaw := by
  induction ds generalizing s with
  | nil => exact h
  | cons d ds ih => exact ih (h.detect d)

theorem State.reservationLaw.nextStep {s : State} (h : s.reservationLaw) (step : PrepStep) :
    (nextStep step s).reservationLaw := State.reservationLaw.prepHandle (h.of_same rfl rfl)

theorem State.reservationLaw.endFix {s : State} (h : s.reservationLaw) : (endFix s).reservationLaw := by
  unfold Machine.endFix removeServed
  refine State.reservationLaw.finish (State.reservationLaw.endWork ?_)
  split
  · exact h.of_same rfl rfl
  · exact h

theorem State.reservationLaw.checkAdvance {s : State} (h : s.reservationLaw) (r : CheckRange) :
    (checkAdvance r s).reservationLaw := by
  unfold Machine.checkAdvance
  split
  · exact State.reservationLaw.prepHandle (by exact h.of_same rfl rfl)
  · exact h.of_same (by simp) (by simp)

/-- What the requester of a read makes of the words keeps the law. -/
theorem reservationLaw_readDone {i : Instr} {p : Purpose} {flips : List MemWord} {s t : State}
    (hi : completesRead i = some (p, flips)) (h : s.reservationLaw) (he : exec i s = .next t) : t.reservationLaw := by
  have of_done {k : Access → List MemWord → State → State} (he : atRead p flips s k = .next t)
      (hk : ∀ a ws {s}, s.reservationLaw → (k a ws s).reservationLaw) : t.reservationLaw := by
    obtain rfl | ⟨a, -, -, rfl⟩ := atRead_cases he
    · exact h
    · exact hk a _ (h.of_same rfl rfl)
  cases i <;> cases hi
  case frontReadAccessComplete =>
    refine of_done he fun a ws s h => ?_
    have hreported := State.reservationLaw.offerFixes
      (h.detectAll (detectionsOf .frontRead (fun _ => s.frontPolicy) a ws)) (fixesOf (fun _ => s.frontPolicy) a ws)
    unfold frontReadDone answerRead frontDiscard
    dsimp only
    repeat' split
    all_goals exact State.reservationLaw.finish (hreported.of_same (by simp) (by simp))
  case frontMergeReadComplete =>
    refine of_done he fun a ws s h => ?_
    have hreported := h.detectAll (detectionsOf .frontMerge (fun _ => s.frontPolicy) a ws)
    unfold frontMergeDone mergeFails mergeWrites frontDiscard
    dsimp only
    repeat' split
    all_goals exact State.reservationLaw.finish (hreported.of_same (by simp) (by simp))
  case fixPairReadComplete =>
    refine of_done he fun a ws s h => ?_
    unfold fixReadDone
    dsimp only
    split
    · exact h.endFix
    · exact (h.detect _).endFix
    · exact h.of_same rfl rfl
  case sweepReadComplete =>
    refine of_done he fun a ws s h => ?_
    have hreported := State.reservationLaw.offerFixes
      (h.detectAll (detectionsOf .scrub s.policyAt a ws)) (fixesOf s.policyAt a ws)
    unfold sweepDone advanceSweep
    dsimp only
    split
    all_goals exact State.reservationLaw.finish (State.reservationLaw.endWork (by exact hreported.of_same rfl rfl))
  case migrationReadComplete =>
    refine of_done he fun a ws s h => ?_
    have hreported := h.detectAll (detectionsOf .migration s.policyAt a ws)
    unfold migrationReadDone declineRepair copyToSlot
    dsimp only
    repeat' split
    · exact hreported.finish
    · exact (endMigration_reservationLaw _ _).finish
    all_goals exact State.reservationLaw.finish (by exact hreported.of_same rfl rfl)
  case readBackComplete engineFirst =>
    refine of_done he fun a ws s h => ?_
    have hcounted : (countFindings (findings s.prep.pass a.offset ws) s).reservationLaw := h.of_same rfl rfl
    unfold readBackDone
    dsimp only
    split
    · exact ((hcounted.nextStep _).grant.detectAll _).finish
    · exact ((hcounted.detectAll _).nextStep _).finish
  case checkRangeReadComplete =>
    refine of_done he fun a ws s h => ?_
    have hreported := State.reservationLaw.offerFixes
      (h.detectAll (detectionsOf .prep s.policyAt a ws)) (fixesOf s.policyAt a ws)
    unfold checkReadDone
    dsimp only
    repeat' split
    · exact hreported.finish
    · exact (hreported.checkAdvance _).finish
    · exact hreported.finish
  case commandFetchComplete =>
    refine of_done he fun a ws s h => ?_
    unfold fetchDone
    split
    · exact h.finish
    · exact State.reservationLaw.finish (h.of_same (by simp) (by simp))
  case diagWordReadComplete =>
    refine of_done (k := diagReadDone) he fun a ws s h => ?_
    unfold diagReadDone
    split
    · exact h.finish
    · exact State.reservationLaw.finish (h.of_same (by simp) (by simp))

theorem clearCarried_reservationLaw (a : Access) {s : State} (h : s.reservationLaw) :
    (clearCarried a s).reservationLaw := h.of_same (by simp) (by simp)

/-- What the requester of a write does after it keeps the law, but for the two that can change the regime. -/
theorem reservationLaw_writeDone {i : Instr} {p : Purpose} {s t : State} (hi : completesWrite i = some p)
    (hregime : i ≠ .zeroWriteComplete ∧ i ≠ .ringHeaderWriteComplete) (h : s.reservationLaw)
    (he : exec i s = .next t) : t.reservationLaw := by
  have of_done {k : Access → State → State} (he : atWrite p s k = .next t)
      (hk : ∀ a {s}, s.reservationLaw → (k a s).reservationLaw) : t.reservationLaw := by
    obtain rfl | ⟨a, -, -, rfl⟩ := atWrite_cases he
    · exact h
    · exact hk a (clearCarried_reservationLaw a (by exact h.of_same rfl rfl))
  cases i <;> cases hi
  case zeroWriteComplete => exact absurd rfl hregime.1
  case ringHeaderWriteComplete => exact absurd rfl hregime.2
  case frontWriteAccessComplete =>
    refine of_done he fun a s h => ?_
    unfold frontWriteDone frontDiscard
    repeat' split
    · exact h.finish
    all_goals exact State.reservationLaw.finish (h.of_same (by simp) (by simp))
  case fixRewriteComplete =>
    exact of_done (k := fixRewriteDone) he fun a s h => State.reservationLaw.endFix (h.of_same (by simp) (by simp))
  case migrationWriteComplete =>
    refine of_done he fun a s h => ?_
    unfold migrationWriteDone firstRepair reRepair
    repeat' split
    · exact h.finish
    · exact (endMigration_reservationLaw _ _).finish
    · exact (endMigration_reservationLaw _ _).finish
  case patternWriteComplete => exact of_done (k := patternWriteDone) he fun a s h => (h.nextStep _).finish
  case completionWriteComplete =>
    refine of_done (k := completionWriteDone) he fun a s h => ?_
    unfold completionWriteDone
    split
    · exact h.finish
    · exact State.reservationLaw.finish (by exact h.of_same rfl rfl)
  case doneWriteComplete =>
    refine of_done (k := doneWriteDone) he fun a s h => ?_
    unfold doneWriteDone
    split
    · exact h.finish
    · exact State.reservationLaw.finish (by exact h.of_same (by simp) (by simp))
  case diagWordWriteComplete =>
    refine of_done (k := diagWriteDone) he fun a s h => ?_
    unfold diagWriteDone
    split
    · exact h.finish
    · exact State.reservationLaw.finish (by exact h.of_same (by simp) (by simp))
  case eventEntryWordWriteComplete =>
    refine of_done (k := entryWriteDone) he fun a s h => ?_
    unfold entryWriteDone
    split
    · exact h.finish
    · exact State.reservationLaw.finish (by exact h.of_same rfl rfl)
  case produceWriteComplete =>
    refine of_done (k := produceWriteDone) he fun a s h => ?_
    unfold produceWriteDone
    split
    · exact State.reservationLaw.finish (h.of_same (by simp) (by simp))
    · exact h.finish

/-! ## A change of regime -/

theorem leaveRunning_reservationLaw {s : State} (h : s.reservationLaw) : (leaveRunning s).reservationLaw := by
  have hfront : (frontLeave s).reservationLaw := by
    unfold frontLeave
    repeat' split
    · exact h
    · exact State.reservationLaw.withdraw (by exact h.of_same rfl rfl) _
    · exact h
  have hcheck {s : State} (h : s.reservationLaw) : (checkLeave s).reservationLaw := by
    unfold checkLeave
    split
    · exact h.prepAbandon
    · exact h
  unfold leaveRunning
  have hported : (portLeave (reportsLeave (frontLeave s))).reservationLaw := hfront.of_same rfl rfl
  have hlater := State.reservationLaw.withdraw (s := dogLeave (watchLeave (checkLeave (portLeave (reportsLeave (frontLeave s))))))
    ((hcheck hported).of_same rfl rfl) .mailbox
  exact hlater.of_same rfl rfl

theorem reservationLaw_changeRegime (new : Regime) {s : State} (h : s.reservationLaw) :
    (changeRegime new s).reservationLaw := by
  have hbefore : (beforeScrubNews new s).reservationLaw := by
    by_cases hlost : s.ctl.regime.powered = true ∧ new.powered = false
    · refine reservationLaw_of_none ?_
      rw [(beforeScrubNews_lost new s hlost).2.1]
    have hleft : State.reservationLaw (if s.ctl.regime = .running ∧ new ≠ .running then leaveRunning s else s) := by
      split
      · exact leaveRunning_reservationLaw h
      · exact h
    have hset := hleft.of_same (t := setRegime new _) rfl rfl
    unfold beforeScrubNews
    dsimp only
    have hpowered : (s.ctl.regime.powered && !new.powered) = false := by simpa using hlost
    simp only [hpowered, Bool.false_eq_true, if_false]
    generalize setRegime new _ = u at hset
    have hentered : State.reservationLaw (if new = .running then enterRunning u else u) := by
      split
      · exact hset.of_same (by simp) (by simp)
      · exact hset
    generalize (if new = .running then enterRunning u else u) = v at hentered
    unfold prepNews
    repeat' split
    · exact hentered.beginPass _
    · exact hentered.prepAbandon
    · exact hentered
  rw [changeRegime_eq]
  exact hbefore.scrubNews.of_same (by simp) (by simp)

theorem regimeClosed_reservationLaw : RegimeClosed (fun _ => True) State.reservationLaw where
  quiet hquiet h := h.of_same (by rw [hquiet.repair]) hquiet.arbiter
  change new _ _ _ h := reservationLaw_changeRegime new h
  heaters h := h.of_same (by simp) (by simp)
  notice b h := h.queueNotice b
  record _ _ _ _ h := h.of_same (by simp) (by simp)
  pardon h := h.of_same rfl rfl
  finish h := h.finish

theorem reservationLaw_takeRestart (cause : RestartCause) (cold : Bool) {s : State} (h : s.reservationLaw) :
    (takeRestart cause cold s).reservationLaw := by
  unfold takeRestart
  dsimp only
  refine State.reservationLaw.of_same (reservationLaw_changeRegime _ ?_) rfl rfl
  exact h.of_same (by simp) (by simp)

theorem reservationLaw_zeroWriteDone (a : Access) {s : State} (h : s.reservationLaw) :
    (zeroWriteDone a s).reservationLaw := by
  have hreport {s : State} (doubtful : Bool) (h : s.reservationLaw) : (finishReport doubtful s).reservationLaw :=
    regimeClosed_reservationLaw.finishReport ⟨trivial, trivial⟩ doubtful h
  have hvalid : (zeroSweepReport s).reservationLaw := by
    unfold zeroSweepReport
    split
    · exact h.of_same rfl rfl
    · exact h
  unfold zeroWriteDone endPass
  dsimp only
  repeat' split
  · exact State.reservationLaw.finish (State.reservationLaw.nextStep (by exact h.of_same rfl rfl) _)
  · exact State.reservationLaw.finish (hreport _ (by exact hvalid.of_same rfl rfl))
  · exact State.reservationLaw.finish (by exact hvalid.of_same rfl rfl)
  · exact State.reservationLaw.finish (hreport _ (by exact hvalid.of_same rfl rfl))

/-! ## Every step -/

theorem reservationLaw_taker (c : CommandCode) {s : State} (h : s.reservationLaw) :
    (taker c s).reservationLaw := by
  by_cases hrepair : c = .repairGroup
  · subst hrepair
    unfold taker takeRepairGroup offerAndWait answer
    dsimp only
    repeat' split
    · exact h.of_same (by simp) (by simp)
    · exact State.reservationLaw.offerRepair (h.of_same (by simp) (by simp)) _
    · exact h.of_same (by simp) (by simp)
  by_cases hcheck : c = .checkRange
  · subst hcheck
    unfold taker takeCheckRange beginCheck answer
    dsimp only
    split
    · exact State.reservationLaw.prepHandle (by exact h.of_same rfl rfl)
    · exact h.of_same (by simp) (by simp)
  · exact h.calm (taker_rest c s hrepair hcheck)

theorem exec_reservationLaw_regime {i : Instr} {s t : State} (hi : .control ∈ touchedParts i)
    (h : s.reservationLaw) (he : exec i s = .next t) : t.reservationLaw := by
  have hload {s : State} (loaded : Settings) (defaults isPartial : Bool) (_ : Loadable loaded)
      (_ : s.loader.state = .reading) (h : s.reservationLaw) :
      (loadedState loaded defaults isPartial s).reservationLaw := h.of_same rfl rfl
  have of_written {p : Purpose} {k : Access → State → State} (hk : ∀ a {s}, s.reservationLaw → (k a s).reservationLaw)
      (he : atWrite p s k = .next t) : t.reservationLaw := by
    obtain rfl | ⟨a, -, -, rfl⟩ := atWrite_cases he
    · exact h
    · exact hk a (clearCarried_reservationLaw a (by exact h.of_same rfl rfl))
  by_cases hr : changesRegime i = true
  · exact regimeClosed_reservationLaw.exec (fun _ h => h.of_same rfl rfl)
      (fun _ _ cause cold _ => reservationLaw_takeRestart cause cold) hr (fun _ _ => trivial) h he
  cases i <;> simp [touchedParts, Part.detectionParts, changesRegime] at hi hr
  case partPowerOn =>
    cases he
    exact reservationLaw_of_none rfl
  case configReadReply data straps =>
    exact regimeClosed_reservationLaw.configLink ⟨trivial, trivial⟩ hload (.inl ⟨data, straps, rfl⟩) h he
  case configReadTimeout straps =>
    exact regimeClosed_reservationLaw.configLink ⟨trivial, trivial⟩ hload (.inr ⟨straps, rfl⟩) h he
  case zeroWriteComplete => exact of_written reservationLaw_zeroWriteDone he
  case ringHeaderWriteComplete =>
    exact of_written (fun a _ => regimeClosed_reservationLaw.headerDone trivial a) he

theorem exec_reservationLaw {i : Instr} {s t : State} (h : s.reservationLaw) (he : exec i s = .next t) :
    t.reservationLaw := by
  by_cases hregime : .control ∈ touchedParts i
  · exact exec_reservationLaw_regime hregime h he
  match hc : commandOf i, hw : completesWrite i, hr : completesRead i, hq : calmEvent i with
  | some c, _, _, _ =>
    obtain rfl | ⟨-, rfl⟩ := taking_cases (exec_command hc s ▸ he)
    · exact h
    · exact (reservationLaw_taker c h).finish
  | none, some p, _, _ =>
    refine reservationLaw_writeDone hw ⟨?_, ?_⟩ h he
    all_goals
      rintro rfl
      exact hregime (by simp [touchedParts, Part.regimeParts])
  | none, none, some (p, flips), _ => exact reservationLaw_readDone hr h he
  | none, none, none, true =>
    obtain ⟨u, hcalm, rfl | rfl⟩ := exec_calm hq he
    · exact h.calm hcalm
    · exact (h.calm hcalm).finish
  | none, none, none, false =>
    cases i <;> cases hc <;> cases hw <;> cases hr <;> cases hq
    case read | write | lineRead | lineWrite => cases he; exact h.frontAccept _ _ _ _
    case scrubIntervalExpiry =>
      simp only [exec, execScrubIntervalExpiry] at he
      split at he
      · cases he
        refine State.reservationLaw.finish ?_
        split
        · exact State.reservationLaw.chooseWork (by exact h.of_same rfl rfl)
        · exact h.of_same rfl rfl
      · exact Outcome.next.inj he ▸ h
    case prepRetryExpiry =>
      simp only [exec, execPrepRetryExpiry] at he
      split at he
      · rw [← Outcome.next.inj he]
        exact (h.beginPass _).finish
      · exact Outcome.next.inj he ▸ h
    all_goals exact absurd (by simp [touchedParts, Part.regimeParts, Part.all]) hregime

/-- Settles O57: a request is placed outside the reserved group alone, and setting a reservation establishes the law. -/
theorem keepsReservation : Obligations.KeepsReservation :=
  fun _ _ hs h => step_keeps (P := State.reservationLaw) (Q := State.reservationLaw)
    (fun _ _ hs => hs.of_same rfl rfl) (fun _ hs => hs) exec_reservationLaw hs h

end Sys2Proof.Machine

/-! SUPPORT. The laws of the watchdog, of the notice queue and of the keypad's announced flags: each looks at a few parts
of the state, so a step is examined only where it changes one of them. -/

namespace Sys2Proof.Machine

open Host (Outcome)

/-! ## Laws that look at a few parts -/

/-- A predicate is kept by whatever leaves the given parts as they were. -/
def DependsOn (parts : List Part) (P : State → Prop) : Prop :=
  ∀ s t : State, (∀ p ∈ parts, p.same s t) → P s → P t

theorem DependsOn.kept {parts ps : List Part} {P : State → Prop} (h : DependsOn parts P) {s t : State}
    (hkept : Kept ps s t) (hs : P s) (hdisjoint : ∀ p ∈ parts, p ∉ ps) : P t :=
  h s t (fun p hp => hkept p (hdisjoint p hp)) hs

theorem kept_evalHeaters (s : State) : Kept [.heaters] s (evalHeaters s) := by
  intro p hp; cases p <;> simp [Part.same] at hp ⊢

theorem kept_queueNotice (b : NoticeBody) (s : State) : Kept [.queue] s (queueNotice b s) := by
  intro p hp; cases p <;> simp [Part.same] at hp ⊢

theorem kept_appendRecord (cause : RestartCause) (requested : Option RestartKind) (kind : RestartKind) (s : State) :
    Kept [.restarts, .trace] s (appendRecord cause requested kind s) := by
  intro p hp; cases p <;> simp [Part.same] at hp ⊢

theorem kept_pardon (s : State) :
    Kept [.restarts] s { s with restarts := { s.restarts with escalation := [], coldCount := 0 } } := by
  intro p hp; cases p <;> simp [Part.same] at hp ⊢

theorem kept_memory_written (a : Access) (m : Memory) (s : State) :
    Kept [.memory] s (clearCarried a { s with port := none, mem := m }) :=
  (kept_port s m).andThen (kept_clearCarried a _)

theorem kept_prep (prep : Prep) (s : State) : Kept [] s { s with prep := prep } := by
  intro p _; cases p <;> simp [Part.same]

theorem kept_nextStep (step : PrepStep) (s : State) : Kept [] s (nextStep step s) := by
  unfold nextStep
  intro p _; cases p <;> simp [Part.same]

/-- The state of a restart once its record is made and its cause told, before the regime changes (R145 to R147). -/
def restartRecorded (cause : RestartCause) (cold : Bool) (s : State) : State :=
  tellCause cause (escalate (s.restartKind cold)
    (appendRecord cause (some (if cold then .cold else .warm)) (s.restartKind cold) s))

theorem takeRestart_eq (cause : RestartCause) (cold : Bool) (s : State) : takeRestart cause cold s =
    loadWindows (changeRegime (s.restartKind cold).regime (restartRecorded cause cold s)) := rfl

theorem kept_restartRecorded (cause : RestartCause) (cold : Bool) (s : State) :
    Kept [.restarts, .trace] s (restartRecorded cause cold s) := by
  unfold restartRecorded
  intro p hp; cases p <;> simp [Part.same] at hp ⊢

theorem kept_loadWindows (s : State) : Kept [.windows] s (loadWindows s) := by
  intro p hp; cases p <;> simp [Part.same] at hp ⊢

theorem kept_admitHeaters (counted : Bool) (s : State) : Kept [.heaters] s (admitHeaters counted s) := by
  intro p hp; cases p <;> simp [Part.same] at hp ⊢

/-- A law that every event that can change the regime keeps: what it asks of the updates that such an event is made
of. -/
structure LawClosed (parts : List Part) (P : State → Prop) : Prop extends RegimeClosed (fun _ => True) P where
  depends : DependsOn parts P
  memory : .memory ∉ parts
  pending : .pending ∉ parts
  admitted : ∀ {s}, s.ctl.regime = .soaking → P s → P (admitHeaters true s)
  restart : ∀ {s} cause cold, s.ctl.regime = .running → P s → P (takeRestart cause cold s)
  load : ∀ {s} loaded defaults isPartial, Loadable loaded → s.loader.state = .reading → P s →
    P (changeRegime .heating (loadedState loaded defaults isPartial s))
  valid : ∀ {s}, s.ctl.regime = .preparing → P s → P { s with ctl := { s.ctl with memValid := true } }
  reset : P State.reset

variable {parts : List Part} {P : State → Prop}

theorem LawClosed.kept (h : LawClosed parts P) {ps : List Part} {s t : State} (hkept : Kept ps s t) (hs : P s)
    (hdisjoint : ∀ p ∈ parts, p ∉ ps := by decide) : P t := h.depends.kept hkept hs hdisjoint

theorem LawClosed.zeroWriteDone (h : LawClosed parts P) (a : Access) {s : State} (hs : P s) :
    P (zeroWriteDone a s) := by
  have hquiet {s t : State} (hkept : Kept [] s t) (hs : P s) : P t := h.kept hkept hs (by simp)
  have hreport {s : State} (doubtful : Bool) (hs : P s) : P (Machine.finishReport doubtful s) :=
    h.toRegimeClosed.finishReport ⟨trivial, trivial⟩ doubtful hs
  have hvalid : P (zeroSweepReport s) := by
    unfold zeroSweepReport
    split
    · next hr => exact h.valid hr hs
    · exact hs
  unfold Machine.zeroWriteDone endPass
  dsimp only
  repeat' split
  · exact h.finish (hquiet (kept_nextStep _ _) (hquiet (kept_prep _ s) hs))
  · exact h.finish (hreport _ (hquiet (kept_prep _ _) hvalid))
  · exact h.finish (hquiet (kept_prep _ _) hvalid)
  · exact h.finish (hreport _ (hquiet (kept_prep _ _) hvalid))

theorem LawClosed.exec_control (h : LawClosed parts P) {i : Instr} {s t : State} (hi : .control ∈ touchedParts i)
    (hs : P s) (he : exec i s = .next t) : P t := by
  have of_written {p : Purpose} {k : Access → State → State} (hk : ∀ a {s}, P s → P (k a s))
      (he : atWrite p s k = .next t) : P t := by
    obtain rfl | ⟨a, -, -, rfl⟩ := atWrite_cases he
    · exact hs
    · refine hk a (h.kept (kept_memory_written a _ s) hs fun p hp hmem => h.memory ?_)
      rwa [← List.mem_singleton.1 hmem]
  by_cases hr : changesRegime i = true
  · exact h.toRegimeClosed.exec h.admitted (fun _ => h.restart) hr (fun _ _ => trivial) hs he
  cases i <;> simp [touchedParts, Part.detectionParts, changesRegime] at hi hr
  case partPowerOn =>
    cases he
    refine h.depends _ _ (fun p hp => ?_) h.reset
    cases p
    case pending => exact absurd hp h.pending
    all_goals simp [Part.same]
  case configReadReply data straps => exact h.configLink_of trivial h.load (.inl ⟨data, straps, rfl⟩) hs he
  case configReadTimeout straps => exact h.configLink_of trivial h.load (.inr ⟨straps, rfl⟩) hs he
  case zeroWriteComplete => exact of_written h.zeroWriteDone he
  case ringHeaderWriteComplete => exact of_written (fun a _ => h.toRegimeClosed.headerDone trivial a) he

/-- A law kept by every command, once the commands that change one of its parts and not the regime are seen to. -/
theorem LawClosed.exec (h : LawClosed parts P) {i : Instr} {s t : State}
    (hother : .control ∉ touchedParts i → (∃ p ∈ parts, p ∈ touchedParts i) → P t)
    (hs : P s) (he : Machine.exec i s = .next t) : P t := by
  by_cases hcontrol : .control ∈ touchedParts i
  · exact h.exec_control hcontrol hs he
  · by_cases hsome : ∃ p ∈ parts, p ∈ touchedParts i
    · exact hother hcontrol hsome
    · exact h.kept (exec_kept he) hs fun p hp hmem => hsome ⟨p, hp, hmem⟩

/-! ## The completions of reads, whose words can hold errors -/

theorem kept_copyToSlot (m : Migration) (a : Access) (ws : List MemWord) (s : State)
    (hm : s.repair.migration = some m) : Kept [] s (copyToSlot m a ws s) := by
  intro p _
  cases p
  case repairs => simp [Part.same, Repair.shape, copyToSlot, hm]
  all_goals simp [Part.same, copyToSlot]

theorem kept_endFix (s : State) : Kept [] s (endFix s) := by
  unfold endFix removeServed
  split
  all_goals intro p _; cases p <;> simp [Part.same]

theorem kept_countFindings (fs : List Finding) (s : State) : Kept [] s (countFindings fs s) := by
  intro p _; cases p <;> simp [Part.same, countFindings]

theorem kept_grant (s : State) : Kept [] s (grant s) := by
  intro p _
  cases p
  case repairs => exact grant_shape s
  all_goals simp [Part.same]

/-- A law that detections keep, and the end of a migration that is declined, is kept by the completion of every read. -/
theorem LawClosed.readDone (h : LawClosed parts P) (hdetect : ∀ {s} d, P s → P (detect d s))
    (hdecline : ∀ {s} e, P s → P (declineRepair e s)) {i : Instr} {p : Purpose} {flips : List MemWord} {s t : State}
    (hi : completesRead i = some (p, flips)) (hs : P s) (he : Machine.exec i s = .next t) : P t := by
  have hquiet {s t : State} (hkept : Kept [] s t) (hs : P s) : P t := h.kept hkept hs (by simp)
  have hdetectAll {s : State} (ds : List Detection) (hs : P s) : P (detectAll ds s) := by
    induction ds generalizing s with
    | nil => exact hs
    | cons d ds ih => exact ih (hdetect d hs)
  have of_done {k : Access → List MemWord → State → State} (he : atRead p flips s k = .next t)
      (hk : ∀ a ws {s}, P s → P (k a ws s)) : P t := by
    obtain rfl | ⟨a, -, -, rfl⟩ := atRead_cases he
    · exact hs
    · refine hk a _ (h.kept (kept_port s _) hs fun p hp hmem => h.memory ?_)
      rwa [← List.mem_singleton.1 hmem]
  cases i <;> cases hi
  case frontReadAccessComplete =>
    refine of_done he fun a ws s hs => hquiet ?_ (hdetectAll (detectionsOf .frontRead (fun _ => s.frontPolicy) a ws) hs)
    unfold frontReadDone answerRead frontDiscard
    dsimp only
    repeat' split
    all_goals intro p _; cases p <;> simp [Part.same]
  case frontMergeReadComplete =>
    refine of_done he fun a ws s hs => hquiet ?_ (hdetectAll (detectionsOf .frontMerge (fun _ => s.frontPolicy) a ws) hs)
    unfold frontMergeDone mergeFails mergeWrites frontDiscard
    dsimp only
    repeat' split
    all_goals intro p _; cases p <;> simp [Part.same]
  case fixPairReadComplete =>
    refine of_done he fun a ws s hs => ?_
    unfold fixReadDone
    dsimp only
    split
    · exact hquiet (kept_endFix s) hs
    · exact hquiet (kept_endFix _) (hdetect _ hs)
    · exact hquiet (fun p _ => by cases p <;> simp [Part.same]) hs
  case sweepReadComplete =>
    refine of_done he fun a ws s hs => hquiet ?_ (hdetectAll (detectionsOf .scrub s.policyAt a ws) hs)
    unfold sweepDone advanceSweep
    dsimp only
    split
    all_goals intro p _; cases p <;> simp [Part.same]
  case migrationReadComplete =>
    refine of_done he fun a ws s hs => ?_
    have hreported := hdetectAll (detectionsOf .migration s.policyAt a ws) hs
    unfold migrationReadDone
    dsimp only
    repeat' split
    · exact h.finish hreported
    · exact h.finish (hdecline _ hreported)
    · next hm _ _ _ _ => exact h.finish (hquiet (kept_copyToSlot _ a ws _ hm) hreported)
    · next hm _ _ => exact h.finish (hquiet (kept_copyToSlot _ a ws _ hm) hreported)
  case readBackComplete engineFirst =>
    refine of_done he fun a ws s hs => ?_
    have hcounted := hquiet (kept_countFindings (findings s.prep.pass a.offset ws) s) hs
    unfold readBackDone
    dsimp only
    split
    · exact h.finish (hdetectAll _ (hquiet (kept_grant _) (hquiet (kept_nextStep _ _) hcounted)))
    · exact h.finish (hquiet (kept_nextStep _ _) (hdetectAll _ hcounted))
  case checkRangeReadComplete =>
    refine of_done he fun a ws s hs => hquiet ?_ (hdetectAll (detectionsOf .prep s.policyAt a ws) hs)
    unfold checkReadDone
    dsimp only
    repeat' split
    all_goals intro p _; cases p <;> simp [Part.same]
  case commandFetchComplete => exact of_done he fun a ws s hs => hquiet (kept_fetchDone a ws s) hs
  case diagWordReadComplete =>
    exact of_done (k := diagReadDone) he fun a ws s hs => hquiet (kept_diagReadDone a ws s) hs

/-! ## What a change of regime does to the watchdog, the queue and the keypad -/

/-- The watchdog after an entry into RUNNING depends on the settings alone (R135). -/
theorem enterRunning_dog {s t : State} (h : t.loader = s.loader) : (enterRunning t).dog = (enterRunning s).dog := by
  have hsettings : t.settings = s.settings := by unfold State.settings; rw [h]
  unfold enterRunning
  dsimp only
  rw [hsettings]

theorem changeRegime_dog (new : Regime) (s : State) : (changeRegime new s).dog =
    if new = .running then (enterRunning s).dog
    else if s.ctl.regime = .running then (dogLeave s).dog else s.dog := by
  rw [changeRegime_eq]
  simp only [lampUpdate_frame, evalHeaters_frame, scrubNews_frame, beforeScrubNews, prepNews_frame]
  by_cases hnew : new = .running
  · simp only [hnew, ne_eq, not_true_eq_false, and_false, if_false, if_true]
    split
    all_goals exact enterRunning_dog (by simp)
  · simp only [hnew, ne_eq, not_false_eq_true, and_true, if_false]
    by_cases hold : s.ctl.regime = .running
    · simp only [hold, if_true]
      split
      all_goals simp [setRegime, leaveRunning, dogLeave]
    · simp only [hold, if_false]
      split
      all_goals simp

theorem changeRegime_queue (new : Regime) (s : State) : (changeRegime new s).queue =
    if s.ctl.regime = .running ∧ new ≠ .running then s.queue.filter fun n => !n.body.isKey else s.queue := by
  rw [changeRegime_eq]
  simp only [lampUpdate_frame, evalHeaters_frame, scrubNews_frame, beforeScrubNews, prepNews_frame]
  by_cases hleave : s.ctl.regime = .running ∧ new ≠ .running
  · simp only [hleave, ne_eq, not_false_eq_true, and_self, if_true, if_false]
    split
    all_goals simp [leaveRunning, mailboxLeave]
  · simp only [hleave, if_false]
    repeat' split
    all_goals simp [enterRunning_frame]

theorem changeRegime_positions (new : Regime) (s : State) : (changeRegime new s).keypad.positions =
    if s.ctl.regime = .running ∧ new ≠ .running then s.keypad.positions.map fun p => { p with announced := false }
    else s.keypad.positions := by
  rw [changeRegime_eq]
  simp only [lampUpdate_frame, evalHeaters_frame, scrubNews_frame, beforeScrubNews, prepNews_frame]
  by_cases hleave : s.ctl.regime = .running ∧ new ≠ .running
  · simp only [hleave, ne_eq, not_false_eq_true, and_self, if_true, if_false]
    split
    all_goals simp [leaveRunning, keypadLeave]
  · simp only [hleave, if_false]
    repeat' split
    all_goals simp [enterRunning_frame]

/-! ## The watchdog (R135) -/

theorem dependsOn_dogLaw : DependsOn [.control, .dog] State.dogLaw := by
  intro s t hsame h
  obtain ⟨hregime, -⟩ := hsame .control (by simp)
  have hdog : t.dog = s.dog := hsame .dog (by simp)
  unfold State.dogLaw
  rwa [hregime, hdog]

theorem dogLaw_of_running {s : State} (h : s.ctl.regime = .running) : s.dogLaw := fun hne => absurd h hne

theorem dogLaw_changeRegime (new : Regime) {s : State} (h : s.dogLaw) : (changeRegime new s).dogLaw := by
  intro hne
  rw [changeRegime_regime] at hne
  rw [changeRegime_dog, if_neg hne]
  split
  · exact ⟨rfl, rfl, rfl⟩
  · next hold => exact h hold

theorem lawClosed_dogLaw : LawClosed [.control, .dog] State.dogLaw where
  quiet hquiet h := dependsOn_dogLaw.kept hquiet.kept h (by simp)
  change new _ _ _ h := dogLaw_changeRegime new h
  heaters h := dependsOn_dogLaw.kept (kept_evalHeaters _) h (by simp)
  notice b h := dependsOn_dogLaw.kept (kept_queueNotice b _) h (by simp)
  record _ _ _ _ h := dependsOn_dogLaw.kept (kept_appendRecord _ _ _ _) h (by simp)
  pardon h := dependsOn_dogLaw.kept (kept_pardon _) h (by simp)
  finish h := dependsOn_dogLaw.kept (kept_finish _) h (by simp)
  depends := dependsOn_dogLaw
  memory := by simp
  pending := by simp
  admitted _ h := h
  restart cause cold _ h := by
    rw [takeRestart_eq]
    exact dependsOn_dogLaw.kept (kept_loadWindows _) (dogLaw_changeRegime _
      (dependsOn_dogLaw.kept (kept_restartRecorded cause cold _) h (by simp))) (by simp)
  load loaded defaults isPartial _ _ h := dogLaw_changeRegime _ h
  valid _ h := h
  reset := fun _ => ⟨rfl, rfl, rfl⟩


theorem exec_dogLaw {i : Instr} {s t : State} (h : s.dogLaw) (he : exec i s = .next t) : t.dogLaw := by
  refine lawClosed_dogLaw.exec (fun hcontrol hsome => ?_) h he
  have hregime : t.ctl.regime = s.ctl.regime := (exec_kept he .control hcontrol).1
  by_cases hr : s.ctl.regime = .running
  · exact dogLaw_of_running (hregime.trans hr)
  obtain ⟨hstate, htimer, hrequest⟩ := h hr
  suffices hdog : t.dog = s.dog by
    intro _
    rw [hdog]
    exact ⟨hstate, htimer, hrequest⟩
  have hreport (kind : ReportKind → Bool) (k : FrontReport → State → State) : (takeReport kind k s).dog = s.dog := by
    unfold takeReport
    simp only [hr, if_false]
    repeat' split
    all_goals rfl
  cases i <;> simp [touchedParts, Part.all, Part.regimeParts, Part.detectionParts] at hcontrol hsome
  case watchWriteReport | watchReadReport =>
    cases he
    exact hreport _ _
  case bootLimitExpiry | warnWindowExpiry | periodExpiry =>
    simp only [exec, execBootLimitExpiry, execWarnWindowExpiry, execPeriodExpiry, hstate] at he
    cases he
    rfl
  case armWatchdog | disarmWatchdog =>
    obtain rfl | ⟨-, rfl⟩ := taking_cases he
    · rfl
    · simp only [takeArmWatchdog, takeDisarmWatchdog, underLock, answer, hstate, reduceCtorEq, or_self, false_and,
        if_false]
      repeat' split
      all_goals simp


/-! ## The notice queue (R189) -/

theorem State.queueLaw.of_same {s t : State} (h : s.queueLaw) (hqueue : t.queue = s.queue)
    (hregime : t.ctl.regime = s.ctl.regime) : t.queueLaw := by
  unfold State.queueLaw
  rwa [hqueue, hregime]

theorem dependsOn_queueLaw : DependsOn [.control, .queue] State.queueLaw :=
  fun _ _ hsame h => h.of_same (hsame .queue (by simp)) (hsame .control (by simp)).1

/-- A queue whose notices are all among those of a lawful queue, and no more of them, is lawful. -/
theorem State.queueLaw.sublist {s t : State} (h : s.queueLaw) (hqueue : t.queue.Sublist s.queue)
    (hregime : t.ctl.regime = s.ctl.regime) : t.queueLaw := by
  obtain ⟨hlength, hkeys⟩ := h
  exact ⟨Nat.le_trans hqueue.length_le hlength, fun hne n hn => hkeys (hregime ▸ hne) n (hqueue.subset hn)⟩

theorem dropOldestKey_sublist (q q' : List Notice) (h : dropOldestKey q = some q') :
    q'.Sublist q ∧ q'.length + 1 = q.length := by
  induction q generalizing q' with
  | nil => cases h
  | cons n q ih =>
    simp only [dropOldestKey] at h
    split at h
    · cases h
      simp
    · obtain ⟨r, hr, rfl⟩ := Option.map_eq_some_iff.1 h
      obtain ⟨hsub, hlength⟩ := ih r hr
      exact ⟨hsub.cons_cons n, by simp [hlength]⟩

theorem displaceKey_sublist (posting : Bool) (q q' : List Notice) (h : displaceKey posting q = some q') :
    q'.Sublist q ∧ q'.length + 1 = q.length := by
  unfold displaceKey at h
  split at h
  · split at h
    · cases h
    · obtain ⟨r, hr, rfl⟩ := Option.map_eq_some_iff.1 h
      obtain ⟨hsub, hlength⟩ := dropOldestKey_sublist _ r hr
      exact ⟨hsub.cons_cons _, by simp [hlength]⟩
  · exact dropOldestKey_sublist q q' h

/-- A notice arrives at a full queue only in the place of another, and a KEY notice only in RUNNING (R189, R190). -/
theorem State.queueLaw.queueNotice {s : State} (h : s.queueLaw) (b : NoticeBody) : (queueNotice b s).queueLaw := by
  have happended (q : List Notice) (hsub : q.Sublist s.queue) (hroom : q.length < 32)
      (hkey : ¬ (b.isKey && decide (s.ctl.regime ≠ .running)) = true) (missed : Byte) :
      State.queueLaw { s with queue := q ++ [{ session := s.clock.session, body := b }], missed := missed } := by
    refine ⟨by simp; omega, fun hne n hn => ?_⟩
    obtain hn | hn := List.mem_append.1 hn
    · exact h.2 hne n (hsub.subset hn)
    · rw [List.mem_singleton.1 hn]
      simpa [hne] using hkey
  unfold Machine.queueNotice
  dsimp only
  repeat' split
  · exact h
  · next hkey hroom => exact happended _ (List.Sublist.refl _) hroom hkey s.missed
  · exact h
  · next hkey _ _ _ q hq =>
    obtain ⟨hsub, hlength⟩ := displaceKey_sublist _ _ q hq
    have hfull := h.1
    exact happended q hsub (by omega) hkey _
  · exact h

theorem queueLaw_changeRegime (new : Regime) {s : State} (h : s.queueLaw) : (changeRegime new s).queueLaw := by
  refine ⟨?_, fun hne n hn => ?_⟩
  · rw [changeRegime_queue]
    split
    · exact Nat.le_trans (List.length_filter_le _ _) h.1
    · exact h.1
  · rw [changeRegime_regime] at hne
    rw [changeRegime_queue] at hn
    split at hn
    · simpa using (List.mem_filter.1 hn).2
    · next hstays => exact h.2 (fun hold => hstays ⟨hold, hne⟩) n hn

theorem lawClosed_queueLaw : LawClosed [.control, .queue] State.queueLaw where
  quiet hquiet h := dependsOn_queueLaw.kept hquiet.kept h (by simp)
  change new _ _ _ h := queueLaw_changeRegime new h
  heaters h := dependsOn_queueLaw.kept (kept_evalHeaters _) h (by simp)
  notice b h := h.queueNotice b
  record _ _ _ _ h := dependsOn_queueLaw.kept (kept_appendRecord _ _ _ _) h (by simp)
  pardon h := dependsOn_queueLaw.kept (kept_pardon _) h (by simp)
  finish h := dependsOn_queueLaw.kept (kept_finish _) h (by simp)
  depends := dependsOn_queueLaw
  memory := by simp
  pending := by simp
  admitted _ h := h
  restart cause cold _ h := by
    rw [takeRestart_eq]
    exact dependsOn_queueLaw.kept (kept_loadWindows _) (queueLaw_changeRegime _
      (dependsOn_queueLaw.kept (kept_restartRecorded cause cold _) h (by simp))) (by simp)
  load loaded defaults isPartial _ _ h := queueLaw_changeRegime _ (h.of_same rfl rfl)
  valid _ h := h
  reset := ⟨by decide, fun _ _ hn => (List.not_mem_nil hn).elim⟩

/-! ### Detections and repairs, which queue ERROR and REPAIR notices -/

theorem State.queueLaw.reportOutcome {s : State} (h : s.queueLaw) (n : RepairNotice) :
    (reportOutcome n s).queueLaw := by
  have hnotice := h.queueNotice (.repair n)
  unfold Machine.reportOutcome
  dsimp only
  split
  · exact hnotice.of_same (by simp) (by simp)
  · exact hnotice

theorem State.queueLaw.refuseFull {s : State} (h : s.queueLaw) (g : Nat) : (refuseFull g s).queueLaw :=
  State.queueLaw.reportOutcome (by exact h.of_same rfl rfl) _

theorem State.queueLaw.reoffer {s : State} (h : s.queueLaw) : (reoffer s).queueLaw := h.of_same (by simp) (by simp)

theorem State.queueLaw.startMigrations {s : State} (h : s.queueLaw) (fuel : Nat) :
    (startMigrations fuel s).queueLaw := by
  induction fuel generalizing s with
  | zero => exact h
  | succ fuel ih =>
    unfold Machine.startMigrations
    dsimp only
    repeat' split
    · exact h
    · exact h
    · exact ih (State.queueLaw.reoffer (State.queueLaw.refuseFull (by exact h.of_same rfl rfl) _))
    · exact h.of_same (by simp) (by simp)

theorem State.queueLaw.offerRepair {s : State} (h : s.queueLaw) (g : Nat) : (offerRepair g s).queueLaw := by
  unfold Machine.offerRepair
  repeat' split
  · exact h.of_same rfl rfl
  · exact h
  · exact h.of_same rfl rfl
  · exact State.queueLaw.startMigrations (by exact h.of_same rfl rfl) _

theorem State.queueLaw.endMigration {s : State} (h : s.queueLaw) (n : RepairNotice) : (endMigration n s).queueLaw := by
  unfold Machine.endMigration
  refine State.queueLaw.startMigrations (State.queueLaw.reportOutcome ?_ n) _
  exact h.of_same (by simp) (by simp)

theorem State.queueLaw.detect {s : State} (h : s.queueLaw) (d : Detection) : (detect d s).queueLaw := by
  have hcoalesce {s : State} (h : s.queueLaw) (e : LogEntry) : (coalesce d e s).queueLaw := by
    unfold coalesce
    dsimp only
    repeat' split
    · exact h
    · exact State.queueLaw.offerRepair (by exact h.of_same rfl rfl) _
    · exact h.of_same rfl rfl
  have henter {s : State} (h : s.queueLaw) : (enterDetection d s).queueLaw := by
    unfold enterDetection
    dsimp only
    repeat' split
    · exact State.queueLaw.offerRepair (by exact h.of_same rfl rfl) _
    · exact h.of_same rfl rfl
    · exact State.queueLaw.queueNotice (State.queueLaw.offerRepair (by exact h.of_same rfl rfl) _) _
    · exact State.queueLaw.queueNotice (by exact h.of_same rfl rfl) _
  have hcounted : (countDetection d s).queueLaw := h.of_same (by simp) (by simp)
  unfold Machine.detect
  dsimp only
  repeat' split
  · exact hcoalesce hcounted _
  · exact henter hcounted
  · exact hcounted.of_same rfl rfl
  · exact henter (hcounted.of_same rfl rfl)
  · exact hcounted.of_same rfl rfl

theorem queueLaw_declineRepair (e : RepairEntry) {s : State} (h : s.queueLaw) : (declineRepair e s).queueLaw :=
  State.queueLaw.endMigration (by exact h.of_same rfl rfl) _

end Sys2Proof.Machine

/-! SUPPORT. One keypad sample as a sequence of small updates, and what each of them does to the laws of the notice queue
and of the announced flags (R165 to R174). -/

namespace Sys2Proof.Machine

open Host (Outcome)

/-! ## A sample in small updates -/

/-- A new record of a position is announced only where R165 produces the press, or where the old record was announced
and the position stays in DOWN or in RELEASING from DOWN. -/
def KeyAllowed (s : State) (p : Nat) (k : KeyPosition) : Prop :=
  k.announced = true →
    (k.state = .down ∧ s.produces p = true) ∨
      ((s.key p).announced = true ∧
        ((s.key p).state = .down ∨ (s.key p).state = .releasing .down → k.state = .down ∨ k.state = .releasing .down))

/-- What a sample is made of: records of positions replaced, notices, and updates of no part that a law looks at. -/
inductive Scans : State → State → Prop where
  | rest {s t : State} (h : Kept [] s t) : Scans s t
  | key {s : State} (p : Nat) (k : KeyPosition) (h : KeyAllowed s p k) : Scans s (setKeyPos p k s)
  | notice {s : State} (b : NoticeBody) : Scans s (queueNotice b s)
  | trans {s t u : State} (h : Scans s t) (h' : Scans t u) : Scans s u

theorem Scans.refl (s : State) : Scans s s := .rest (Kept.refl _ s)

theorem keyAllowed_of_unannounced {s : State} {p : Nat} {k : KeyPosition} (h : k.announced = false) :
    KeyAllowed s p k := fun ha => by simp [h] at ha

theorem keyAllowed_of_state {s : State} {p : Nat} {k : KeyPosition} (ha : k.announced = (s.key p).announced)
    (hstate : (s.key p).state = .down ∨ (s.key p).state = .releasing .down →
      k.state = .down ∨ k.state = .releasing .down) : KeyAllowed s p k := fun h => .inr ⟨ha ▸ h, hstate⟩

theorem scans_silent {s : State} (p : Nat) (k : KeyPosition) (h : k.announced = false) : Scans s (setKeyPos p k s) :=
  .key p k (keyAllowed_of_unannounced h)

theorem scans_keyNotice {s t : State} (h : Scans s t) (event : KeyEvent) (p : Nat) (repeats stuckCount : Option Byte) :
    Scans s (keyNotice event p repeats stuckCount t) := h.trans (.notice _)

theorem becomeDown_scans (p : Nat) (s : State) : Scans s (becomeDown p s) := by
  have hkey : Scans s (setKeyPos p { s.key p with
      state := .down, countdown := 0, held := 0, repeatTime := 0, repeats := 0, announced := s.produces p } s) :=
    .key p _ fun h => .inl ⟨rfl, h⟩
  unfold becomeDown
  dsimp only
  split
  · exact scans_keyNotice hkey _ _ _ _
  · exact hkey

theorem pressCompletes_scans (p : Nat) (s : State) : Scans s (pressCompletes p s) := by
  unfold pressCompletes
  split
  · exact scans_silent p _ rfl
  · exact becomeDown_scans p s

theorem releaseCompletes_scans (p : Nat) (leaving : Leaving) (s : State) : Scans s (releaseCompletes p leaving s) := by
  have hkey : Scans s (setKeyPos p { s.key p with
      state := .up, countdown := 0, held := 0, repeatTime := 0, repeats := 0, announced := false } s) :=
    scans_silent p _ rfl
  unfold releaseCompletes
  dsimp only
  cases leaving <;> dsimp only
  case down =>
    split
    · exact scans_keyNotice hkey _ _ _ _
    · exact hkey
  case blocked => exact hkey
  case stuck =>
    split
    · exact scans_keyNotice hkey _ _ _ _
    · exact hkey

theorem debounceKey_scans (contacts : BitVec 64) (s : State) (p : Nat) : Scans s (debounceKey contacts s p) := by
  have hkeep (k : KeyPosition) (ha : k.announced = (s.key p).announced)
      (hstate : (s.key p).state = .down ∨ (s.key p).state = .releasing .down →
        k.state = .down ∨ k.state = .releasing .down) : Scans s (setKeyPos p k s) :=
    .key p k (keyAllowed_of_state ha hstate)
  unfold debounceKey
  dsimp only
  split
  · cases hk : (s.key p).state <;> dsimp only
    case up => exact hkeep _ rfl (by simp [hk])
    case pressing =>
      split
      · exact pressCompletes_scans p s
      · exact hkeep _ rfl (by simp [hk])
    case releasing l => exact hkeep _ rfl (by cases l <;> simp [hk, Leaving.state])
    all_goals exact Scans.refl s
  · cases hk : (s.key p).state <;> dsimp only
    case up => exact Scans.refl s
    case releasing l =>
      split
      · exact releaseCompletes_scans p l s
      · exact hkeep _ rfl (by simp [hk])
    all_goals exact hkeep _ rfl (by simp [hk])

theorem key_setKeyPos_same (p : Nat) (k : KeyPosition) (s : State) (h : p < s.keypad.positions.length) :
    (setKeyPos p k s).key p = k := by
  simp [State.key, setKeyPos, List.getD, h]

theorem key_setKeyPos_other (p q : Nat) (k : KeyPosition) (s : State) (h : q ≠ p) :
    (setKeyPos p k s).key q = s.key q := by
  simp [State.key, setKeyPos, List.getD, Ne.symm h]

theorem autoRepeat_scans (p : Nat) (s : State) : Scans s (autoRepeat p s) := by
  have hkeep (k : KeyPosition) (ha : k.announced = (s.key p).announced) (hstate : k.state = (s.key p).state) :
      Scans s (setKeyPos p k s) := .key p k (keyAllowed_of_state ha (hstate ▸ id))
  unfold autoRepeat
  dsimp only
  repeat' split
  · exact scans_keyNotice (by exact hkeep _ rfl rfl) _ _ _ _
  · exact hkeep _ rfl rfl
  · exact hkeep _ rfl rfl
  · exact Scans.refl s

theorem advanceKey_scans (s : State) (p : Nat) : Scans s (advanceKey s p) := by
  unfold advanceKey
  dsimp only
  repeat' split
  · exact scans_keyNotice (scans_silent p _ rfl) _ _ _ _
  · exact scans_silent p _ rfl
  · refine Scans.trans ?_ (autoRepeat_scans p _)
    exact .key p _ (keyAllowed_of_state rfl id)

theorem retestKey_scans (s : State) (p : Nat) : Scans s (retestKey s p) := by
  unfold retestKey
  split
  · exact becomeDown_scans p s
  · exact Scans.refl s

theorem foldl_scans {α : Type} (f : State → α → State) (hf : ∀ s x, Scans s (f s x)) (xs : List α) (s : State) :
    Scans s (xs.foldl f s) := by
  induction xs generalizing s with
  | nil => exact Scans.refl s
  | cons x xs ih => exact (hf s x).trans (ih _)

theorem setChord_scans (i : Nat) (c : ChordRecord) (s : State) : Scans s (setChord i c s) := by
  refine .rest fun p _ => ?_
  cases p <;> simp [Part.same]

theorem recognise_scans (i : Nat) (s : State) : Scans s (recognise i s) := by
  have hclear (c : ChordRecord) : Scans s (clearAnnounced (s.chord i).chord.members (setChord i c s)) :=
    (setChord_scans i c s).trans (foldl_scans _ (fun _ p => scans_silent p _ rfl) _ _)
  have hasked {c : ChordRecord} {t : State}
      (h : Kept [] (clearAnnounced (s.chord i).chord.members (setChord i c s)) t) : Scans s t :=
    (hclear c).trans (.rest h)
  unfold recognise
  dsimp only
  split
  case h_4 =>
    unfold chordNotice
    refine Scans.trans ?_ (.notice _)
    exact hclear _
  all_goals exact hasked fun p _ => by cases p <;> simp [Part.same]; rfl

theorem judgeChord_scans (s : State) (i : Nat) : Scans s (judgeChord s i) := by
  unfold judgeChord
  dsimp only
  generalize (if ((s.chord i).chord.members.any fun p => (s.key p).state.held) = true then s.chord i
    else { s.chord i with spent := false }) = c
  repeat' split
  · exact (setChord_scans i _ s).trans (recognise_scans i _)
  all_goals exact setChord_scans i _ s

/-- One sample, whole (R173). -/
theorem takeSample_scans (contacts : BitVec 64) (s : State) : Scans s (takeSample contacts s) := by
  unfold takeSample
  dsimp only
  exact (((foldl_scans _ (debounceKey_scans contacts) _ s).trans (foldl_scans _ advanceKey_scans _ _)).trans
    (foldl_scans _ retestKey_scans _ _)).trans (foldl_scans _ judgeChord_scans _ _)


/-! ## The two laws over a sample -/

theorem Scans.queueLaw {s t : State} (hscans : Scans s t) (h : s.queueLaw) : t.queueLaw := by
  induction hscans with
  | rest hkept => exact dependsOn_queueLaw.kept hkept h (by simp)
  | key p k _ => exact h.of_same rfl rfl
  | notice b => exact h.queueNotice b
  | trans _ _ ih ih' => exact ih' (ih h)

theorem dependsOn_keypadLaw : DependsOn [.control, .loader, .keys] State.keypadLaw := by
  intro s t hsame h p k hk ha
  obtain ⟨hregime, -⟩ := hsame .control (by simp)
  obtain ⟨-, hloaded⟩ := hsame .loader (by simp)
  obtain ⟨hpositions, hmap⟩ := hsame .keys (by simp)
  have hsettings : t.settings = s.settings := by unfold State.settings; rw [hloaded]
  have hentry : t.keyMap p = s.keyMap p := by unfold State.keyMap; rw [hmap]
  rw [hpositions] at hk
  rw [hregime, reportable_kept s t p hsettings hentry]
  exact h p k hk ha

/-- What the law says of the record of a position. -/
theorem State.keypadLaw.key {s : State} (h : s.keypadLaw) {p : Nat} (ha : (s.key p).announced = true) :
    s.ctl.regime = .running ∧ ((s.key p).state = .down ∨ (s.key p).state = .releasing .down) ∧
      s.reportable p = true := by
  cases hp : s.keypad.positions[p]? with
  | none => simp [State.key, List.getD, hp, KeyPosition.initial] at ha
  | some k =>
    have hk : s.key p = k := by simp [State.key, List.getD, hp]
    rw [hk] at ha ⊢
    exact h p k hp ha

theorem Scans.keypadLaw {s t : State} (hscans : Scans s t) (h : s.keypadLaw) : t.keypadLaw := by
  induction hscans with
  | rest hkept => exact dependsOn_keypadLaw.kept hkept h (by simp)
  | key p k hallowed =>
    refine keypadLaw_setKeyPos p k _ h fun ha => ?_
    obtain ⟨hdown, hproduces⟩ | ⟨hold, hstate⟩ := hallowed ha
    · simp only [State.produces, Bool.and_eq_true, decide_eq_true_eq] at hproduces
      exact ⟨hproduces.2, .inl hdown, hproduces.1⟩
    · obtain ⟨hregime, hdown, hreportable⟩ := h.key hold
      exact ⟨hregime, hstate hdown, hreportable⟩
  | notice b => exact dependsOn_keypadLaw.kept (kept_queueNotice b _) h (by simp)
  | trans _ _ ih ih' => exact ih' (ih h)

/-! ## The notice queue over a step -/

theorem exec_queueLaw {i : Instr} {s t : State} (h : s.queueLaw) (he : exec i s = .next t) : t.queueLaw := by
  refine lawClosed_queueLaw.exec (fun hcontrol hsome => ?_) h he
  have hqueue : .queue ∈ touchedParts i := by
    obtain ⟨p, hp, hmem⟩ := hsome
    obtain rfl | rfl : p = .control ∨ p = .queue := by simpa using hp
    · exact absurd hmem hcontrol
    · exact hmem
  match hr : completesRead i with
  | some (p, flips) =>
    exact lawClosed_queueLaw.readDone (fun d h => h.detect d) (fun e h => queueLaw_declineRepair e h) hr h he
  | none =>
    cases i <;> cases hr <;> simp [touchedParts, Part.all, Part.regimeParts] at hcontrol hqueue
    case migrationWriteComplete =>
      obtain rfl | ⟨a, -, -, rfl⟩ := atWrite_cases he
      · exact h
      have hwritten : State.queueLaw (clearCarried a { s with port := none, mem := writeWords a.words (s.accessAddress a) s.mem }) :=
        dependsOn_queueLaw.kept (kept_memory_written a _ s) h (by simp)
      unfold migrationWriteDone firstRepair reRepair
      repeat' split
      · exact lawClosed_queueLaw.finish hwritten
      all_goals exact lawClosed_queueLaw.finish (State.queueLaw.endMigration (by exact hwritten.of_same rfl rfl) _)
    case produceWriteComplete =>
      obtain rfl | ⟨a, -, -, rfl⟩ := atWrite_cases (k := produceWriteDone) he
      · exact h
      have hwritten : State.queueLaw (clearCarried a { s with port := none, mem := writeWords a.words (s.accessAddress a) s.mem }) :=
        dependsOn_queueLaw.kept (kept_memory_written a _ s) h (by simp)
      refine lawClosed_queueLaw.finish ?_
      split
      · unfold removePosted
        split
        · exact hwritten.sublist (List.tail_sublist _) rfl
        · exact hwritten
      · exact hwritten
    case chordOutcome =>
      simp only [exec, execChordOutcome] at he
      split at he
      · cases he
        exact lawClosed_queueLaw.finish (State.queueLaw.queueNotice (by exact h.of_same rfl rfl) _)
      · exact Outcome.next.inj he ▸ h
    case periodExpiry =>
      simp only [exec, execPeriodExpiry] at he
      split at he
      · cases he
        exact lawClosed_queueLaw.finish (State.queueLaw.queueNotice (by exact h.of_same rfl rfl) _)
      · exact Outcome.next.inj he ▸ h
    case scanSample contacts =>
      simp only [exec, execScanSample] at he
      split at he
      · rw [← Outcome.next.inj he]
        exact lawClosed_queueLaw.finish ((takeSample_scans contacts _).queueLaw (by exact h.of_same rfl rfl))
      · exact Outcome.next.inj he ▸ h
    case repairGroup =>
      obtain rfl | ⟨-, rfl⟩ := taking_cases he
      · exact h
      refine lawClosed_queueLaw.finish ?_
      unfold takeRepairGroup offerAndWait answer
      dsimp only
      repeat' split
      · exact h.of_same (by simp) (by simp)
      · exact State.queueLaw.offerRepair (by exact h.of_same rfl rfl) _
      · exact h.of_same (by simp) (by simp)

/-! ## The announced flags over a step -/

/-- Outside RUNNING no position is announced (R168). -/
def State.quietKeys (s : State) : Prop := s.ctl.regime ≠ .running → ∀ k ∈ s.keypad.positions, k.announced = false

theorem quietKeys_of_keypadLaw {s : State} (h : s.keypadLaw) : s.quietKeys := silent_of_keypadLaw s h

/-- A change of regime leaves the keypad lawful: one that leaves RUNNING, or finds another regime, leaves no position
announced (R168). -/
theorem keypadLaw_changeRegime_of_quiet (new : Regime) {s : State} (hnew : new ≠ .running) (h : s.quietKeys) :
    (changeRegime new s).keypadLaw := by
  refine keypadLaw_silent _ fun k hk => ?_
  rw [changeRegime_positions] at hk
  split at hk
  · obtain ⟨k', -, rfl⟩ := List.mem_map.1 hk
    rfl
  · next hstays => exact h (fun hold => hstays ⟨hold, hnew⟩) k hk


theorem keypadLaw_changeRegime (new : Regime) {s : State} (h : s.keypadLaw) : (changeRegime new s).keypadLaw := by
  by_cases hnew : new = .running
  · have hpositions : (changeRegime new s).keypad.positions = s.keypad.positions := by
      rw [changeRegime_positions, if_neg (by simp [hnew])]
    by_cases hold : s.ctl.regime = .running
    · exact keypadLaw_kept s _ h (by simp) hpositions (by simp) (by rw [changeRegime_regime, hnew, hold])
    · refine keypadLaw_silent _ ?_
      rw [hpositions]
      exact quietKeys_of_keypadLaw h hold
  · exact keypadLaw_changeRegime_of_quiet new hnew (quietKeys_of_keypadLaw h)

theorem restartKind_regime_ne (kind : RestartKind) : kind.regime ≠ .running := by cases kind <;> decide

theorem lawClosed_keypadLaw : LawClosed [.control, .loader, .keys] State.keypadLaw where
  quiet hquiet h := dependsOn_keypadLaw.kept hquiet.kept h (by simp)
  change new _ _ _ h := keypadLaw_changeRegime new h
  heaters h := dependsOn_keypadLaw.kept (kept_evalHeaters _) h (by simp)
  notice b h := dependsOn_keypadLaw.kept (kept_queueNotice b _) h (by simp)
  record _ _ _ _ h := dependsOn_keypadLaw.kept (kept_appendRecord _ _ _ _) h (by simp)
  pardon h := dependsOn_keypadLaw.kept (kept_pardon _) h (by simp)
  finish h := dependsOn_keypadLaw.kept (kept_finish _) h (by simp)
  depends := dependsOn_keypadLaw
  memory := by simp
  pending := by simp
  admitted _ h := h
  restart cause cold _ h := by
    rw [takeRestart_eq]
    exact dependsOn_keypadLaw.kept (kept_loadWindows _) (keypadLaw_changeRegime _
      (dependsOn_keypadLaw.kept (kept_restartRecorded cause cold _) h (by simp))) (by simp)
  load loaded defaults isPartial _ _ h := by
    have hquiet := quietKeys_of_keypadLaw h
    exact keypadLaw_changeRegime_of_quiet _ (by decide) hquiet
  valid _ h := h
  reset := keypadLaw_silent _ (by decide)

/-- SET-KEY: a position that is no longer reportable is no longer announced (R174). -/
theorem keypadLaw_placeKey (p : Nat) (e : KeyEntry) {s : State} (h : s.keypadLaw) : (placeKey p e s).keypadLaw := by
  have hmap (q : Nat) (hq : q ≠ p) : State.reportable
      { s with keypad := { s.keypad with map := s.keypad.map.set p e } } q = s.reportable q :=
    reportable_kept s _ q rfl (by simp [State.keyMap, List.getD, Ne.symm hq])
  unfold placeKey
  dsimp only
  split
  · next hreportable =>
    intro q k hk ha
    obtain ⟨hregime, hstate, hold⟩ := h q k hk ha
    refine ⟨hregime, hstate, ?_⟩
    by_cases hq : q = p
    · exact hq ▸ hreportable
    · rw [hmap q hq, hold]
  · intro q k hk ha
    by_cases hq : q = p
    · subst hq
      simp only [setKeyPos, List.getElem?_set] at hk
      split at hk
      · split at hk
        · cases hk
          cases ha
        · cases hk
      · next hne => exact absurd trivial hne
    · simp only [setKeyPos, List.getElem?_set, if_neg (Ne.symm hq)] at hk
      obtain ⟨hregime, hstate, hold⟩ := h q k hk ha
      exact ⟨hregime, hstate, (hmap q hq).trans hold⟩

theorem exec_keypadLaw {i : Instr} {s t : State} (h : s.keypadLaw) (he : exec i s = .next t) : t.keypadLaw := by
  refine lawClosed_keypadLaw.exec (fun hcontrol hsome => ?_) h he
  cases i <;> simp [touchedParts, Part.all, Part.regimeParts, Part.detectionParts] at hcontrol hsome
  case scanSample contacts =>
    simp only [exec, execScanSample] at he
    split at he
    · rw [← Outcome.next.inj he]
      exact lawClosed_keypadLaw.finish ((takeSample_scans contacts _).keypadLaw
        (by exact keypadLaw_kept s _ h rfl rfl rfl rfl))
    · exact Outcome.next.inj he ▸ h
  case setKey =>
    obtain rfl | ⟨-, rfl⟩ := taking_cases he
    · exact h
    refine lawClosed_keypadLaw.finish ?_
    have hanswer (status : Status) {s : State} (h : s.keypadLaw) : (answer status s).keypadLaw :=
      keypadLaw_kept s _ h (by simp [answer]) (by simp [answer]) (by simp [answer]) (by simp [answer])
    unfold takeSetKey
    split
    · exact hanswer _ (keypadLaw_placeKey _ _ h)
    · exact hanswer _ h

/-- Settles O58: each of the three laws looks at a few parts, and is kept where a step changes one of them. -/
theorem keepsSessionLaws : Obligations.KeepsSessionLaws := by
  refine fun s t h => ⟨fun hs => ?_, fun hs => ?_, fun hs => ?_⟩
  · exact step_keeps (P := State.dogLaw) (Q := State.dogLaw) (fun _ _ hs => hs) (fun _ hs => hs) exec_dogLaw hs h
  · exact step_keeps (P := State.queueLaw) (Q := State.queueLaw) (fun _ _ hs => hs) (fun _ hs => hs) exec_queueLaw hs h
  · exact step_keeps (P := State.keypadLaw) (Q := State.keypadLaw) (fun _ _ hs => hs) (fun _ hs => hs) exec_keypadLaw
      hs h

end Sys2Proof.Machine

/-! SUPPORT. The laws of the error log, of the repair table and of the restart history. -/

namespace Sys2Proof.Machine

open Host (Outcome)

theorem kept_changeRegime (new : Regime) (s : State) : Kept Part.regimeParts s (changeRegime new s) := by
  intro p hp; cases p <;> simp [Part.same, Part.regimeParts] at hp ⊢

theorem kept_loadedState (loaded : Settings) (defaults isPartial : Bool) (s : State) :
    Kept [.loader, .windows, .keys] s (loadedState loaded defaults isPartial s) := by
  intro p hp; cases p <;> simp [Part.same, loadedState] at hp ⊢

theorem kept_takeRestart (cause : RestartCause) (cold : Bool) (s : State) :
    Kept (.restarts :: .windows :: Part.regimeParts) s (takeRestart cause cold s) := by
  rw [takeRestart_eq]
  exact (((kept_restartRecorded cause cold s).mono (by simp [Part.regimeParts])).andThen (kept_changeRegime _ _)
    (fun _ => by simp +contextual)).andThen (kept_loadWindows _)

/-! ## The error log (R28) -/

theorem dependsOn_logLaw : DependsOn [.entries] State.logLaw := by
  intro s t hsame h
  have hentries : t.log.entries = s.log.entries := hsame .entries (by simp)
  unfold State.logLaw
  rwa [hentries]

theorem State.logLaw.of_same {s t : State} (h : s.logLaw) (hentries : t.log.entries = s.log.entries) : t.logLaw := by
  unfold State.logLaw
  rwa [hentries]

theorem State.logLaw.sublist {s t : State} (h : s.logLaw) (hsub : t.log.entries.Sublist s.log.entries) : t.logLaw :=
  ⟨Nat.le_trans hsub.length_le h.1, (hsub.map _).nodup h.2⟩

theorem lawClosed_logLaw : LawClosed [.entries] State.logLaw where
  quiet hquiet h := dependsOn_logLaw.kept hquiet.kept h (by simp)
  change new _ _ _ h := dependsOn_logLaw.kept (kept_changeRegime new _) h (by simp [Part.regimeParts])
  heaters h := dependsOn_logLaw.kept (kept_evalHeaters _) h (by simp)
  notice b h := dependsOn_logLaw.kept (kept_queueNotice b _) h (by simp)
  record _ _ _ _ h := dependsOn_logLaw.kept (kept_appendRecord _ _ _ _) h (by simp)
  pardon h := dependsOn_logLaw.kept (kept_pardon _) h (by simp)
  finish h := dependsOn_logLaw.kept (kept_finish _) h (by simp)
  depends := dependsOn_logLaw
  memory := by simp
  pending := by simp
  admitted _ h := h
  restart cause cold _ h := dependsOn_logLaw.kept (kept_takeRestart cause cold _) h (by simp [Part.regimeParts])
  load _ _ _ _ _ h := dependsOn_logLaw.kept (kept_changeRegime _ _) (h.of_same rfl)
    (by simp [Part.regimeParts])
  valid _ h := h
  reset := ⟨by decide, by decide⟩

theorem sameError_iff (e : LogEntry) (d : Detection) :
    e.sameError d = true ↔ e.errorKey = (d.offset, d.loc, d.syndrome) := by
  simp [LogEntry.sameError, LogEntry.errorKey, and_assoc]

/-- Replacing the entry that a detection coalesces into leaves what the log tells errors apart by. -/
theorem replaceFirst_errorKey (d : Detection) (e : LogEntry) (es : List LogEntry)
    (he : e.errorKey = (d.offset, d.loc, d.syndrome)) :
    (replaceFirst (·.sameError d) (fun _ => e) es).map LogEntry.errorKey = es.map LogEntry.errorKey := by
  induction es with
  | nil => rfl
  | cons x es ih =>
    simp only [replaceFirst]
    split
    · next hx => simp [he, (sameError_iff x d).1 hx]
    · simp [ih]

theorem State.logLaw.offerRepair {s : State} (h : s.logLaw) (g : Nat) : (offerRepair g s).logLaw :=
  h.of_same (by simp)

theorem State.logLaw.queueNotice {s : State} (h : s.logLaw) (b : NoticeBody) : (queueNotice b s).logLaw :=
  h.of_same (by simp)

theorem State.logLaw.coalesce {s : State} (h : s.logLaw) (d : Detection) (e : LogEntry)
    (he : e.sameError d = true) : (coalesce d e s).logLaw := by
  have hreplaced (e' : LogEntry) (hkey : e'.errorKey = e.errorKey) : State.logLaw
      { s with log := { s.log with entries := replaceFirst (·.sameError d) (fun _ => e') s.log.entries } } := by
    have hmap := replaceFirst_errorKey d e' s.log.entries (hkey.trans ((sameError_iff e d).1 he))
    have hlength := congrArg List.length hmap
    rw [List.length_map, List.length_map] at hlength
    exact ⟨hlength ▸ h.1, hmap ▸ h.2⟩
  unfold Machine.coalesce
  dsimp only
  repeat' split
  · exact h
  · exact State.logLaw.offerRepair (by exact hreplaced _ rfl) _
  · exact hreplaced _ rfl

theorem State.logLaw.enterDetection {s : State} (h : s.logLaw) (d : Detection) (hroom : s.log.entries.length < 8)
    (hnew : ∀ e ∈ s.log.entries, e.sameError d = false) : (enterDetection d s).logLaw := by
  have hentered (e : LogEntry) (he : e.errorKey = (d.offset, d.loc, d.syndrome)) :
      State.logLaw { s with log := { s.log with entries := s.log.entries ++ [e] } } := by
    refine ⟨by simp; omega, ?_⟩
    rw [List.map_append, List.nodup_append]
    refine ⟨h.2, by simp, fun x hx y hy heq => ?_⟩
    obtain ⟨e', he', rfl⟩ := List.mem_map.1 hx
    rw [List.map_singleton, List.mem_singleton] at hy
    have hsame := (sameError_iff e' d).2 (heq.trans (hy.trans he))
    simp [hnew e' he'] at hsame
  unfold Machine.enterDetection
  dsimp only
  repeat' split
  · exact State.logLaw.offerRepair (by exact hentered _ rfl) _
  · exact hentered _ rfl
  · exact State.logLaw.queueNotice (State.logLaw.offerRepair (by exact hentered _ rfl) _) _
  · exact State.logLaw.queueNotice (by exact hentered _ rfl) _

theorem displaceCorrected_sublist (es es' : List LogEntry) (h : displaceCorrected es = some es') :
    es'.Sublist es ∧ es'.length + 1 = es.length := by
  induction es generalizing es' with
  | nil => cases h
  | cons e es ih =>
    simp only [displaceCorrected] at h
    split at h
    · cases h
      simp
    · obtain ⟨r, hr, rfl⟩ := Option.map_eq_some_iff.1 h
      obtain ⟨hsub, hlength⟩ := ih r hr
      exact ⟨hsub.cons_cons e, by simp [hlength]⟩

theorem State.logLaw.detect {s : State} (h : s.logLaw) (d : Detection) : (detect d s).logLaw := by
  have hcounted : (countDetection d s).logLaw := h.of_same (by simp)
  unfold Machine.detect
  dsimp only
  split
  · next e he => exact hcounted.coalesce d e (List.find?_some (p := fun x => LogEntry.sameError x d) he)
  · next hnone =>
    have hnew (e : LogEntry) (he : e ∈ (countDetection d s).log.entries) : e.sameError d = false := by
      simpa using List.find?_eq_none.1 hnone e he
    repeat' split
    · next hroom => exact hcounted.enterDetection d hroom hnew
    · exact hcounted.of_same rfl
    · next es hes =>
      obtain ⟨hsub, hlength⟩ := displaceCorrected_sublist _ es hes
      have hfull := hcounted.1
      refine State.logLaw.enterDetection ?_ d (by dsimp only; omega) fun e he => hnew e (hsub.subset he)
      exact hcounted.sublist hsub
    · exact hcounted.of_same rfl

theorem State.logLaw.endFix {s : State} (h : s.logLaw) : (endFix s).logLaw :=
  dependsOn_logLaw.kept (kept_endFix s) h (by simp)

theorem logLaw_declineRepair (e : RepairEntry) {s : State} (h : s.logLaw) : (declineRepair e s).logLaw :=
  h.of_same (by simp [declineRepair])

theorem exec_logLaw {i : Instr} {s t : State} (h : s.logLaw) (he : exec i s = .next t) : t.logLaw := by
  refine lawClosed_logLaw.exec (fun hcontrol hsome => ?_) h he
  have hentries : .entries ∈ touchedParts i := by simpa using hsome
  match hr : completesRead i with
  | some (p, flips) =>
    exact lawClosed_logLaw.readDone (fun d h => h.detect d) (fun e h => logLaw_declineRepair e h)
      hr h he
  | none =>
    cases i <;> cases hr <;> simp [touchedParts, Part.all, Part.regimeParts] at hcontrol hentries
    case fixRewriteComplete =>
      obtain rfl | ⟨a, -, -, rfl⟩ := atWrite_cases (k := fixRewriteDone) he
      · exact h
      have hwritten : State.logLaw (clearCarried a { s with port := none, mem := writeWords a.words (s.accessAddress a) s.mem }) :=
        dependsOn_logLaw.kept (kept_memory_written a _ s) h (by simp)
      refine State.logLaw.endFix ⟨by simpa [rewriteReport] using hwritten.1, ?_⟩
      have hkeys (e : LogEntry) : (if e.offset = a.offset ∧ e.loc = a.loc ∧ e.syndrome = a.syndrome
          then { e with rewritten := true } else e).errorKey = e.errorKey := by
        split <;> rfl
      simpa [rewriteReport, Function.comp_def, hkeys] using hwritten.2
    case takeError =>
      obtain rfl | ⟨-, rfl⟩ := taking_cases he
      · exact h
      refine lawClosed_logLaw.finish ?_
      have hremoved : State.logLaw { s with log := { s.log with entries := s.log.entries.tail } } :=
        h.sublist (List.tail_sublist _)
      exact hremoved.of_same (by simp [takeTakeError])


/-! ## Keys that occur once in a list -/

theorem nodup_append_singleton {α : Type} {xs : List α} {x : α} (h : xs.Nodup) (hx : x ∉ xs) : (xs ++ [x]).Nodup :=
  List.nodup_append.2 ⟨h, List.nodup_cons.2 ⟨List.not_mem_nil, List.nodup_nil⟩, fun a ha b hb heq =>
    hx (List.mem_singleton.1 hb ▸ heq ▸ ha)⟩

/-- Elements with the same key are the same element, where no key occurs twice. -/
theorem eq_of_nodup_map {α β : Type} {f : α → β} {xs : List α} (h : (xs.map f).Nodup) {x y : α} (hx : x ∈ xs)
    (hy : y ∈ xs) (heq : f x = f y) : x = y := by
  induction xs with
  | nil => cases hx
  | cons z zs ih =>
    obtain ⟨hnew, hrest⟩ := List.nodup_cons.1 h
    obtain rfl | hx' := List.mem_cons.1 hx
    · obtain rfl | hy' := List.mem_cons.1 hy
      · rfl
      · exact absurd (List.mem_map.2 ⟨y, hy', heq.symm⟩) hnew
    · obtain rfl | hy' := List.mem_cons.1 hy
      · exact absurd (List.mem_map.2 ⟨x, hx', heq⟩) hnew
      · exact ih hrest hx' hy'

/-- A key that tells the elements apart occurs once where another key does. -/
theorem nodup_map_of_nodup_map {α β γ : Type} {f : α → β} {g : α → γ} {xs : List α} (h : (xs.map f).Nodup)
    (hinj : ∀ x ∈ xs, ∀ y ∈ xs, g x = g y → x = y) : (xs.map g).Nodup :=
  List.pairwise_map.2 <| (List.pairwise_map.1 h).imp_of_mem fun hx hy hne heq =>
    hne (congrArg f (hinj _ hx _ hy heq))

/-! ## The repair table (R54, R55, R59) -/

theorem mem_free_iff (r : Repair) (n : Nat) :
    n ∈ r.free ↔ n < 32 ∧ n ∉ r.table.map (·.slot) ∧ n ∉ r.spent := by
  simp [Repair.free]

/-- The law of the repair table looks at the groups and slots of the table, the spent slots and the slot chosen. -/
theorem dependsOn_tableLaw : DependsOn [.repairs] State.tableLaw := by
  intro s t hsame ⟨hgroups, hslots, hentries, hchosen⟩
  have hshape : t.repair.shape = s.repair.shape := hsame .repairs (by simp)
  simp only [Repair.shape, Prod.mk.injEq] at hshape
  obtain ⟨htable, hspent, hmigration⟩ := hshape
  have hgroups' : t.repair.table.map (·.group) = s.repair.table.map (·.group) := by
    simpa [Function.comp_def] using congrArg (List.map Prod.fst) htable
  have hslots' : t.repair.table.map (·.slot) = s.repair.table.map (·.slot) := by
    simpa [Function.comp_def] using congrArg (List.map Prod.snd) htable
  refine ⟨hgroups' ▸ hgroups, hslots' ▸ hslots, fun e he => ?_, fun m hm => ?_⟩
  · have hmem : e.slot ∈ s.repair.table.map (·.slot) := hslots' ▸ List.mem_map_of_mem he
    obtain ⟨e', he', hslot⟩ := List.mem_map.1 hmem
    rw [hspent, ← hslot]
    exact hentries e' he'
  · rw [hm, Option.map_some] at hmigration
    obtain ⟨m', hm', hslot⟩ := Option.map_eq_some_iff.1 hmigration.symm
    rw [mem_free_iff, hslots', hspent, ← hslot, ← mem_free_iff]
    exact hchosen m' hm'

theorem State.tableLaw.kept {s t : State} (h : s.tableLaw) (hkept : Kept [] s t) : t.tableLaw :=
  dependsOn_tableLaw.kept hkept h (by simp)

theorem State.tableLaw.of_table {s t : State} (h : s.tableLaw) (htable : t.repair.table = s.repair.table)
    (hspent : t.repair.spent = s.repair.spent)
    (hmigration : ∀ m, t.repair.migration = some m → m.slot ∈ s.repair.free) : t.tableLaw := by
  obtain ⟨hgroups, hslots, hentries, -⟩ := h
  unfold State.tableLaw
  simp only [mem_free_iff] at hmigration ⊢
  rw [htable, hspent]
  exact ⟨hgroups, hslots, hentries, hmigration⟩

theorem State.tableLaw.of_same {s t : State} (h : s.tableLaw) (htable : t.repair.table = s.repair.table)
    (hspent : t.repair.spent = s.repair.spent) (hmigration : t.repair.migration = s.repair.migration) : t.tableLaw :=
  h.of_table htable hspent fun m hm => h.2.2.2 m (hmigration ▸ hm)

theorem scrubNews_repair (s : State) : (scrubNews s).repair = s.repair := by simp

theorem changeRegime_migration (new : Regime) (s : State) :
    (changeRegime new s).repair.migration = s.repair.migration ∨ (changeRegime new s).repair.migration = none := by
  rw [changeRegime_eq]
  simp only [lampUpdate_frame, evalHeaters_frame, scrubNews_frame]
  by_cases hlost : s.ctl.regime.powered = true ∧ new.powered = false
  · exact .inr (by rw [(beforeScrubNews_lost new s hlost).2.1])
  · exact .inl (by rw [(beforeScrubNews_kept new s hlost).2.1])

theorem tableLaw_changeRegime (new : Regime) {s : State} (h : s.tableLaw) : (changeRegime new s).tableLaw := by
  refine h.of_table (by simp) (by simp) fun m hm => ?_
  obtain heq | heq := changeRegime_migration new s
  · exact h.2.2.2 m (heq ▸ hm)
  · simp [heq] at hm

theorem lawClosed_tableLaw : LawClosed [.repairs] State.tableLaw where
  quiet hquiet h := dependsOn_tableLaw.kept hquiet.kept h (by simp)
  change new _ _ _ h := tableLaw_changeRegime new h
  heaters h := dependsOn_tableLaw.kept (kept_evalHeaters _) h (by simp)
  notice b h := dependsOn_tableLaw.kept (kept_queueNotice b _) h (by simp)
  record _ _ _ _ h := dependsOn_tableLaw.kept (kept_appendRecord _ _ _ _) h (by simp)
  pardon h := dependsOn_tableLaw.kept (kept_pardon _) h (by simp)
  finish h := dependsOn_tableLaw.kept (kept_finish _) h (by simp)
  depends := dependsOn_tableLaw
  memory := by simp
  pending := by simp
  admitted _ h := h
  restart cause cold _ h := by
    rw [takeRestart_eq]
    exact dependsOn_tableLaw.kept (kept_loadWindows _) (tableLaw_changeRegime _
      (dependsOn_tableLaw.kept (kept_restartRecorded cause cold _) h (by simp))) (by simp)
  load _ _ _ _ _ h := tableLaw_changeRegime _ (h.of_same rfl rfl rfl)
  valid _ h := h
  reset := ⟨.nil, .nil, fun _ h => (List.not_mem_nil h).elim, fun _ h => nomatch h⟩

theorem startMigration_migration (g slot : Nat) (s : State) : (startMigration g slot s).repair.migration =
    some { group := g, slot := slot, reRepair := (s.repairEntry g).isSome, source := s.locate g, carried := 0,
           copying := false } := by
  simp [startMigration]

/-- A migration starts to a free slot (R59). -/
theorem State.tableLaw.startMigrations {s : State} (h : s.tableLaw) (fuel : Nat) :
    (startMigrations fuel s).tableLaw := by
  induction fuel generalizing s with
  | zero => exact h
  | succ fuel ih =>
    unfold Machine.startMigrations
    dsimp only
    repeat' split
    · exact h
    · exact h
    · exact ih (h.of_same (by simp) (by simp) (by simp))
    · next n _ hfree =>
      refine h.of_table (by simp) (by simp) fun m hm => ?_
      simp only [reoffer_frame, startMigration_migration, Option.some.injEq] at hm
      have hslot : n ∈ s.repair.free := hfree.symm ▸ List.mem_cons_self
      exact hm ▸ hslot

theorem State.tableLaw.offerRepair {s : State} (h : s.tableLaw) (g : Nat) : (offerRepair g s).tableLaw := by
  unfold Machine.offerRepair
  repeat' split
  · exact h.of_same rfl rfl rfl
  · exact h
  · exact h.of_same rfl rfl rfl
  · exact State.tableLaw.startMigrations (by exact h.of_same rfl rfl rfl) _

/-- The end of a migration, which leaves none in hand unless another starts (R61, R62). -/
theorem tableLaw_endMigration {s : State} (n : RepairNotice)
    (h : State.tableLaw { s with repair := { s.repair with migration := none } }) : (endMigration n s).tableLaw := by
  unfold Machine.endMigration
  refine State.tableLaw.startMigrations ?_ _
  exact h.of_table (by simp) (by simp) fun m hm => by simp at hm

theorem State.tableLaw.detect {s : State} (h : s.tableLaw) (d : Detection) : (detect d s).tableLaw := by
  have hcoalesce {s : State} (h : s.tableLaw) (e : LogEntry) : (coalesce d e s).tableLaw := by
    unfold coalesce
    dsimp only
    repeat' split
    · exact h
    · exact State.tableLaw.offerRepair (by exact h.of_same rfl rfl rfl) _
    · exact h.of_same rfl rfl rfl
  have hnotice {s : State} (h : s.tableLaw) (b : NoticeBody) : (queueNotice b s).tableLaw :=
    lawClosed_tableLaw.notice b h
  have henter {s : State} (h : s.tableLaw) : (enterDetection d s).tableLaw := by
    unfold enterDetection
    dsimp only
    repeat' split
    · exact State.tableLaw.offerRepair (by exact h.of_same rfl rfl rfl) _
    · exact h.of_same rfl rfl rfl
    · exact hnotice (State.tableLaw.offerRepair (by exact h.of_same rfl rfl rfl) _) _
    · exact hnotice (by exact h.of_same rfl rfl rfl) _
  have hcounted : (countDetection d s).tableLaw := h.of_same (by simp) (by simp) (by simp)
  unfold Machine.detect
  dsimp only
  repeat' split
  · exact hcoalesce hcounted _
  · exact henter hcounted
  · exact hcounted.of_same rfl rfl rfl
  · exact henter (hcounted.of_same rfl rfl rfl)
  · exact hcounted.of_same rfl rfl rfl

theorem State.tableLaw.noMigration {s : State} (h : s.tableLaw) :
    State.tableLaw { s with repair := { s.repair with migration := none } } :=
  h.of_table rfl rfl fun _ hm => nomatch hm

theorem tableLaw_declineRepair (e : RepairEntry) {s : State} (h : s.tableLaw) : (declineRepair e s).tableLaw :=
  tableLaw_endMigration _ (by exact h.noMigration.of_same rfl rfl rfl)

theorem group_of_repairEntry {s : State} {g : Nat} {e : RepairEntry} (h : s.repairEntry g = some e) :
    e ∈ s.repair.table ∧ e.group = g := by
  refine ⟨List.mem_of_find?_eq_some h, ?_⟩
  simpa using List.find?_some (p := fun e => RepairEntry.group e == g) h

/-- The first repair of a group adds an entry with the free slot chosen (R61). -/
theorem tableLaw_firstRepair {s : State} (h : s.tableLaw) (m : Migration) (hm : s.repair.migration = some m)
    (hnew : s.repairEntry m.group = none) : (firstRepair m s).tableLaw := by
  obtain ⟨hgroups, hslots, hentries, hchosen⟩ := h
  obtain ⟨hbound, hfresh, hunspent⟩ := (mem_free_iff _ _).1 (hchosen m hm)
  have hgroup : m.group ∉ s.repair.table.map (·.group) := by
    intro hmem
    obtain ⟨e, he, heq⟩ := List.mem_map.1 hmem
    have hne := List.find?_eq_none.1 hnew e he
    simp [heq] at hne
  refine tableLaw_endMigration _ ⟨?_, ?_, fun e he => ?_, fun _ hm => nomatch hm⟩
  · dsimp only
    rw [List.map_append, List.map_singleton]
    exact nodup_append_singleton hgroups hgroup
  · dsimp only
    rw [List.map_append, List.map_singleton]
    exact nodup_append_singleton hslots hfresh
  · obtain he | he := List.mem_append.1 he
    · exact hentries e he
    · rw [List.mem_singleton.1 he]
      exact ⟨hbound, hunspent⟩

/-- A re-repair moves the group's entry to the free slot chosen, and its old slot is spent (R62). -/
theorem tableLaw_reRepair {s : State} (h : s.tableLaw) (m : Migration) (e : RepairEntry)
    (hm : s.repair.migration = some m) (hold : s.repairEntry m.group = some e) : (reRepair m e s).tableLaw := by
  obtain ⟨hgroups, hslots, hentries, hchosen⟩ := h
  obtain ⟨hbound, hfresh, hunspent⟩ := (mem_free_iff _ _).1 (hchosen m hm)
  obtain ⟨hmem, hgroup⟩ := group_of_repairEntry hold
  have hunique (x : RepairEntry) (hx : x ∈ s.repair.table) (hxg : x.group = m.group) : x = e :=
    eq_of_nodup_map hgroups hx hmem (hxg.trans hgroup.symm)
  have hunused (x : RepairEntry) (hx : x ∈ s.repair.table) : m.slot ≠ x.slot := by
    intro heq
    rw [heq] at hfresh
    exact hfresh (List.mem_map_of_mem hx)
  refine tableLaw_endMigration _ ⟨?_, ?_, fun x hx => ?_, fun _ hm => nomatch hm⟩
  · have hsame : (s.repair.table.map fun x => if x.group = m.group then
        ({ e with slot := m.slot, reRepairs := satInc e.reRepairs, carried := m.carried } : RepairEntry) else x).map
          (·.group) = s.repair.table.map (·.group) := by
      rw [List.map_map]
      refine List.map_congr_left fun x _ => ?_
      simp only [Function.comp_apply]
      split
      · next hx => exact hgroup.trans hx.symm
      · rfl
    exact hsame ▸ hgroups
  · dsimp only
    rw [List.map_map]
    refine nodup_map_of_nodup_map hgroups fun x hx y hy heq => ?_
    simp only [Function.comp_apply] at heq
    split at heq <;> split at heq
    · next hxg hyg => exact (hunique x hx hxg).trans (hunique y hy hyg).symm
    · exact absurd heq (hunused y hy)
    · exact absurd heq.symm (hunused x hx)
    · exact eq_of_nodup_map hslots hx hy heq
  · obtain ⟨y, hy, rfl⟩ := List.mem_map.1 hx
    split
    · refine ⟨hbound, fun hmem' => ?_⟩
      obtain hmem' | hmem' := List.mem_append.1 hmem'
      · exact hunspent hmem'
      · exact hunused e hmem (List.mem_singleton.1 hmem')
    · next hne =>
      refine ⟨(hentries y hy).1, fun hmem' => ?_⟩
      obtain hmem' | hmem' := List.mem_append.1 hmem'
      · exact (hentries y hy).2 hmem'
      · have := eq_of_nodup_map hslots hy hmem (List.mem_singleton.1 hmem')
        exact hne (this ▸ hgroup)


theorem exec_tableLaw {i : Instr} {s t : State} (h : s.tableLaw) (he : exec i s = .next t) : t.tableLaw := by
  refine lawClosed_tableLaw.exec (fun hcontrol hsome => ?_) h he
  have hrepairs : .repairs ∈ touchedParts i := by simpa using hsome
  match hr : completesRead i with
  | some (p, flips) =>
    exact lawClosed_tableLaw.readDone (fun d h => h.detect d) (fun e h => tableLaw_declineRepair e h) hr h he
  | none =>
    cases i <;> cases hr <;> simp [touchedParts, Part.all, Part.regimeParts] at hcontrol hrepairs
    case migrationWriteComplete =>
      obtain rfl | ⟨a, -, -, rfl⟩ := atWrite_cases he
      · exact h
      have hwritten := dependsOn_tableLaw.kept
        (kept_memory_written a (writeWords a.words (s.accessAddress a) s.mem) s) h (by simp)
      generalize clearCarried a { s with port := none, mem := writeWords a.words (s.accessAddress a) s.mem } = u
        at hwritten
      unfold migrationWriteDone
      split
      · exact lawClosed_tableLaw.finish hwritten
      · next m hm =>
        split
        · next e he => exact lawClosed_tableLaw.finish (tableLaw_reRepair hwritten m e hm he)
        · next hnew => exact lawClosed_tableLaw.finish (tableLaw_firstRepair hwritten m hm hnew)
    case repairGroup =>
      obtain rfl | ⟨-, rfl⟩ := taking_cases he
      · exact h
      refine lawClosed_tableLaw.finish ?_
      unfold takeRepairGroup offerAndWait answer
      dsimp only
      repeat' split
      · exact h.of_same (by simp) (by simp) (by simp)
      · exact State.tableLaw.offerRepair (by exact h.of_same rfl rfl rfl) _
      · exact h.of_same (by simp) (by simp) (by simp)

/-! ## The restart history (R147, R150, R151) -/

theorem dependsOn_historyLaw : DependsOn [.loader, .control, .restarts, .trace] State.historyLaw := by
  intro s t hsame h
  obtain ⟨hstate, hloaded⟩ := hsame .loader (by simp)
  obtain ⟨hregime, -⟩ := hsame .control (by simp)
  have hrestarts : t.restarts = s.restarts := hsame .restarts (by simp)
  have htrace : t.trace = s.trace := hsame .trace (by simp)
  unfold State.historyLaw State.unloadedLaw State.settings
  rwa [hstate, hloaded, hregime, hrestarts, htrace]

/-- Past LOADING the setting image is loaded. -/
theorem loaded_of_started {s : State} (h : s.unloadedLaw) (hstarted : s.started) : s.loader.state = .loaded :=
  hstarted.elim id (loaded_of_unloadedLaw s h)

theorem changeRegime_trace (new : Regime) (s : State) :
    (changeRegime new s).trace = s.trace ∨ (changeRegime new s).trace = [] := by
  rw [changeRegime_eq]
  simp only [lampUpdate_frame, evalHeaters_frame, scrubNews_frame, beforeScrubNews, prepNews_frame]
  repeat' split
  all_goals simp [enterRunning]

theorem historyLaw_changeRegime (new : Regime) {s : State} (hstarted : s.started) (h : s.historyLaw) :
    (changeRegime new s).historyLaw := by
  obtain ⟨hlength, htotal, hcold, hescalation, hunloaded, htrace, hfrozen⟩ := h
  have hloaded := loaded_of_started hunloaded hstarted
  have hsettings : (changeRegime new s).settings = s.settings := by
    unfold State.settings
    simp
  unfold State.historyLaw
  rw [hsettings]
  simp only [changeRegime_frame]
  refine ⟨hlength, htotal, hcold, hescalation, unloadedLaw_loaded _ (by simpa using hloaded), ?_, hfrozen⟩
  obtain heq | heq := changeRegime_trace new s
  · rwa [heq]
  · simp [heq]


theorem satInc_toNat {w : Nat} (x : BitVec w) : (satInc x).toNat = min (2 ^ w - 1) (x.toNat + 1) := by
  have hbound := x.isLt
  unfold satInc
  split
  · next hall =>
    rw [hall, BitVec.toNat_allOnes]
    omega
  · next hne =>
    have hlt : x.toNat ≠ 2 ^ w - 1 := fun heq => hne (BitVec.eq_of_toNat_eq (by rw [heq, BitVec.toNat_allOnes]))
    have hone : 1 < 2 ^ w := by omega
    have hone' : (1 : BitVec w).toNat = 1 := by
      rw [BitVec.ofNat_eq_ofNat, BitVec.toNat_ofNat, Nat.mod_eq_of_lt hone]
    rw [BitVec.toNat_add, hone', Nat.mod_eq_of_lt (by omega)]
    omega

/-- A record appended keeps the bounds of the history, and the frozen trace is in the newest record alone (R150, R151). -/
theorem historyLaw_appendRecord (cause : RestartCause) (requested : Option RestartKind) (kind : RestartKind) {s : State}
    (h : s.historyLaw) : (appendRecord cause requested kind s).historyLaw := by
  obtain ⟨hlength, htotal, hcold, hescalation, hunloaded, htrace, hfrozen⟩ := h
  refine ⟨?_, ?_, hcold, hescalation, hunloaded, Nat.zero_le _, fun r hr => ?_⟩
  · simp [appendRecord]
    omega
  · simp only [appendRecord, satInc_toNat, List.length_append, List.length_drop, List.length_map, List.length_singleton]
    omega
  · simp only [appendRecord, List.dropLast_concat] at hr
    obtain ⟨r', -, rfl⟩ := List.mem_map.1 (List.mem_of_mem_drop hr)
    rfl

/-- Deciding a kind and telling the cause keep the bounds of R147. -/
theorem historyLaw_told (cause : RestartCause) (cold : Bool) {s : State} (hloaded : s.loader.state = .loaded)
    (h : s.historyLaw) : (tellCause cause (escalate (s.restartKind cold) s)).historyLaw := by
  obtain ⟨hlength, htotal, hcold, hescalation, -, htrace, hfrozen⟩ := h
  obtain ⟨hcold', hescalation'⟩ := escalate_bounds cold s hcold hescalation
  have hsettings : (tellCause cause (escalate (s.restartKind cold) s)).settings = s.settings := by
    unfold State.settings
    simp
  unfold State.historyLaw
  rw [hsettings]
  simp only [tellCause_frame, escalate_frame]
  exact ⟨hlength, htotal, hcold', hescalation', unloadedLaw_loaded _ (by simpa using hloaded), htrace, hfrozen⟩

theorem historyLaw_restartRecorded (cause : RestartCause) (cold : Bool) {s : State} (hr : s.ctl.regime = .running)
    (h : s.historyLaw) : (restartRecorded cause cold s).historyLaw := by
  have hloaded : s.loader.state = .loaded := loaded_of_unloadedLaw s h.2.2.2.2.1 (by simp [hr])
  have hrecorded := historyLaw_appendRecord cause (some (if cold then .cold else .warm)) (s.restartKind cold) h
  have htold := historyLaw_told (s := appendRecord cause _ (s.restartKind cold) s) cause cold hloaded hrecorded
  exact htold

/-- No record is told from another by what the watch table does: a stage hit that ends the boot only clears the cold
count (R147). -/
theorem historyLaw_bootStageHit {s : State} (h : s.historyLaw) : (bootStageHit s).historyLaw := by
  obtain ⟨hlength, htotal, -, hescalation, hunloaded, htrace, hfrozen⟩ := h
  exact ⟨hlength, htotal, Nat.zero_le _, hescalation,
    fun hn => ⟨(hunloaded hn).1, (hunloaded hn).2.1, rfl, (hunloaded hn).2.2.2⟩, htrace, hfrozen⟩

theorem lawClosed_historyLaw : LawClosed [.loader, .control, .restarts, .trace] State.historyLaw where
  quiet hquiet h := dependsOn_historyLaw.kept hquiet.kept h (by simp)
  change new _ _ hstarted h := historyLaw_changeRegime new hstarted h
  heaters h := dependsOn_historyLaw.kept (kept_evalHeaters _) h (by simp)
  notice b h := dependsOn_historyLaw.kept (kept_queueNotice b _) h (by simp)
  record cause requested kind _ h := historyLaw_appendRecord cause requested kind h
  pardon h := by
    obtain ⟨hlength, htotal, -, -, hunloaded, htrace, hfrozen⟩ := h
    exact ⟨hlength, htotal, Nat.zero_le _, Nat.zero_le _,
      fun hn => ⟨(hunloaded hn).1, (hunloaded hn).2.1, rfl, rfl⟩, htrace, hfrozen⟩
  finish h := dependsOn_historyLaw.kept (kept_finish _) h (by simp)
  depends := dependsOn_historyLaw
  memory := by simp
  pending := by simp
  admitted _ h := h
  restart cause cold hr h := by
    rw [takeRestart_eq]
    refine dependsOn_historyLaw.kept (kept_loadWindows _) (historyLaw_changeRegime _ (.inr ?_)
      (historyLaw_restartRecorded cause cold hr h)) (by simp)
    rw [(kept_restartRecorded cause cold _ .control (by simp)).1, hr]
    decide
  load loaded defaults isPartial _ hreading h := by
    obtain ⟨hlength, htotal, -, -, hunloaded, htrace, hfrozen⟩ := h
    obtain ⟨-, -, hcold, hescalation⟩ := hunloaded (by simp [hreading])
    refine historyLaw_changeRegime _ (.inl rfl) ⟨hlength, htotal, ?_, ?_, unloadedLaw_loaded _ rfl, htrace, hfrozen⟩
    · exact Nat.le_trans (Nat.le_of_eq hcold) (Nat.zero_le _)
    · exact Nat.le_trans (Nat.le_of_eq (congrArg List.length hescalation)) (Nat.zero_le _)
  valid _ h := h
  reset := ⟨by decide, by decide, by decide, by decide, fun _ => ⟨rfl, rfl, rfl, rfl⟩, by decide,
      fun _ h => (List.not_mem_nil h).elim⟩


/-! ### The reports taken, which fill the write trace and can end a boot -/

theorem historyLaw_traceReport (r : FrontReport) {s : State} (h : s.historyLaw) : (traceReport r s).historyLaw := by
  obtain ⟨hlength, htotal, hcold, hescalation, hunloaded, -, hfrozen⟩ := h
  refine ⟨hlength, htotal, hcold, hescalation, hunloaded, ?_, hfrozen⟩
  simp [traceReport]
  omega

theorem historyLaw_actOn (r : FrontReport) {s : State} (h : s.historyLaw) : (actOn r s).historyLaw := by
  have hkept {s t : State} (hkept : Kept [.dog] s t) (h : s.historyLaw) : t.historyLaw :=
    dependsOn_historyLaw.kept hkept h (by simp)
  have hsignal (kick boot : Bool) (s : State) : Kept [.dog] s (dogSignal kick boot s) := by
    intro p hp; cases p <;> simp [Part.same] at hp ⊢
  have hboot {b : Bool} {s : State} (h : s.historyLaw) : State.historyLaw (if b = true then bootStageHit s else s) := by
    split
    · exact historyLaw_bootStageHit h
    · exact h
  have hsent {trips : List Nat} {s : State} (h : s.historyLaw) :
      State.historyLaw (if trips = [] then s else sendRequest .tripWatch false none s) := by
    split
    · exact h
    · exact h
  exact hkept (hsignal _ _ _) (hboot (hsent h))

theorem historyLaw_takeReport (kind : ReportKind → Bool) {k : FrontReport → State → State}
    (hk : ∀ r {s}, s.historyLaw → (k r s).historyLaw) {s : State} (h : s.historyLaw) :
    (takeReport kind k s).historyLaw := by
  unfold takeReport
  dsimp only
  repeat' split
  · exact hk _ h
  all_goals exact h

theorem exec_historyLaw {i : Instr} {s t : State} (h : s.historyLaw) (he : exec i s = .next t) : t.historyLaw := by
  refine lawClosed_historyLaw.exec (fun hcontrol hsome => ?_) h he
  cases i <;> simp [touchedParts, Part.all, Part.regimeParts, Part.detectionParts] at hcontrol hsome
  case watchWriteReport =>
    cases he
    refine historyLaw_takeReport _ (fun r s h => ?_) h
    unfold takeWrite
    dsimp only
    split
    · exact historyLaw_actOn r (historyLaw_traceReport r h)
    · exact historyLaw_traceReport r h
  case watchReadReport =>
    cases he
    exact historyLaw_takeReport _ (fun r s h => historyLaw_actOn r h) h
  case refusedWriteReport =>
    cases he
    exact historyLaw_takeReport _ (fun r s h => historyLaw_traceReport r h) h

/-- Settles O59: each of the three laws looks at a few parts, and is kept where a step changes one of them. -/
theorem keepsRecords : Obligations.KeepsRecords := by
  refine fun s t h => ⟨fun hs => ?_, fun hs => ?_, fun hs => ?_⟩
  · exact step_keeps (P := State.logLaw) (Q := State.logLaw) (fun _ _ hs => hs) (fun _ hs => hs) exec_logLaw hs h
  · exact step_keeps (P := State.tableLaw) (Q := State.tableLaw) (fun _ _ hs => hs) (fun _ hs => hs) exec_tableLaw hs h
  · exact step_keeps (P := State.historyLaw) (Q := State.historyLaw) (fun _ _ hs => hs) (fun _ hs => hs) exec_historyLaw
      hs h

end Sys2Proof.Machine

/-! SUPPORT. What the loaded copy keeps to whatever the image holds, and the laws of the power budget and of the window
table that rest on it (R17, R22, R99, R100, R195). -/

namespace Sys2Proof.Machine

open Host (Outcome)

/-! ## Windows -/

theorem isPow2_iff (n : Nat) : isPow2 n = true ↔ ∃ k, n = 2 ^ k := by
  simp only [isPow2, decide_eq_true_eq]
  constructor
  · exact fun h => ⟨_, h⟩
  · rintro ⟨k, rfl⟩
    rw [Nat.log2_two_pow]

theorem windowFits_iff (usable base size : Nat) : windowFits usable base size = true ↔
    (∃ k, size = 2 ^ k) ∧ 4096 ≤ size ∧ base % size = 0 ∧ base + size ≤ usable := by
  simp only [windowFits, Bool.and_eq_true, isPow2_iff, decide_eq_true_eq]
  constructor
  · rintro ⟨⟨⟨⟨hpow, hsize⟩, -⟩, haligned⟩, hend⟩
    exact ⟨hpow, hsize, haligned, hend⟩
  · rintro ⟨hpow, hsize, haligned, hend⟩
    exact ⟨⟨⟨⟨hpow, hsize⟩, by omega⟩, haligned⟩, hend⟩

theorem overlaps_eq_false_iff (v w : Window) : overlaps v.base v.size w.base w.size = false ↔ v.apart w := by
  simp only [overlaps, Bool.and_eq_false_iff, decide_eq_false_iff_not, Window.apart]
  omega

/-- An entry replaced keeps the law of the table, where a new window is legal and agrees with the others (R17). -/
theorem legalWindows.set {usable : Nat} {ws : List (Option Window)} (h : legalWindows usable ws) (i : Nat)
    (e : Option Window) (hlegal : ∀ w, e = some w → w.legal usable ∧ w.ringRole = .none ∧
      ∀ j v, j ≠ i → ws[j]? = some (some v) → v.apart w) : legalWindows usable (ws.set i e) := by
  obtain ⟨hlength, hall, hpairs⟩ := h
  have hget {j : Nat} {w : Window} (hj : (ws.set i e)[j]? = some (some w)) :
      (j = i ∧ e = some w) ∨ (j ≠ i ∧ ws[j]? = some (some w)) := by
    rw [List.getElem?_set] at hj
    split at hj
    · next heq =>
      split at hj
      · exact .inl ⟨heq.symm, Option.some.inj hj⟩
      · cases hj
    · next hne => exact .inr ⟨Ne.symm hne, hj⟩
  refine ⟨by simpa using hlength, fun w hw => ?_, fun j k v w hjk hv hw => ?_⟩
  · obtain ⟨j, hj⟩ := List.getElem?_of_mem hw
    obtain ⟨-, he⟩ | ⟨-, hold⟩ := hget hj
    · exact (hlegal w he).1
    · exact hall w (List.mem_of_getElem? hold)
  · obtain ⟨rfl, hev⟩ | ⟨hji, hv'⟩ := hget hv
    · obtain ⟨hki, hw'⟩ := (hget hw).resolve_left fun h => by omega
      obtain ⟨-, hrole, hapart⟩ := hlegal v hev
      exact ⟨Window.apart_symm (hapart k w hki hw'), fun _ => hrole⟩
    · obtain ⟨rfl, hew⟩ | ⟨hki, hw'⟩ := hget hw
      · obtain ⟨-, hrole, hapart⟩ := hlegal w hew
        exact ⟨hapart j v hji hv', fun heq => heq.trans hrole⟩
      · exact hpairs j k v w hjk hv' hw'

/-! ## The windows of an image -/

theorem windowEntries_length (b : List Byte) (usable n : Nat) : (windowEntries b usable n).1.length = n := by
  induction n with
  | zero => rfl
  | succ n ih => simp [windowEntries, ih]

/-- Entry `k` of an image is that of its place, judged against the entries before it (R195). -/
theorem windowEntries_getElem? (b : List Byte) (usable n k : Nat) (hk : k < n) : (windowEntries b usable n).1[k]? =
    some (windowEntry b usable (windowEntries b usable k).1 k).1 := by
  induction n with
  | zero => omega
  | succ n ih =>
    have hlength := windowEntries_length b usable n
    simp only [windowEntries]
    by_cases hkn : k < n
    · rw [List.getElem?_append_left (by omega), ih hkn]
    · obtain rfl : k = n := by omega
      rw [List.getElem?_append_right (by omega), hlength, Nat.sub_self]
      rfl

/-- The entries before a place are the first ones of the whole table. -/
theorem windowEntries_prefix (b : List Byte) (usable n j k : Nat) (hj : j < k) (hk : k ≤ n) :
    (windowEntries b usable k).1[j]? = (windowEntries b usable n).1[j]? := by
  rw [windowEntries_getElem? b usable k j hj, windowEntries_getElem? b usable n j (by omega)]

/-- A window that an image's entry gives (R195). -/
theorem windowEntry_some {b : List Byte} {usable k : Nat} {kept : List (Option Window)} {w : Window}
    (h : (windowEntry b usable kept k).1 = some w) :
    windowFields b (136 + 16 * k) = some w ∧ windowFits usable w.base w.size = true ∧
      (w.shielded && decide (w.checkPolicy = .report)) = false ∧ windowAgrees kept w = true := by
  unfold windowEntry at h
  dsimp only at h
  repeat' split at h
  · cases h
  · cases h
  · next hfields hok =>
    cases h
    simp only [Bool.and_eq_true, Bool.not_eq_true'] at hok
    exact ⟨hfields, hok.1.1, hok.1.2, hok.2⟩
  · cases h

theorem windowAgrees_mem {kept : List (Option Window)} {v w : Window} (h : windowAgrees kept w = true)
    (hv : some v ∈ kept) : v.apart w ∧ (w.ringRole = .none ∨ v.ringRole ≠ w.ringRole) := by
  have hagrees := List.all_eq_true.1 h (some v) hv
  simp only [Bool.and_eq_true, Bool.not_eq_true', Bool.or_eq_true, decide_eq_true_eq] at hagrees
  exact ⟨(overlaps_eq_false_iff v w).1 hagrees.1, hagrees.2⟩

/-- The windows of any image are legal (R17, R195). -/
theorem windowEntries_legal (b : List Byte) (usable : Nat) : legalWindows usable (windowEntries b usable 16).1 := by
  have hentry {k : Nat} {w : Window} (h : (windowEntries b usable 16).1[k]? = some (some w)) :
      k < 16 ∧ (windowEntry b usable (windowEntries b usable k).1 k).1 = some w := by
    have hk : k < 16 := by
      obtain ⟨hk, -⟩ := List.getElem?_eq_some_iff.1 h
      rwa [windowEntries_length] at hk
    rw [windowEntries_getElem? b usable 16 k hk] at h
    exact ⟨hk, Option.some.inj h⟩
  refine ⟨windowEntries_length b usable 16, fun w hw => ?_, fun i j v w hij hv hw => ?_⟩
  · obtain ⟨k, hk⟩ := List.getElem?_of_mem hw
    obtain ⟨-, hfits, hshielded, -⟩ := windowEntry_some (hentry hk).2
    obtain ⟨hpow, hsize, haligned, hend⟩ := (windowFits_iff _ _ _).1 hfits
    refine ⟨hpow, hsize, haligned, hend, fun hs => ?_⟩
    rw [hs, Bool.true_and, decide_eq_false_iff_not] at hshielded
    cases hpolicy : w.checkPolicy
    · rfl
    · exact absurd hpolicy hshielded
  · obtain ⟨hj, hwj⟩ := hentry hw
    obtain ⟨-, -, -, hagrees⟩ := windowEntry_some hwj
    have hkept : some v ∈ (windowEntries b usable j).1 := by
      rw [← windowEntries_prefix b usable 16 i j hij (Nat.le_of_lt hj)] at hv
      exact List.mem_of_getElem? hv
    obtain ⟨hapart, hrole⟩ := windowAgrees_mem hagrees hkept
    exact ⟨hapart, fun heq => hrole.elim (fun hnone => heq.trans hnone) fun hne => absurd heq hne⟩

/-! ## The loaded copy -/

theorem crossChecks_budget (x : Checked Settings) : (crossChecks x).1.boardDraw ≤ (crossChecks x).1.powerBudget := by
  unfold crossChecks
  dsimp only
  generalize (if x.1.minInterval ≤ x.1.period / 2 then x else _) = y
  split
  · next hfits => exact hfits
  · split
    · next hfits => exact hfits
    · show (builtIn 0).boardDraw ≤ (builtIn 0).powerBudget
      decide

theorem ringSizes_keeps (x : Checked Settings) : (ringSizes x).1.boardDraw = x.1.boardDraw ∧
    (ringSizes x).1.powerBudget = x.1.powerBudget ∧ (ringSizes x).1.memSize = x.1.memSize ∧
    (ringSizes x).1.windows = x.1.windows := by
  obtain ⟨hrings, -⟩ := ringSizes_frame x
  exact ⟨by rw [hrings], by rw [hrings], by rw [hrings], by rw [hrings]⟩

/-- Whatever the loaded copy was made of, BOARD_DRAW fits the budget and its windows are legal (R17, R100, R195). -/
theorem loadable_legal {loaded : Settings} (h : Loadable loaded) :
    loaded.boardDraw ≤ loaded.powerBudget ∧ legalWindows (loaded.memSize - 2048) loaded.windows := by
  obtain ⟨straps, rfl | ⟨b, rfl⟩⟩ := h
  · exact ⟨(by decide : 25 ≤ 60), legalWindows_empty _⟩
  · obtain ⟨hsettings, -⟩ := validate_parts b straps
    rw [hsettings]
    dsimp only
    obtain ⟨hdraw, hbudget, hmemory, hwindows⟩ := ringSizes_keeps
      ({ (crossChecks (globalFields b straps)).1 with
          windows := (windowEntries b ((crossChecks (globalFields b straps)).1.memSize - 2048) 16).1 },
        (windowEntries b ((crossChecks (globalFields b straps)).1.memSize - 2048) 16).2)
    rw [hdraw, hbudget, hmemory, hwindows]
    exact ⟨crossChecks_budget _, windowEntries_legal b _⟩


/-! ## The window table over a step (R17, R22) -/

theorem dependsOn_windowsLaw : DependsOn [.loader, .windows] State.windowsLaw := by
  intro s t hsame h
  obtain ⟨-, hloaded⟩ := hsame .loader (by simp)
  have hwindows : t.windows = s.windows := hsame .windows (by simp)
  unfold State.windowsLaw State.usable State.settings
  rwa [hloaded, hwindows]

theorem lawClosed_windowsLaw : LawClosed [.loader, .windows] State.windowsLaw where
  quiet hquiet h := dependsOn_windowsLaw.kept hquiet.kept h (by simp)
  change new _ _ _ h := dependsOn_windowsLaw.kept (kept_changeRegime new _) h (by simp [Part.regimeParts])
  heaters h := dependsOn_windowsLaw.kept (kept_evalHeaters _) h (by simp)
  notice b h := dependsOn_windowsLaw.kept (kept_queueNotice b _) h (by simp)
  record _ _ _ _ h := dependsOn_windowsLaw.kept (kept_appendRecord _ _ _ _) h (by simp)
  pardon h := dependsOn_windowsLaw.kept (kept_pardon _) h (by simp)
  finish h := dependsOn_windowsLaw.kept (kept_finish _) h (by simp)
  depends := dependsOn_windowsLaw
  memory := by simp
  pending := by simp
  admitted _ h := h
  restart cause cold _ h := by
    rw [takeRestart_eq]
    obtain ⟨-, hcopy⟩ := dependsOn_windowsLaw.kept (kept_changeRegime (State.restartKind _ cold).regime _)
      (dependsOn_windowsLaw.kept (kept_restartRecorded cause cold _) h (by simp)) (by simp [Part.regimeParts])
    exact ⟨hcopy, hcopy⟩
  load _ _ _ hloadable _ _ := by
    have hlegal := (loadable_legal hloadable).2
    refine dependsOn_windowsLaw.kept (kept_changeRegime _ _) ?_ (by simp [Part.regimeParts])
    exact ⟨hlegal, hlegal⟩
  valid _ h := h
  reset := ⟨legalWindows_empty _, legalWindows_empty _⟩

theorem windowArgs_legal {s : State} {w : Window} (h : s.windowArgs = some w) :
    w.legal s.usable ∧ w.ringRole = .none := by
  simp only [State.windowArgs, Option.bind_eq_bind, Option.bind_eq_some_iff] at h
  obtain ⟨wp, -, cp, -, poison, -, h⟩ := h
  split at h
  · next hfits =>
    cases h
    obtain ⟨hpow, hsize, haligned, hend⟩ := (windowFits_iff _ _ _).1 hfits
    exact ⟨⟨hpow, hsize, haligned, hend, fun hs => nomatch hs⟩, rfl⟩
  · cases h

theorem apart_of_overlapsOther (w : Window) (i : Nat) (ws : List (Option Window)) (k : Nat)
    (h : overlapsOther w i ws k = false) (j : Nat) (v : Window) (hj : k + j ≠ i) (hv : ws[j]? = some (some v)) :
    v.apart w := by
  induction ws generalizing k j with
  | nil => cases hv
  | cons x xs ih =>
    simp only [overlapsOther, Bool.or_eq_false_iff] at h
    cases j with
    | zero =>
      cases hv
      have hhead := h.1
      simp only [Bool.and_eq_false_iff, decide_eq_false_iff_not] at hhead
      exact (overlaps_eq_false_iff v w).1 (hhead.resolve_left (by simpa using hj))
    | succ j => exact ih (k + 1) h.2 j (by omega) hv

theorem exec_windowsLaw {i : Instr} {s t : State} (h : s.windowsLaw) (he : exec i s = .next t) : t.windowsLaw := by
  refine lawClosed_windowsLaw.exec (fun hcontrol hsome => ?_) h he
  have hanswer (status : Status) {s : State} (h : s.windowsLaw) : (answer status s).windowsLaw :=
    dependsOn_windowsLaw.kept (ps := []) (fun p _ => by cases p <;> simp [Part.same, answer]) h (by simp)
  cases i <;> simp [touchedParts, Part.all, Part.regimeParts, Part.detectionParts] at hcontrol hsome
  case setWindow =>
    obtain rfl | ⟨-, rfl⟩ := taking_cases he
    · exact h
    refine lawClosed_windowsLaw.finish ?_
    unfold takeSetWindow
    dsimp only
    split
    · exact hanswer _ h
    split
    · exact hanswer _ h
    split
    · exact hanswer _ h
    next w hw =>
    split
    · exact hanswer _ h
    next hapart =>
    refine hanswer _ (And.intro ?_ (by exact h.2))
    refine h.1.set _ _ fun w' hw' => ?_
    cases hw'
    obtain ⟨hlegal, hrole⟩ := windowArgs_legal hw
    exact ⟨hlegal, hrole, fun j v hj hv =>
      apart_of_overlapsOther w _ _ 0 (by simpa using hapart) j v (by omega) hv⟩
  case clearWindow =>
    obtain rfl | ⟨-, rfl⟩ := taking_cases he
    · exact h
    refine lawClosed_windowsLaw.finish ?_
    unfold takeClearWindow
    dsimp only
    split
    · exact hanswer _ h
    split
    · exact hanswer _ h
    · exact hanswer _ (And.intro (by exact h.1.set _ _ fun _ hw => nomatch hw) (by exact h.2))

/-! ## The power budget over a step (R99, R100) -/

/-- The two heaters admitted within a room draw no more than it has (R99). -/
theorem admitTwo_draw (room : Nat) (demand1 : Bool) (draw1 : Nat) (demand2 : Bool) (draw2 : Nat) :
    (if (admitTwo room demand1 draw1 demand2 draw2).1 then draw1 else 0) +
      (if (admitTwo room demand1 draw1 demand2 draw2).2 then draw2 else 0) ≤ room := by
  unfold admitTwo
  dsimp only
  cases demand1 <;> cases demand2 <;> simp only [Bool.true_and, Bool.false_and, Bool.false_eq_true, if_false]
  · omega
  · split
    · next h => simpa using h
    · omega
  · split
    · next h => simpa using h
    · omega
  · by_cases h1 : draw1 ≤ room
    · simp only [h1, decide_true, if_true]
      split
      · next h2 =>
        have := of_decide_eq_true h2
        omega
      · omega
    · simp only [h1, decide_false, Bool.false_eq_true, if_false]
      split
      · next h2 => simpa using of_decide_eq_true h2
      · omega

theorem admission_draw (s : State) (counted : Bool) :
    (if (s.admission counted).1 then s.settings.boardHeaterDraw else 0) +
      (if (s.admission counted).2 then s.settings.panelHeaterDraw else 0) ≤
        if counted then s.settings.powerBudget - s.settings.boardDraw else s.settings.powerBudget := by
  unfold State.admission
  dsimp only
  split
  · exact admitTwo_draw _ _ _ _ _
  · rw [Nat.add_comm]
    exact admitTwo_draw _ _ _ _ _

theorem admitTwo_undemanded (room draw1 draw2 : Nat) : admitTwo room false draw1 false draw2 = (false, false) := rfl

/-- The heaters decided afresh fit the budget, whatever they were (R97 to R99). -/
theorem budgetLaw_evalHeaters {s : State} (h : s.settings.boardDraw ≤ s.settings.powerBudget) :
    (evalHeaters s).budgetLaw := by
  refine ⟨h, ?_, fun hregime => ?_⟩
  · have hdraw := admission_draw (evalDemands s) s.ctl.power
    have hsettings : (evalDemands s).settings = s.settings := rfl
    rw [hsettings] at hdraw
    have hactive : (evalHeaters s).activeDraw = (if s.ctl.power then s.settings.boardDraw else 0) +
        ((if ((evalDemands s).admission s.ctl.power).1 then s.settings.boardHeaterDraw else 0) +
          (if ((evalDemands s).admission s.ctl.power).2 then s.settings.panelHeaterDraw else 0)) :=
      Nat.add_assoc _ _ _
    rw [hactive]
    show _ ≤ s.settings.powerBudget
    cases hpower : s.ctl.power <;> simp only [hpower, if_true, Bool.false_eq_true, if_false] at hdraw ⊢ <;> omega
  · have hregime' : s.ctl.regime = .loading ∨ s.ctl.regime = .overheat := hregime
    have hcold : s.ctl.regime.coldStart = false := by obtain h | h := hregime' <;> rw [h] <;> rfl
    have hboard : s.boardDemandNow = false := by
      unfold State.boardDemandNow
      obtain h | h := hregime' <;> simp [h, Regime.coldStart]
    have hpanel : s.panelDemandNow = false := by simp [State.panelDemandNow, hregime']
    have hnone : (evalDemands s).admission s.ctl.power = (false, false) := by
      simp [State.admission, evalDemands, hcold, hboard, hpanel, admitTwo_undemanded]
    exact ⟨congrArg Prod.fst hnone, congrArg Prod.snd hnone⟩

theorem dependsOn_budgetLaw : DependsOn [.loader, .control, .heaters] State.budgetLaw := by
  intro s t hsame h
  obtain ⟨-, hloaded⟩ := hsame .loader (by simp)
  obtain ⟨hregime, hpower, -⟩ := hsame .control (by simp)
  obtain ⟨hboard, hpanel⟩ := hsame .heaters (by simp)
  unfold State.budgetLaw State.activeDraw State.settings
  rwa [hloaded, hregime, hpower, hboard, hpanel]

theorem budgetLaw_changeRegime (new : Regime) {s : State} (h : s.settings.boardDraw ≤ s.settings.powerBudget) :
    (changeRegime new s).budgetLaw := by
  rw [changeRegime_eq]
  generalize hu : scrubNews (beforeScrubNews new s) = u
  have hloader : u.loader = s.loader := by
    have hchanged : (changeRegime new s).loader = s.loader := by simp
    rw [changeRegime_eq, hu] at hchanged
    simpa using hchanged
  have hsettings : u.settings = s.settings := by unfold State.settings; rw [hloader]
  refine dependsOn_budgetLaw.kept (ps := []) (fun p _ => ?_) (budgetLaw_evalHeaters (hsettings ▸ h)) (by simp)
  cases p <;> simp [Part.same]

theorem lawClosed_budgetLaw : LawClosed [.loader, .control, .heaters] State.budgetLaw where
  quiet hquiet h := dependsOn_budgetLaw.kept hquiet.kept h (by simp)
  change new _ _ _ h := budgetLaw_changeRegime new h.1
  heaters h := budgetLaw_evalHeaters h.1
  notice b h := dependsOn_budgetLaw.kept (kept_queueNotice b _) h (by simp)
  record _ _ _ _ h := dependsOn_budgetLaw.kept (kept_appendRecord _ _ _ _) h (by simp)
  pardon h := dependsOn_budgetLaw.kept (kept_pardon _) h (by simp)
  finish h := dependsOn_budgetLaw.kept (kept_finish _) h (by simp)
  depends := dependsOn_budgetLaw
  memory := by simp
  pending := by simp
  admitted {s} hr h := by
    have hdraw := admission_draw s true
    have hfits := h.1
    simp only [if_true] at hdraw
    refine ⟨hfits, ?_, fun hregime => ?_⟩
    · have hactive : (admitHeaters true s).activeDraw = (if s.ctl.power then s.settings.boardDraw else 0) +
          ((if (s.admission true).1 then s.settings.boardHeaterDraw else 0) +
            (if (s.admission true).2 then s.settings.panelHeaterDraw else 0)) := Nat.add_assoc _ _ _
      rw [hactive]
      show _ ≤ s.settings.powerBudget
      split <;> omega
    · have hregime' : s.ctl.regime = .loading ∨ s.ctl.regime = .overheat := hregime
      simp [hr] at hregime'
  restart cause cold _ h := by
    rw [takeRestart_eq]
    have hrecorded := dependsOn_budgetLaw.kept (kept_restartRecorded cause cold _) h (by simp)
    exact dependsOn_budgetLaw.kept (kept_loadWindows _) (budgetLaw_changeRegime _ hrecorded.1) (by simp)
  load _ _ _ hloadable _ _ := budgetLaw_changeRegime _ (loadable_legal hloadable).1
  valid _ h := h
  reset := ⟨by decide, by decide, fun _ => ⟨rfl, rfl⟩⟩

theorem exec_budgetLaw {i : Instr} {s t : State} (h : s.budgetLaw) (he : exec i s = .next t) : t.budgetLaw := by
  refine lawClosed_budgetLaw.exec (fun hcontrol hsome => ?_) h he
  cases i <;> simp [touchedParts, Part.all, Part.regimeParts, Part.detectionParts] at hcontrol hsome

/-- Settles O60: the heaters are decided afresh within the budget, and every window that enters the table is legal. -/
theorem keepsSettingLaws : Obligations.KeepsSettingLaws := by
  refine fun s t h => ⟨fun hs => ?_, fun hs => ?_⟩
  · exact step_keeps (P := State.budgetLaw) (Q := State.budgetLaw) (fun _ _ hs => hs) (fun _ hs => hs) exec_budgetLaw hs h
  · exact step_keeps (P := State.windowsLaw) (Q := State.windowsLaw) (fun _ _ hs => hs) (fun _ hs => hs) exec_windowsLaw
      hs h

end Sys2Proof.Machine

/-! SUPPORT. The front port (chapter 1): a transaction in range, its wait, its classification and its access, and what
the completion of its access comes to. -/

namespace Sys2Proof.Machine

open Host (Outcome)

/-! ## A transaction in range (R3, R5, R6, R8, R9) -/

/-- The transaction that the bus presents, at the offset of its word or group (R1). -/
def FrontTxn.presented (kind : TxnKind) (a : Nat) (mask : Byte) (words : List Word) : FrontTxn :=
  { kind := kind, offset := a, mask := mask, words := words, phase := .reserveWait, classification := none }

section InRange

variable (kind : TxnKind) (o a : Nat) (mask : Byte) (words : List Word) (s : State)
  (ha : (if kind.isLine then groupOf o else wordOffset o) = a) (hrun : s.ctl.regime = .running)
  (hempty : s.front = none) (hin : a < s.usable)

include ha hrun hempty hin

/-- On a reserved group a transaction in range waits, with no request (R5). -/
theorem frontAccept_reserved (hreserved : s.repair.reservation = some (groupOf a)) :
    frontAccept kind o mask words s = { s with front := some (.presented kind a mask words) } := by
  unfold frontAccept
  rw [if_neg (by simp [hrun, hempty])]
  dsimp only
  rw [ha, if_neg (Nat.not_le.2 hin), if_pos (by simpa [State.reservedAt] using hreserved)]
  rfl

/-- On any other group it is classified (R6). -/
theorem frontAccept_unreserved (hfree : s.repair.reservation ≠ some (groupOf a)) :
    frontAccept kind o mask words s = finish (frontClassify (.presented kind a mask words) s) := by
  unfold frontAccept
  rw [if_neg (by simp [hrun, hempty])]
  dsimp only
  rw [ha, if_neg (Nat.not_le.2 hin), if_neg (by simpa [State.reservedAt] using hfree)]
  rfl

end InRange

theorem exists_some_pair {α β : Type} {k : α} {w : β} {P : α → β → Prop} :
    (∃ k' w', some (k, w) = some (k', w') ∧ P k' w') ↔ P k w := by
  refine ⟨?_, fun h => ⟨k, w, rfl, h⟩⟩
  rintro ⟨_, _, hpair, h⟩
  cases hpair
  exact h

theorem refusesWrite_of_read (s : State) (t : FrontTxn) (h : t.kind.writes = false) : s.refusesWrite t = false := by
  simp [State.refusesWrite, h]

/-- Step 5 refuses a WRITE by its window's policy or for a byte of a part-owned header word (R8). -/
theorem refusesWrite_write_iff (s : State) (t : FrontTxn) (h : t.kind = .write) : s.refusesWrite t = true ↔
    (s.classify t.offset).writePolicy ≠ .allow ∨ (t.mask ≠ 0 ∧ meetsPartOwned s t.offset false) := by
  unfold State.refusesWrite meetsPartOwned
  cases hw : s.windowAt t.offset with
  | none => simp [h, TxnKind.writes]
  | some x =>
    obtain ⟨k, w⟩ := x
    rw [exists_some_pair]
    cases hrole : w.ringRole <;> simp [h, TxnKind.writes, touchesPartOwned, partOwned, hrole]

theorem refusesWrite_lineWrite_iff (s : State) (t : FrontTxn) (h : t.kind = .lineWrite) : s.refusesWrite t = true ↔
    (s.classify t.offset).writePolicy ≠ .allow ∨ meetsPartOwned s t.offset true := by
  unfold State.refusesWrite meetsPartOwned
  cases hw : s.windowAt t.offset with
  | none => simp [h, TxnKind.writes]
  | some x =>
    obtain ⟨k, w⟩ := x
    rw [exists_some_pair]
    cases hrole : w.ringRole <;> simp [h, TxnKind.writes, touchesPartOwned, partOwned, hrole]

/-- A transaction that step 5 passes and that is no empty write asks for its access (R6, R9). -/
theorem frontClassify_asks (t : FrontTxn) (s : State) (hpass : s.refusesWrite t = false)
    (hmask : ¬ (t.kind = .write ∧ t.mask = 0)) : frontClassify t s = place (frontAccess s t)
      { s with front := some { t with phase := .requested, classification := some (s.classify t.offset) } } := by
  unfold frontClassify
  dsimp only
  rw [if_neg (by simp [hpass]), if_neg hmask]
  rfl

/-- A write that step 5 refuses (R8, R16). -/
theorem frontClassify_refused (t : FrontTxn) (s : State) (hempty : s.front = none) (hwrites : t.kind.writes = true)
    (hrefused : s.refusesWrite t = true) : frontClassify t s = { s with
      frontResponse := some (.refused .policy)
      watchReports := s.watchReports ++ [t.report (.refused .policy) [] (s.classify t.offset).window]
      requests := if (s.classify t.offset).writePolicy = .refuseTrip then
        s.requests ++ [{ cause := .guardTrip, cold := false, chord := none }] else s.requests } := by
  unfold frontClassify
  dsimp only
  rw [if_pos hrefused, refuseTxn_of_write _ _ _ _ hwrites, respond_of_empty _ _ hempty]
  split
  · rfl
  · rfl

/-- An empty write makes no access (R8). -/
theorem frontClassify_emptyWrite (t : FrontTxn) (s : State) (hempty : s.front = none)
    (hpass : s.refusesWrite t = false) (hkind : t.kind = .write) (hmask : t.mask = 0) : frontClassify t s = { s with
      frontResponse := some .done
      watchReports := s.watchReports ++ [t.report .emptyWrite [] (s.classify t.offset).window] } := by
  unfold frontClassify
  dsimp only
  rw [if_neg (by simp [hpass]), if_pos ⟨hkind, hmask⟩, respond_of_empty _ _ hempty]
  rfl

/-! ## The redirect and the classification of an offset (R6, R7, R56) -/

theorem repairEntry_of_first (s : State) (g : Nat) (older newer : List RepairEntry) (e : RepairEntry)
    (htable : s.repair.table = older ++ e :: newer) (he : e.group = g) (hfirst : ∀ x ∈ older, x.group ≠ g) :
    s.repairEntry g = some e := by
  have hnone : older.find? (fun e => e.group == g) = none :=
    List.find?_eq_none.2 fun x hx => by simpa using hfirst x hx
  simp [State.repairEntry, htable, List.find?_append, hnone, he]

theorem repairEntry_none (s : State) (g : Nat) (h : ∀ e ∈ s.repair.table, e.group ≠ g) : s.repairEntry g = none :=
  List.find?_eq_none.2 fun x hx => by simpa using h x hx

/-- The window that holds an offset is the first whose range does. -/
theorem findWindow_of_first (ws : List (Option Window)) (i o k : Nat) (w : Window) (hk : ws[k]? = some (some w))
    (hw : w.base ≤ o ∧ o < w.base + w.size)
    (hfirst : ∀ j < k, ∀ v, ws[j]? = some (some v) → ¬ (v.base ≤ o ∧ o < v.base + v.size)) :
    findWindow ws i o = some (i + k, w) := by
  induction ws generalizing i k with
  | nil => cases hk
  | cons x xs ih =>
    cases k with
    | zero =>
      cases hk
      simp [findWindow, hw]
    | succ k =>
      have hrest := ih (i + 1) k hk fun j hj v hv => hfirst (j + 1) (by omega) v hv
      rw [Nat.add_right_comm, Nat.add_assoc] at hrest
      cases x with
      | none => simpa [findWindow] using hrest
      | some v =>
        have hv := hfirst 0 (by omega) v rfl
        simpa [findWindow, hv] using hrest

/-- Settles O11: the first steps of a read, the redirect of an access, and the window of an offset. -/
theorem frontReads : Obligations.FrontReads := by
  refine ⟨fun s hrun hempty => ⟨?read, ?lineRead⟩, ?redirect, ?classify⟩
  case read =>
    intro o mask a hin
    constructor
    · intro hreserved
      rw [exec_read, frontAccept_reserved .read _ a _ _ s rfl hrun hempty hin hreserved]
      rfl
    · intro hfree
      rw [exec_read, frontAccept_unreserved .read _ a _ _ s rfl hrun hempty hin hfree,
        frontClassify_asks _ _ (refusesWrite_of_read _ _ rfl) (by simp [FrontTxn.presented])]
      rfl
  case lineRead =>
    intro o a hin
    constructor
    · intro hreserved
      rw [exec_lineRead, frontAccept_reserved .lineRead _ a _ _ s rfl hrun hempty hin hreserved]
      rfl
    · intro hfree
      rw [exec_lineRead, frontAccept_unreserved .lineRead _ a _ _ s rfl hrun hempty hin hfree,
        frontClassify_asks _ _ (refusesWrite_of_read _ _ rfl) (by simp [FrontTxn.presented])]
      rfl
  case redirect =>
    intro s r p line o ws a
    refine ⟨rfl, rfl, rfl, rfl, rfl, rfl, fun older newer e htable he hfirst => ?_, fun hnone => ?_⟩
    · have hloc : s.locate o = .spare e.slot := by
        simp [State.locate, repairEntry_of_first s _ older newer e htable he hfirst]
      refine ⟨hloc, ?_⟩
      simp only [a, State.accessAddress, State.accessAt, State.addressOf, hloc, groupOf]
      omega
    · have hloc : s.locate o = .home := by simp [State.locate, repairEntry_none s _ hnone]
      exact ⟨hloc, by simp [a, State.accessAddress, State.accessAt, State.addressOf, hloc]⟩
  case classify =>
    intro s o holds
    constructor
    · intro k w hk hw hfirst
      have hwindow : s.windowAt o = some (k, w) := by
        simpa [State.windowAt] using findWindow_of_first s.windows 0 o k w hk hw hfirst
      simp [State.policyAt, State.classify, hwindow]
    · intro hnone
      have hwindow : s.windowAt o = none := (findWindow_eq_none_iff _ _ _).2 hnone
      exact ⟨by simp [State.policyAt, hwindow], classify_of_windowAt_none s o hwindow⟩

/-- Settles O12: the wait, the access asked for and the empty write. -/
theorem frontWrites : Obligations.FrontWrites := by
  refine fun s hrun hempty => ⟨?write, ?lineWrite⟩
  case write =>
    intro o mask d a hin
    refine ⟨fun hreserved => ?_, fun hfree hallow => ⟨fun hmask => ?_, fun hmask hparts => ?_⟩⟩
    · rw [exec_write, frontAccept_reserved .write _ a _ _ s rfl hrun hempty hin hreserved]
      rfl
    · have hpass : s.refusesWrite (.presented .write a mask [d]) = false := by
        rw [← Bool.not_eq_true, refusesWrite_write_iff _ _ rfl]
        rintro (hpolicy | ⟨hne, -⟩)
        · exact hpolicy hallow
        · exact hne hmask
      rw [exec_write, frontAccept_unreserved .write _ a _ _ s rfl hrun hempty hin hfree,
        frontClassify_emptyWrite _ _ hempty hpass rfl hmask]
      rfl
    · have hpass : s.refusesWrite (.presented .write a mask [d]) = false := by
        rw [← Bool.not_eq_true, refusesWrite_write_iff _ _ rfl]
        rintro (hpolicy | ⟨-, hmeets⟩)
        · exact hpolicy hallow
        · exact hparts hmeets
      rw [exec_write, frontAccept_unreserved .write _ a _ _ s rfl hrun hempty hin hfree,
        frontClassify_asks _ _ hpass (by simpa [FrontTxn.presented] using hmask)]
      rfl
  case lineWrite =>
    intro o d a hin
    refine ⟨fun hreserved => ?_, fun hfree hallow hparts => ?_⟩
    · rw [exec_lineWrite, frontAccept_reserved .lineWrite _ a _ _ s rfl hrun hempty hin hreserved]
      rfl
    · have hpass : s.refusesWrite (.presented .lineWrite a 0xFF (lineWords d)) = false := by
        rw [← Bool.not_eq_true, refusesWrite_lineWrite_iff _ _ rfl]
        rintro (hpolicy | hmeets)
        · exact hpolicy hallow
        · exact hparts hmeets
      rw [exec_lineWrite, frontAccept_unreserved .lineWrite _ a _ _ s rfl hrun hempty hin hfree,
        frontClassify_asks _ _ hpass (by simp [FrontTxn.presented])]
      rfl

/-- Settles O13: a write that step 5 refuses. -/
theorem frontWriteRefused : Obligations.FrontWriteRefused := by
  refine fun s hrun hempty => ⟨?write, ?lineWrite⟩
  case write =>
    intro o mask d a hin hfree hrefused
    have hrefuses := (refusesWrite_write_iff s (.presented .write a mask [d]) rfl).2 hrefused
    rw [exec_write, frontAccept_unreserved .write _ a _ _ s rfl hrun hempty hin hfree, frontClassify_refused _ _ hempty rfl hrefuses]
    rfl
  case lineWrite =>
    intro o d a hin hfree hrefused
    have hrefuses := (refusesWrite_lineWrite_iff s (.presented .lineWrite a 0xFF (lineWords d)) rfl).2 hrefused
    rw [exec_lineWrite, frontAccept_unreserved .lineWrite _ a _ _ s rfl hrun hempty hin hfree, frontClassify_refused _ _ hempty rfl hrefuses]
    rfl

end Sys2Proof.Machine

/-! SUPPORT. The completions of the front port (R10 to R16): what detections leave of the transaction, the words of an
access as detections and fix requests, the bytes of a merge, and the carried places. -/

namespace Sys2Proof.Machine

open Host (Outcome)

/-! ## The transaction that detections leave -/

/-- The front transaction apart from its phase: what a reservation set by another block leaves of it (R5, R57). -/
def told (front : Option FrontTxn) : Option FrontTxn := front.map fun t => { t with phase := .reserveWait }

@[simp] theorem frontYield_told (g : Nat) (s : State) : told (frontYield g s).front = told s.front := by
  unfold frontYield
  split
  · split
    · simp [told, Function.comp_def]
    · rfl
  · rfl

@[simp] theorem startMigration_told (g slot : Nat) (s : State) : told (startMigration g slot s).front = told s.front := by
  simp [startMigration, setReservation]

@[simp] theorem startMigrations_told (n : Nat) (s : State) : told (startMigrations n s).front = told s.front := by
  induction n generalizing s with
  | zero => rfl
  | succ n ih =>
    unfold startMigrations
    split
    · rfl
    · split
      · rfl
      · dsimp only
        split
        · simp [ih]
        · simp

@[simp] theorem offerRepair_told (g : Nat) (s : State) : told (offerRepair g s).front = told s.front := by
  unfold offerRepair nextMigration
  split
  · rfl
  · split
    · rfl
    · split
      · rfl
      · simp

theorem enterDetection_told (d : Detection) (s : State) : told (enterDetection d s).front = told s.front := by
  unfold enterDetection
  dsimp only
  split
  · split
    · simp
    · rfl
  · split
    · simp
    · simp

theorem coalesce_told (d : Detection) (e : LogEntry) (s : State) : told (coalesce d e s).front = told s.front := by
  unfold coalesce
  dsimp only
  split
  · rfl
  · split
    · simp
    · rfl

theorem detect_told (d : Detection) (s : State) : told (detect d s).front = told s.front := by
  have hcount : (countDetection d s).front = s.front := by simp
  rw [← hcount]
  unfold detect
  dsimp only
  split
  · exact coalesce_told _ _ _
  · split
    · exact enterDetection_told _ _
    · split
      · rfl
      · split
        · exact enterDetection_told _ _
        · rfl

theorem detectAll_told (ds : List Detection) (s : State) : told (detectAll ds s).front = told s.front := by
  unfold detectAll
  induction ds generalizing s with
  | nil => rfl
  | cons d ds ih => rw [List.foldl_cons, ih, detect_told]

/-- After the detections of a read the front port still holds its transaction, in some phase. -/
theorem detectAll_front (ds : List Detection) (s : State) (t : FrontTxn) (h : s.front = some t) :
    ∃ p, (detectAll ds s).front = some { t with phase := p } := by
  have htold := detectAll_told ds s
  unfold told at htold
  cases hf : (detectAll ds s).front with
  | none => simp [hf, h] at htold
  | some u =>
    refine ⟨u.phase, ?_⟩
    simp only [hf, h, Option.map_some, Option.some.injEq] at htold
    obtain ⟨uk, uo, um, uw, up, uc⟩ := u
    cases t
    simp_all

theorem frontPolicy_of (s : State) (t : FrontTxn) (c : Classification) (hfront : s.front = some t)
    (hclass : t.classification = some c) : s.frontPolicy = c.checkPolicy := by
  simp [State.frontPolicy, hfront, hclass]

/-! ## The words of an access, in ascending order of offset (R27, R46) -/

/-- The places that pass a test, each with its value, as one pass over the list. -/
theorem filterMap_eq_map_filter {α β : Type} (l : List α) (p : α → Prop) [DecidablePred p] (f : α → β)
    (g : α → Option β) (hg : ∀ x, g x = if p x then some (f x) else none) :
    l.filterMap g = (l.filter fun x => decide (p x)).map f := by
  rw [← List.filterMap_eq_map, List.filterMap_filter]
  exact congrArg (List.filterMap · l) (funext fun x => by simp [hg])

theorem detectionsOf_eq (source : Source) (policy : Nat → CheckPolicy) (a : Access) (ws : List MemWord) :
    detectionsOf source policy a ws =
      ((List.range ws.length).filter fun k => decide (decode (ws.getD k (made 0)) ≠ .clean)).map fun k =>
        { offset := a.offset + 8 * k, loc := a.loc
          syndrome := (ws.getD k (made 0)).check ^^^ checkBits (ws.getD k (made 0)).data, source := source
          severity := if decode (ws.getD k (made 0)) = .uncorrectable then .uncorrectable
            else if policy (a.offset + 8 * k) = .report then .reported else .corrected } := by
  unfold detectionsOf
  rw [offsetWords_eq, List.filterMap_map]
  refine filterMap_eq_map_filter _ _ _ _ fun k => ?_
  simp only [Function.comp_apply, syndrome]
  cases decode (ws.getD k (made 0)) <;> cases policy (a.offset + 8 * k) <;> simp [severityOf]

theorem fixesOf_eq (policy : Nat → CheckPolicy) (a : Access) (ws : List MemWord) :
    fixesOf policy a ws = ((List.range ws.length).filter fun k =>
        decide (decode (ws.getD k (made 0)) ≠ .clean ∧ decode (ws.getD k (made 0)) ≠ .uncorrectable ∧
          policy (a.offset + 8 * k) = .correct)).map
      fun k => { offset := a.offset + 8 * k, loc := a.loc } := by
  unfold fixesOf
  rw [offsetWords_eq, List.filterMap_map]
  refine filterMap_eq_map_filter _ _ _ _ fun k => ?_
  simp only [Function.comp_apply]
  cases decode (ws.getD k (made 0)) <;> simp [CheckOutcome.single]

/-- Settles O14: the response, the report and the request of a front read. -/
theorem frontReadCompletes : Obligations.FrontReadCompletes := by
  refine ⟨?completes, fun source policy a ws => ⟨detectionsOf_eq source policy a ws, fixesOf_eq policy a ws⟩,
    fun d ds s => ⟨rfl, rfl⟩⟩
  intro s flips a t c hport hp hin hfront hclass r s1 words
  have hexec := atRead_inMemory .frontRead flips s frontReadDone a hport hp hin
  refine hexec.trans ?_
  have hpolicy : State.frontPolicy { s with port := none, mem := r.2 } = c.checkPolicy :=
    frontPolicy_of _ t c hfront hclass
  obtain ⟨p, htxn⟩ := detectAll_front (detectionsOf .frontRead (fun _ => c.checkPolicy) a r.1)
    { s with port := none, mem := r.2 } t hfront
  have htxn1 : s1.front = some { t with phase := p } := by simpa [s1] using htxn
  unfold frontReadDone
  dsimp only
  rw [hpolicy]
  change Outcome.next (finish (if a.discarded then frontDiscard s1 else answerRead r.1 s1)) = _
  cases a.discarded with
  | true => rfl
  | false =>
    have hpolicy1 : s1.frontPolicy = c.checkPolicy := frontPolicy_of s1 _ c htxn1 hclass
    have hpoison : ((c.poisonRestart && words.any (·.2)) = true) = (c.poisonRestart = true ∧ ∃ x ∈ words, x.2 = true) := by
      simp
    unfold answerRead
    simp only [htxn1, hpolicy1, hclass, Bool.false_eq_true, if_false, Option.map_some, Option.getD_some]
    change Outcome.next (finish (if (c.poisonRestart && words.any (·.2)) = true then _ else _)) = _
    simp only [hpoison]
    split
    · rfl
    · rfl

/-! ## The bytes of a merge (R13) -/

theorem leNat_lt (bs : List Byte) : leNat bs < 256 ^ bs.length := by
  induction bs with
  | nil => simp [leNat]
  | cons b bs ih =>
    have hb := b.isLt
    simp only [leNat, List.length_cons, Nat.pow_succ]
    omega

theorem leNat_byte (bs : List Byte) (k : Nat) (h : k < bs.length) : leNat bs / 256 ^ k % 256 = bs[k].toNat := by
  induction bs generalizing k with
  | nil => simp at h
  | cons b bs ih =>
    have hb := b.isLt
    cases k with
    | zero => simp only [leNat, List.getElem_cons_zero, Nat.pow_zero]; omega
    | succ k =>
      have hdiv : leNat (b :: bs) / 256 = leNat bs := by simp only [leNat]; omega
      rw [Nat.pow_succ', ← Nat.div_div_eq_div_mul, hdiv, ih k (by simpa using h)]
      rfl

/-- Byte `k` of the word that 8 bytes spell is the one at place `k`. -/
theorem wordByte_wordOf (bs : List Byte) (k : Nat) (hlen : bs.length = 8) (hk : k < 8) :
    wordByte (wordOf bs) k = bs[k] := by
  apply BitVec.eq_of_toNat_eq
  have hlt : leNat bs < 2 ^ 64 := by
    have h := leNat_lt bs
    rw [hlen] at h
    exact h
  have hpow : 2 ^ (8 * k) = 256 ^ k := by rw [Nat.pow_mul]
  rw [wordByte, wordOf, List.take_of_length_le (by omega), BitVec.extractLsb'_toNat, BitVec.toNat_ofNat,
    Nat.mod_eq_of_lt hlt, Nat.shiftRight_eq_div_pow, hpow]
  exact leNat_byte bs k (by omega)

theorem wordByte_merge (mask : Byte) (new old : Word) (k : Nat) (hk : k < 8) :
    wordByte (merge mask new old) k = if mask.getLsbD k then wordByte new k else wordByte old k := by
  unfold merge
  rw [wordByte_wordOf _ k (by simp) hk]
  simp

/-- Settles O15: the read half of a partial write. -/
theorem frontMergeReadCompletes : Obligations.FrontMergeReadCompletes := by
  intro s flips a t c d hport hp hline hin hfront hkind hwords hclass r s1
  have hexec := atRead_inMemory .frontMergeRead flips s frontMergeDone a hport hp hin
  have hcount : a.count = 1 := by simp [Access.count, hline]
  rw [hcount] at hexec
  change exec (.frontMergeReadComplete flips) s =
    .next (frontMergeDone a [r.1] { s with port := none, mem := r.2 }) at hexec
  have hpolicy : State.frontPolicy { s with port := none, mem := r.2 } = c.checkPolicy :=
    frontPolicy_of _ t c hfront hclass
  obtain ⟨p, htxn⟩ := detectAll_front (detectionsOf .frontMerge (fun _ => c.checkPolicy) a [r.1])
    { s with port := none, mem := r.2 } t hfront
  change s1.front = _ at htxn
  unfold frontMergeDone at hexec
  dsimp only at hexec
  rw [hpolicy] at hexec
  change _ = Outcome.next (finish (if decode r.1 = .uncorrectable then mergeFails a s1 else mergeWrites a r.1 s1)) at hexec
  refine ⟨fun hbad => ?fails, fun hgood => ?writes, wordByte_merge⟩
  case fails =>
    rw [hexec, if_pos hbad]
    unfold mergeFails
    simp only [htxn]
    cases a.discarded with
    | true => rfl
    | false =>
      simp only [Bool.false_eq_true, if_false]
      rw [refuseTxn_of_write _ _ _ _ (by simp [hkind, TxnKind.writes])]
      simp only [hclass, Option.bind_some, reportWatch, respond, FrontTxn.report, hkind, TxnKind.isLine]
  case writes =>
    rw [hexec, if_neg hgood]
    unfold mergeWrites
    simp only [htxn, hwords, List.headD_cons]

/-! ## Front writes and the carried places (R63) -/

theorem madeChecks_iff (p : Purpose) : p.madeChecks = true ↔ p ≠ .diagWrite ∧ p ≠ .migrationWrite := by
  cases p <;> simp [Purpose.madeChecks]

/-- The entries after a write with made check bits at slot `n`. -/
theorem clearCarried_spare (a : Access) (s : State) (n : Nat) (hloc : a.loc = .spare n)
    (hmade : a.purpose.madeChecks = true) : clearCarried a s =
      { s with repair := { s.repair with table := s.repair.table.map fun e =>
          if e.slot = n then { e with carried := e.carried &&& ~~~a.places } else e } } := by
  simp [clearCarried, hloc, hmade]

/-- Settles O16: the completion of a front write, and the carried places of its slot. -/
theorem frontWriteCompletes : Obligations.FrontWriteCompletes := by
  refine ⟨?completes, ?carried⟩
  case completes =>
    intro s a t c hport hp hin hfront hclass s1 r
    refine (atWrite_inMemory .frontWrite s frontWriteDone a hport hp hin).trans ?_
    have htxn : s1.front = some t := by simpa [s1] using hfront
    change Outcome.next (frontWriteDone a s1) = _
    unfold frontWriteDone
    simp only [htxn]
    cases a.discarded with
    | true => rfl
    | false =>
      simp only [Bool.false_eq_true, if_false, hclass, Option.bind_some]
      rfl
  case carried =>
    intro s a covered checksMade t
    constructor
    · rintro (hhome | hraw)
      · exact clearCarried_home a s hhome
      · exact clearCarried_raw a s (by rwa [← Bool.not_eq_true, madeChecks_iff])
    · intro n hloc hmade
      have ht : t = _ := clearCarried_spare a s n hloc ((madeChecks_iff _).2 hmade)
      refine ⟨by rw [ht], by simp [ht], fun i e hi => ?_⟩
      have hentry : t.repair.table[i]? =
          some (if e.slot = n then { e with carried := e.carried &&& ~~~a.places } else e) := by simp [ht, hi]
      by_cases hslot : e.slot = n
      · refine ⟨e.carried &&& ~~~a.places, by rw [hentry, if_pos hslot], fun h => absurd hslot h, fun _ k hk => ?_⟩
        have hplace := places_not_covered a k hk
        rw [BitVec.getLsbD_and, Bool.and_eq_true, hplace]
      · exact ⟨e.carried, by rw [hentry, if_neg hslot], fun _ => rfl, fun h => absurd h hslot⟩

end Sys2Proof.Machine

/-! SUPPORT. The check code (R25, R26): its check bits are linear and each of its columns has odd weight, so that two
flipped bits leave a syndrome of even weight, which is none of the columns. -/

namespace Sys2Proof.Machine

/-! ## The check bits are linear -/

theorem columnsXor_xor (v w : Word) (cs : List Byte) (k : Nat) :
    columnsXor (v ^^^ w) cs k = columnsXor v cs k ^^^ columnsXor w cs k := by
  induction cs generalizing k with
  | nil => simp [columnsXor]
  | cons c cs ih =>
    have hbit : (if (v ^^^ w).getLsbD k then c else 0) =
        (if v.getLsbD k then c else 0) ^^^ (if w.getLsbD k then c else 0) := by
      rw [BitVec.getLsbD_xor]
      cases v.getLsbD k <;> cases w.getLsbD k <;> simp
    simp only [columnsXor, ih, hbit]
    ac_rfl

theorem getLsbD_single (j k : Nat) (hj : j < 64) : (1#64 <<< j).getLsbD k = decide (k = j) := by
  by_cases h : k = j
  · simp [h, hj]
  · simp only [h, decide_false, BitVec.getLsbD_shiftLeft, BitVec.getLsbD_one]
    simp
    omega

theorem columnsXor_single (j : Nat) (hj : j < 64) (cs : List Byte) (k : Nat) :
    columnsXor (1#64 <<< j) cs k = if k ≤ j then cs.getD (j - k) 0 else 0 := by
  induction cs generalizing k with
  | nil => simp [columnsXor]
  | cons c cs ih =>
    rw [columnsXor, ih, getLsbD_single j k hj]
    rcases Nat.lt_trichotomy k j with h | h | h
    · obtain ⟨i, rfl⟩ := Nat.exists_eq_add_of_lt h
      have hself : k ≠ k + i + 1 := by omega
      have hnext : k + i + 1 - (k + 1) = i := by omega
      have hthis : k + i + 1 - k = i + 1 := by omega
      rw [hnext, hthis, if_pos (by omega : k + 1 ≤ k + i + 1), if_pos (by omega : k ≤ k + i + 1)]
      simp [hself]
    · simp [h, show ¬ j + 1 ≤ j by omega]
    · simp [show ¬ k = j by omega, show ¬ k + 1 ≤ j by omega, show ¬ k ≤ j by omega]

/-- The column of data bit `j` (R25). -/
def dataColumn (j : Nat) : Byte := dataColumns.getD j 0

/-- One flipped data bit changes the check bits by its column. -/
theorem checkBits_flip (w : Word) (j : Nat) (hj : j < 64) :
    checkBits (w ^^^ (1#64 <<< j)) = checkBits w ^^^ dataColumn j := by
  rw [checkBits, columnsXor_xor, columnsXor_single j hj]
  simp [checkBits, dataColumn]

/-! ## The weight of a syndrome -/

/-- Whether a syndrome has an odd number of bits set. -/
def oddWeight (x : Byte) : Bool := (List.range 8).foldr (fun k odd => x.getLsbD k ^^ odd) false

theorem oddWeight_xor (x y : Byte) : oddWeight (x ^^^ y) = (oddWeight x ^^ oddWeight y) := by
  unfold oddWeight
  induction List.range 8 with
  | nil => rfl
  | cons k ks ih =>
    rw [List.foldr_cons, ih, List.foldr_cons, List.foldr_cons, BitVec.getLsbD_xor]
    simp only [Bool.xor_assoc, Bool.xor_left_comm]

theorem dataColumn_odd : ∀ j < 64, oddWeight (dataColumn j) = true := by decide +kernel

theorem checkColumn_odd : ∀ i < 8, oddWeight (1#8 <<< i) = true := by decide +kernel

theorem outcomeOf_dataColumn : ∀ j < 64, outcomeOf (dataColumn j) = .dataBit j := by decide +kernel

theorem outcomeOf_checkColumn : ∀ i < 8, outcomeOf (1#8 <<< i) = .checkBit i := by decide +kernel

theorem outcomeOf_even : ∀ x : Byte, oddWeight x = false → x ≠ 0 → outcomeOf x = .uncorrectable := by decide +kernel

/-- Two different columns leave an uncorrectable syndrome. -/
theorem outcomeOf_twoColumns (x y : Byte) (hx : oddWeight x = true) (hy : oddWeight y = true)
    (hne : outcomeOf x ≠ outcomeOf y) : outcomeOf (x ^^^ y) = .uncorrectable := by
  refine outcomeOf_even _ (by rw [oddWeight_xor, hx, hy]; rfl) fun hzero => hne ?_
  rw [BitVec.xor_eq_zero_iff.1 hzero]

/-! ## The syndromes of a word with flipped bits -/

theorem syndrome_flipData (w : Word) (j : Nat) (hj : j < 64) :
    syndrome { made w with data := w ^^^ (1#64 <<< j) } = dataColumn j := by
  simp only [syndrome, made, checkBits_flip w j hj]
  rw [← BitVec.xor_assoc, BitVec.xor_self, BitVec.zero_xor]

theorem syndrome_flipCheck (w : Word) (x : Byte) : syndrome { made w with check := checkBits w ^^^ x } = x := by
  simp only [syndrome, made]
  rw [BitVec.xor_comm (checkBits w), BitVec.xor_assoc, BitVec.xor_self, BitVec.xor_zero]

theorem syndrome_flipTwoData (w : Word) (i j : Nat) (hi : i < 64) (hj : j < 64) :
    syndrome { made w with data := w ^^^ (1#64 <<< i) ^^^ (1#64 <<< j) } = dataColumn i ^^^ dataColumn j := by
  simp only [syndrome, made, checkBits_flip _ j hj, checkBits_flip w i hi]
  rw [BitVec.xor_assoc (checkBits w), ← BitVec.xor_assoc (checkBits w), BitVec.xor_self, BitVec.zero_xor]

theorem syndrome_flipDataCheck (w : Word) (i j : Nat) (hi : i < 64) :
    syndrome { data := w ^^^ (1#64 <<< i), check := checkBits w ^^^ (1#8 <<< j) } = (1#8 <<< j) ^^^ dataColumn i := by
  simp only [syndrome, checkBits_flip w i hi]
  rw [BitVec.xor_comm (checkBits w) (1#8 <<< j), BitVec.xor_assoc, ← BitVec.xor_assoc (checkBits w), BitVec.xor_self,
    BitVec.zero_xor]

theorem syndrome_made (w : Word) : syndrome (made w) = 0 := BitVec.xor_self

theorem decode_made (w : Word) : decode (made w) = .clean := by rw [decode, syndrome_made]; rfl

/-- Settles O17: one flipped bit leaves its own column, two leave an even syndrome; the counts run over all 256. -/
theorem checkCode : Obligations.CheckCode := by
  refine ⟨?made, rfl, ?dataBit, ?checkBit, ?twoData, ?dataCheck, ?twoCheck, by decide +kernel, ?formed⟩
  case made =>
    intro w
    refine ⟨decode_made w, ?_⟩
    rw [offered, decode_made]
    rfl
  case dataBit =>
    intro w j hj
    have hdecode : decode { made w with data := w ^^^ (1#64 <<< j) } = .dataBit j := by
      rw [decode, syndrome_flipData w j hj, outcomeOf_dataColumn j hj]
    refine ⟨hdecode, ?_⟩
    rw [offered, hdecode]
    simp only [BitVec.xor_assoc, BitVec.xor_self, BitVec.xor_zero]
  case checkBit =>
    intro w i hi
    have hdecode : decode { made w with check := checkBits w ^^^ (1#8 <<< i) } = .checkBit i := by
      rw [decode, syndrome_flipCheck, outcomeOf_checkColumn i hi]
    refine ⟨hdecode, ?_⟩
    rw [offered, hdecode]
    rfl
  case twoData =>
    intro w i j hij hj
    have hi : i < 64 := by omega
    rw [decode, syndrome_flipTwoData w i j hi hj]
    refine outcomeOf_twoColumns _ _ (dataColumn_odd i hi) (dataColumn_odd j hj) ?_
    rw [outcomeOf_dataColumn i hi, outcomeOf_dataColumn j hj]
    simp only [ne_eq, CheckOutcome.dataBit.injEq]
    omega
  case dataCheck =>
    intro w i j hi hj
    rw [decode, syndrome_flipDataCheck w i j hi]
    refine outcomeOf_twoColumns _ _ (checkColumn_odd j hj) (dataColumn_odd i hi) ?_
    rw [outcomeOf_dataColumn i hi, outcomeOf_checkColumn j hj]
    simp
  case twoCheck =>
    intro w i j hij hj
    have hi : i < 8 := by omega
    rw [BitVec.xor_assoc, decode, syndrome_flipCheck]
    refine outcomeOf_twoColumns _ _ (checkColumn_odd i hi) (checkColumn_odd j hj) ?_
    rw [outcomeOf_checkColumn i hi, outcomeOf_checkColumn j hj]
    simp only [ne_eq, CheckOutcome.checkBit.injEq]
    omega
  case formed =>
    intro w
    refine ⟨fun h p => ?_, fun i h => ?_, fun j h => ?_, fun h p => ?_⟩
    · simp [formed, h]
    · simp [formed, h]
    · simp [formed, offered, h]
    · simp [formed, h]

end Sys2Proof.Machine

/-! SUPPORT. What a detection does to the error log (R28 to R35): the state after it, case by case. -/

namespace Sys2Proof.Machine

/-! ## The log as a list with one entry singled out -/

theorem replaceFirst_append (p : LogEntry → Bool) (f : LogEntry → LogEntry) (older newer : List LogEntry)
    (e : LogEntry) (hfirst : ∀ x ∈ older, p x = false) (he : p e = true) :
    replaceFirst p f (older ++ e :: newer) = older ++ f e :: newer := by
  induction older with
  | nil => simp [replaceFirst, he]
  | cons x xs ih =>
    simp only [List.cons_append, replaceFirst, hfirst x (by simp), Bool.false_eq_true, if_false]
    rw [ih fun y hy => hfirst y (by simp [hy])]

theorem displaceCorrected_append (older newer : List LogEntry) (e : LogEntry) (he : e.severity = .corrected)
    (hfirst : ∀ x ∈ older, x.severity ≠ .corrected) :
    displaceCorrected (older ++ e :: newer) = some (older ++ newer) := by
  induction older with
  | nil => simp [displaceCorrected, he]
  | cons x xs ih =>
    simp only [List.cons_append, displaceCorrected, if_neg (hfirst x (by simp))]
    rw [ih fun y hy => hfirst y (by simp [hy])]
    rfl

theorem displaceCorrected_none (es : List LogEntry) (h : ∀ e ∈ es, e.severity ≠ .corrected) :
    displaceCorrected es = none := by
  induction es with
  | nil => rfl
  | cons x xs ih =>
    simp only [displaceCorrected, if_neg (h x (by simp))]
    rw [ih fun y hy => h y (by simp [hy])]
    rfl

/-! ## The state once the detection is counted -/

/-- The detection is counted and the log holds the entries given (R31, R35). -/
def counted (d : Detection) (s : State) (entries : List LogEntry) : State :=
  { s with
    log := { entries := entries, overflow := s.log.overflow
             corrected := if d.severity = .corrected then satInc s.log.corrected else s.log.corrected
             reported := if d.severity = .reported then satInc s.log.reported else s.log.reported
             uncorrectable := if d.severity = .uncorrectable then satInc s.log.uncorrectable else s.log.uncorrectable
             session := if d.severity = .uncorrectable ∧ s.ctl.regime = .running then satInc s.log.session
               else s.log.session }
    lamp := if d.severity = .uncorrectable ∧ s.ctl.regime = .running then
      (lampUpdate { s with lamp := { s.lamp with error := true } }).lamp else s.lamp }

/-- The entry a detection makes (R29). -/
def freshEntry (d : Detection) (s : State) : LogEntry :=
  { offset := d.offset, loc := d.loc, syndrome := d.syndrome, severity := d.severity, source := d.source,
    repeats := 1, rewritten := false, repairRequested := decide (d.severity = .uncorrectable),
    uptime := s.clock.uptime, temperature := s.roleReading .memory, regime := s.ctl.regime }

theorem lampUpdate_eq (s : State) : lampUpdate s = { s with lamp := (lampUpdate s).lamp } := by
  unfold lampUpdate
  dsimp only
  split
  · rfl
  · rfl

theorem lampUpdate_withLog (s : State) (l : ErrorLog) : (lampUpdate { s with log := l }).lamp = (lampUpdate s).lamp := by
  unfold lampUpdate
  dsimp only
  split
  · rfl
  · rfl

theorem countDetection_eq (d : Detection) (s : State) : countDetection d s = counted d s s.log.entries := by
  unfold countDetection counted
  cases hd : d.severity with
  | corrected => simp
  | reported => simp
  | uncorrectable =>
    by_cases hrun : s.ctl.regime = .running
    · simp only [hrun, if_true, and_self, reduceCtorEq, if_false]
      rw [lampUpdate_eq, ← lampUpdate_withLog { s with lamp := { s.lamp with error := true } }
        { s.log with uncorrectable := satInc s.log.uncorrectable, session := satInc s.log.session }]
    · simp [hrun]

section Counted

variable (d : Detection) (s : State) (es : List LogEntry)

/-- What the entry of a counted detection comes to: the repair request first, then the notice (R32, R33). -/
theorem enterDetection_corrected (h : d.severity = .corrected) :
    enterDetection d (counted d s es) = counted d s (es ++ [freshEntry d s]) := by
  simp only [enterDetection, h, freshEntry]
  rfl

theorem enterDetection_reported (h : d.severity = .reported) :
    enterDetection d (counted d s es) = queueNotice (.error d.offset d.loc d.syndrome d.severity d.source
      (decide (d.severity = .uncorrectable))) (counted d s (es ++ [freshEntry d s])) := by
  simp only [enterDetection, h, freshEntry]
  rfl

theorem enterDetection_uncorrectable (h : d.severity = .uncorrectable) :
    enterDetection d (counted d s es) = queueNotice (.error d.offset d.loc d.syndrome d.severity d.source
      (decide (d.severity = .uncorrectable)))
        (offerRepair (groupOf d.offset) (counted d s (es ++ [freshEntry d s]))) := by
  simp only [enterDetection, h, freshEntry]
  rfl

theorem enterDetection_entries : (enterDetection d (counted d s es)).log.entries = es ++ [freshEntry d s] := by
  cases h : d.severity with
  | corrected => rw [enterDetection_corrected d s es h]; rfl
  | reported => rw [enterDetection_reported d s es h]; simp [counted]
  | uncorrectable => rw [enterDetection_uncorrectable d s es h]; simp [counted]

end Counted

/-! ## The cases of a detection -/

section Cases

variable (d : Detection) (s : State)

theorem detect_new (hnew : s.log.entries.find? (·.sameError d) = none) (hroom : s.log.entries.length < 8) :
    detect d s = enterDetection d (counted d s s.log.entries) := by
  unfold detect
  rw [countDetection_eq]
  dsimp only
  rw [show (counted d s s.log.entries).log.entries = s.log.entries from rfl, hnew]
  dsimp only
  rw [if_pos hroom]

theorem detect_full (hnew : s.log.entries.find? (·.sameError d) = none) (hfull : 8 ≤ s.log.entries.length)
    (hrefused : d.severity = .corrected ∨ ∀ e ∈ s.log.entries, e.severity ≠ .corrected) :
    detect d s = { counted d s s.log.entries with
      log := { (counted d s s.log.entries).log with overflow := satInc s.log.overflow } } := by
  unfold detect
  rw [countDetection_eq]
  dsimp only
  rw [show (counted d s s.log.entries).log.entries = s.log.entries from rfl, hnew]
  dsimp only
  rw [if_neg (by omega)]
  obtain hd | hnone := hrefused
  · rw [if_pos hd]
    rfl
  · split
    · rfl
    · rw [displaceCorrected_none _ hnone]
      rfl

theorem detect_displaces (hnew : s.log.entries.find? (·.sameError d) = none) (hfull : 8 ≤ s.log.entries.length)
    (hd : d.severity ≠ .corrected) (older newer : List LogEntry) (e : LogEntry)
    (hentries : s.log.entries = older ++ e :: newer) (he : e.severity = .corrected)
    (hfirst : ∀ x ∈ older, x.severity ≠ .corrected) :
    detect d s = enterDetection d (counted d s (older ++ newer)) := by
  unfold detect
  rw [countDetection_eq]
  dsimp only
  rw [show (counted d s s.log.entries).log.entries = s.log.entries from rfl, hnew]
  dsimp only
  rw [if_neg (by omega), if_neg hd, hentries, displaceCorrected_append older newer e he hfirst]
  rfl

variable (e : LogEntry) (hfound : s.log.entries.find? (·.sameError d) = some e)

include hfound

theorem detect_found : detect d s = coalesce d e (counted d s s.log.entries) := by
  unfold detect
  rw [countDetection_eq]
  dsimp only
  rw [show (counted d s s.log.entries).log.entries = s.log.entries from rfl, hfound]

theorem detect_unset (hset : e.rewritten = false) : detect d s = counted d s s.log.entries := by
  rw [detect_found d s e hfound]
  simp [coalesce, hset]

end Cases

/-- A count reaches the threshold in an entry that has sent no repair request (R32). -/
def reaches (s : State) (e : LogEntry) : Prop :=
  satInc e.repeats ≠ e.repeats ∧ (satInc e.repeats).toNat = s.settings.repairThreshold ∧ e.repairRequested = false

/-- A detection coalesced into the first entry with its offset, location and syndrome, once rewritten (R28, R32). -/
theorem detect_coalesces (d : Detection) (s : State) (older newer : List LogEntry) (e : LogEntry)
    (hentries : s.log.entries = older ++ e :: newer) (he : e.sameError d = true)
    (hfirst : ∀ x ∈ older, x.sameError d = false) (hset : e.rewritten = true) :
    (reaches s e → detect d s = offerRepair (groupOf d.offset) (counted d s
      (older ++ { e with repeats := satInc e.repeats, rewritten := false, repairRequested := true } :: newer))) ∧
    (¬ reaches s e → detect d s = counted d s
      (older ++ { e with repeats := satInc e.repeats, rewritten := false } :: newer)) := by
  have hfound : s.log.entries.find? (·.sameError d) = some e :=
    List.find?_eq_some_iff_append.2 ⟨he, older, newer, hentries, fun x hx => by simp [hfirst x hx]⟩
  have hreplace (f : LogEntry → LogEntry) : replaceFirst (·.sameError d) f (counted d s s.log.entries).log.entries =
      older ++ f e :: newer := by
    show replaceFirst _ _ s.log.entries = _
    rw [hentries, replaceFirst_append _ _ _ _ _ hfirst he]
  have hsends : (decide (satInc e.repeats ≠ e.repeats) &&
      decide ((satInc e.repeats).toNat = (counted d s s.log.entries).settings.repairThreshold) &&
        !e.repairRequested) = true ↔ reaches s e := by
    simp [reaches, counted, State.settings, and_assoc]
  rw [detect_found d s e hfound]
  unfold coalesce
  rw [if_neg (by simp [hset])]
  dsimp only
  rw [hreplace]
  generalize (decide (satInc e.repeats ≠ e.repeats) && _ && !e.repairRequested) = sends at hsends ⊢
  constructor
  · intro hreached
    rw [hsends.2 hreached, if_pos rfl, Bool.or_true]
    rfl
  · intro hnot
    rw [Bool.eq_false_iff.2 fun h => hnot (hsends.1 h), if_neg Bool.false_ne_true, Bool.or_false]
    rfl

/-! ## The totals, and a repair request -/

/-- A detection is counted whatever becomes of it (R31, R35). -/
theorem detect_totals (d : Detection) (s : State) :
    (detect d s).log.corrected = (counted d s s.log.entries).log.corrected ∧
    (detect d s).log.reported = (counted d s s.log.entries).log.reported ∧
    (detect d s).log.uncorrectable = (counted d s s.log.entries).log.uncorrectable ∧
    (detect d s).log.session = (counted d s s.log.entries).log.session ∧
    (detect d s).lamp = (counted d s s.log.entries).lamp := by
  unfold detect
  rw [countDetection_eq]
  dsimp only
  split
  · simp
  · split
    · simp
    · split
      · simp
      · split
        · simp
        · simp

theorem lampUpdate_error (s : State) : (lampUpdate s).lamp.error = s.lamp.error := by
  unfold lampUpdate
  dsimp only
  split
  · rfl
  · rfl

theorem offerRepair_off (g : Nat) (s : State) (h : s.ctl.power = false) :
    offerRepair g s = { s with repair := { s.repair with dropped := satInc s.repair.dropped } } := by
  simp [offerRepair, h]

theorem isPending_iff (r : Repair) (g : Nat) :
    r.isPending g = true ↔ g ∈ r.requests ∨ ∃ m, r.migration = some m ∧ m.group = g := by
  unfold Repair.isPending
  cases r.migration <;> simp

/-- Settles O18: the cases of a detection, each with the state after it. -/
theorem detectionLogged : Obligations.DetectionLogged := by
  refine ⟨?fields, ?states, ?repair⟩
  case fields =>
    intro d s t fresh same
    obtain ⟨hcorrected, hreported, huncorrectable, hsession, hlamp⟩ := detect_totals d s
    have hsame : same = s.log.entries.find? (·.sameError d) := by
      simp only [same, LogEntry.sameError, Bool.decide_and, Bool.and_assoc]
    refine ⟨hcorrected, hreported, huncorrectable, hsession, fun hseen => ?_, fun e he hset => ?_, fun e he hset => ?_,
      fun hnew hroom => ?_, fun hnew hfull => ⟨fun hrefused => ?_, fun hd older newer e hentries he hfirst => ?_⟩⟩
    · rw [show t.lamp = _ from hlamp]
      simp only [counted, if_pos hseen, lampUpdate_error]
    · have ht : t = counted d s s.log.entries := detect_unset d s e (hsame ▸ he) hset
      rw [ht]
      exact ⟨rfl, rfl, rfl, rfl⟩
    · rw [hsame] at he
      obtain ⟨herror, older, newer, hentries, hfirst⟩ := List.find?_eq_some_iff_append.1 he
      obtain ⟨hreaches, hnot⟩ := detect_coalesces d s older newer e hentries herror
        (fun x hx => by simpa using hfirst x hx) hset
      by_cases hr : reaches s e
      · rw [show t = _ from hreaches hr]
        refine ⟨by simp [counted], by simp [counted, hentries],
          { e with repeats := satInc e.repeats, rewritten := false, repairRequested := true }, ?_, rfl, rfl, rfl, rfl,
          rfl, rfl, rfl, rfl⟩
        simp [counted]
      · rw [show t = _ from hnot hr]
        refine ⟨rfl, by simp [counted, hentries], { e with repeats := satInc e.repeats, rewritten := false }, ?_, rfl,
          rfl, rfl, rfl, rfl, rfl, rfl, rfl⟩
        simp [counted]
    · have ht : t = _ := detect_new d s (hsame ▸ hnew) hroom
      rw [ht]
      exact ⟨enterDetection_entries d s _, by simp [counted]⟩
    · have ht : t = _ := detect_full d s (hsame ▸ hnew) hfull hrefused
      rw [ht]
      exact ⟨rfl, rfl, rfl, rfl⟩
    · have ht : t = _ := detect_displaces d s (hsame ▸ hnew) hfull hd older newer e hentries he hfirst
      rw [ht]
      exact ⟨enterDetection_entries d s _, by simp [counted]⟩
  case states =>
    intro d s t fresh same seen logged notice entered
    have hsame (e : LogEntry) : e.sameError d = true ↔ same e := by simp [same, LogEntry.sameError, and_assoc]
    have hentered (es : List LogEntry) (ht : t = enterDetection d (counted d s es)) : entered es := by
      refine ⟨fun h => ?_, fun h => ?_, fun h => ?_⟩
      · exact ht.trans (enterDetection_corrected d s es h)
      · exact ht.trans (enterDetection_reported d s es h)
      · exact ht.trans (enterDetection_uncorrectable d s es h)
    constructor
    · intro hnew
      have hnone : s.log.entries.find? (·.sameError d) = none :=
        List.find?_eq_none.2 fun e he h => hnew e he ((hsame e).1 h)
      refine ⟨fun hroom => hentered _ (detect_new d s hnone hroom), fun hfull hd older newer e hentries he hfirst => ?_⟩
      exact hentered _ (detect_displaces d s hnone hfull hd older newer e hentries he hfirst)
    · intro older newer e hentries he hfirst hset
      exact detect_coalesces d s older newer e hentries ((hsame e).2 he)
        (fun x hx => Bool.eq_false_iff.2 fun h => hfirst x hx ((hsame x).1 h)) hset
  case repair =>
    intro g s pending dropped
    refine ⟨offerRepair_off g s, fun hpower hpending => ?_, fun hpower hnot hfull => ?_, fun hpower hnot hroom => ?_⟩
    · simp [offerRepair, hpower, (isPending_iff s.repair g).2 hpending]
    · have hpending := mt (isPending_iff s.repair g).1 hnot
      simp [offerRepair, hpower, hpending, hfull, dropped]
    · have hpending := mt (isPending_iff s.repair g).1 hnot
      simp [offerRepair, hpower, hpending, show ¬ 4 ≤ s.repair.requests.length by omega]

end Sys2Proof.Machine

/-! SUPPORT. Reports at the restart supervisor (R119 to R125, R136 to R139, R151): which entries a report matches, what
the matches do, and the watchdog's signals. -/

namespace Sys2Proof.Machine

open Host (Outcome)

/-! ## Reports taken (R16, R119, R151) -/

theorem exec_watchWriteReport (s : State) :
    exec .watchWriteReport s = .next (takeReport ReportKind.writeReport takeWrite s) := rfl

theorem exec_watchReadReport (s : State) : exec .watchReadReport s = .next (takeReport ReportKind.isRead actOn s) := rfl

/-- Outside RUNNING the oldest report, of the kind the event names, is discarded (R119). -/
theorem takeReport_of_notRunning (kind : ReportKind → Bool) (act : FrontReport → State → State) (s : State)
    (r : FrontReport) (rest : List FrontReport) (hrun : s.ctl.regime ≠ .running) (hqueue : s.watchReports = r :: rest)
    (hkind : kind r.kind = true) : takeReport kind act s = { s with watchReports := rest } := by
  simp [takeReport, hqueue, hkind, hrun]

/-- Settles O19: each kind of report, in RUNNING and outside it. -/
theorem reportsTaken : Obligations.ReportsTaken := by
  intro s r rest hqueue s0 traced
  refine ⟨fun hrun => ⟨fun hkind => ?_, fun hkind => ?_, fun hkind => ?_, fun why hkind => ?_⟩,
    fun hrun => ⟨fun hkind => ?_, fun hkind => ?_, fun why hkind => ?_⟩⟩
  · rw [exec_watchWriteReport, takeReport_of_running _ _ s r rest hrun hqueue (by rw [hkind]; rfl)]
    simp only [takeWrite, traceReport, hkind]
    rfl
  · rw [exec_watchWriteReport, takeReport_of_running _ _ s r rest hrun hqueue (by rw [hkind]; rfl)]
    simp only [takeWrite, traceReport, hkind]
    rfl
  · rw [exec_watchReadReport, takeReport_of_running _ _ s r rest hrun hqueue (by rw [hkind]; rfl)]
  · rw [exec_refusedWriteReport, takeReport_of_running _ _ s r rest hrun hqueue (by rw [hkind]; rfl),
      traceReport_refused r why _ hkind]
  · rw [exec_watchWriteReport, takeReport_of_notRunning _ _ s r rest hrun hqueue]
    obtain h | h := hkind <;> rw [h] <;> rfl
  · rw [exec_watchReadReport, takeReport_of_notRunning _ _ s r rest hrun hqueue (by rw [hkind]; rfl)]
  · rw [exec_refusedWriteReport, takeReport_of_notRunning _ _ s r rest hrun hqueue (by rw [hkind]; rfl)]

/-! ## Matches (R120, R121) -/

theorem concerns_iff (r : FrontReport) (b : Nat) : r.concerns b = true ↔
    (if r.line then r.offset ≤ b ∧ b < r.offset + 64
      else r.offset ≤ b ∧ b < r.offset + 8 ∧ r.mask.getLsbD (b - r.offset) = true) := by
  unfold FrontReport.concerns
  split
  · simp
  · simp [and_assoc]

theorem admits_iff (a : WatchAccess) (k : ReportKind) :
    a.admits k = true ↔ (k = .write ∧ a ≠ .read) ∨ (k = .read ∧ a ≠ .write) := by
  cases a <;> cases k <;> simp [WatchAccess.admits, ReportKind.isWrite, ReportKind.isRead]

theorem isWrite_iff (k : ReportKind) : k.isWrite = true ↔ k = .write := by
  cases k <;> simp [ReportKind.isWrite]

/-- Two bytes agree under a mask exactly if they agree in every bit of it. -/
theorem masked_eq_iff (x y mask : Byte) :
    x &&& mask = y &&& mask ↔ ∀ j < 8, mask.getLsbD j = true → x.getLsbD j = y.getLsbD j := by
  constructor
  · intro h j _ hmask
    have hbit := congrArg (fun b => BitVec.getLsbD b j) h
    simpa [hmask] using hbit
  · intro h
    refine BitVec.eq_of_getLsbD_eq fun j hj => ?_
    rw [BitVec.getLsbD_and, BitVec.getLsbD_and]
    cases hmask : mask.getLsbD j with
    | false => simp
    | true => simp [h j hj hmask]

/-- Settles O20: a match by overlap, and a match by data. -/
theorem reportMatches : Obligations.ReportMatches := by
  refine ⟨concerns_iff, fun e r hnone => ?overlap, fun e r d hsome haccess => ?data⟩
  case overlap =>
    have hrange : e.range.any r.concerns = true ↔
        ∃ b, e.base ≤ b ∧ b < e.base + e.length ∧ r.concerns b = true := by
      simp only [WatchEntry.range, List.any_map, List.any_eq_true, List.mem_range, Function.comp_apply]
      constructor
      · rintro ⟨k, hk, hb⟩
        exact ⟨e.base + k, by omega, by omega, hb⟩
      · rintro ⟨b, hlow, hhigh, hb⟩
        exact ⟨b - e.base, by omega, by rwa [Nat.add_sub_of_le hlow]⟩
    simp only [WatchEntry.matched, hnone, Bool.and_eq_true, admits_iff, hrange]
  case data =>
    simp only [WatchEntry.matched, hsome, haccess, WatchAccess.admits, Bool.and_eq_true, isWrite_iff,
      List.all_eq_true, WatchEntry.range, List.mem_map, List.mem_range, decide_eq_true_eq, masked_eq_iff,
      forall_exists_index, and_imp, forall_apply_eq_imp_iff₂]
    constructor
    · rintro ⟨hwrite, ⟨-, hcover⟩, hagree⟩
      exact ⟨hwrite, fun k hk => ⟨hcover k hk, hagree k hk⟩⟩
    · rintro ⟨hwrite, hall⟩
      exact ⟨hwrite, ⟨hwrite, fun k hk => (hall k hk).1⟩, fun k hk => (hall k hk).2⟩

/-! ## The watchdog's signals (R136 to R139) -/

theorem kickEarly_iff (s : State) : s.kickEarly = true ↔ s.dog.minInterval ≠ 0 ∧
    s.clock.session.toNat - s.dog.reference.toNat < s.dog.minInterval.toNat := by
  simp [State.kickEarly]

/-- Settles O22: a signal by the watchdog's state. -/
theorem watchSignals : Obligations.WatchSignals := by
  intro kick boot s armed early
  refine ⟨fun hout => by simp [dogSignal, hout], fun hstate => ?_, fun hout => ?_⟩
  · obtain h | h := hstate <;> simp [dogSignal, h]
  · refine ⟨?_, ?_, ?_, ?_, ?_, ?_, ?_⟩
    · intro hstate hboot
      simp [dogSignal, hout, hstate, hboot, dogArm, armed]
    · intro hstate hboot
      simp [dogSignal, hout, hstate, hboot]
    · intro hstate hkick hearly
      simp [dogSignal, hout, hstate, hkick, (kickEarly_iff s).2 hearly, dogRequest, sendRequest]
    · intro hstate hkick hlate
      simp [dogSignal, hout, hstate, hkick, mt (kickEarly_iff s).1 hlate, dogArm, armed]
    · intro hstate hkick
      simp [dogSignal, hout, hstate, hkick]
    · intro hstate hkick
      simp [dogSignal, hout, hstate, hkick, dogArm, armed]
    · intro hstate hkick
      simp [dogSignal, hout, hstate, hkick]

/-- A signal acts on the watchdog alone, and may send early-kick requests. -/
theorem dogSignal_acts (kick boot : Bool) (s : State) :
    ∃ sent : List RestartRequest, (∀ q ∈ sent, q.cause = .earlyKick) ∧ ∀ w x qs,
      dogSignal kick boot { s with watch := w, restarts := x, requests := qs } =
        { s with watch := w, restarts := x, requests := qs ++ sent, dog := (dogSignal kick boot s).dog } := by
  by_cases hearly : s.dog.requestOut = false ∧ s.dog.state = .armed ∧ kick = true ∧ s.kickEarly = true
  · obtain ⟨hout, hstate, hkick, he⟩ := hearly
    refine ⟨[{ cause := .earlyKick, cold := false, chord := none }], by simp, fun w x qs => ?_⟩
    have he' : State.kickEarly { s with watch := w, restarts := x, requests := qs } = true := he
    simp [dogSignal, hout, hstate, hkick, he, he', dogRequest, sendRequest]
  · refine ⟨[], by simp, fun w x qs => ?_⟩
    unfold dogSignal
    dsimp only
    cases hout : s.dog.requestOut with
    | true => simp
    | false =>
      cases hstate : s.dog.state with
      | suspended => simp
      | disarmed => simp
      | booting => cases boot <;> simp [dogArm]
      | warned => cases kick <;> simp [dogArm]
      | armed =>
        cases hk : kick with
        | false => simp
        | true =>
          have he : s.kickEarly = false := by
            rw [← Bool.not_eq_true]
            exact fun h => hearly ⟨hout, hstate, hk, h⟩
          have he' : State.kickEarly { s with watch := w, restarts := x, requests := qs } = false := he
          simp [he, he', dogArm]

/-! ## What the matches of a report do (R122 to R125) -/

/-- The entries a report matches are those of the table that it matches, each with its number. -/
theorem mem_matchesFrom (r : FrontReport) (es : List (Option WatchEntry)) (i k : Nat) (e : WatchEntry) :
    (k, e) ∈ matchesFrom r es i ↔ i ≤ k ∧ es[k - i]? = some (some e) ∧ e.matched r = true := by
  induction es generalizing i with
  | nil => simp [matchesFrom]
  | cons x xs ih =>
    have hrest : ((k, e) ∈ matchesFrom r xs (i + 1)) ↔ i < k ∧ (x :: xs)[k - i]? = some (some e) ∧ e.matched r = true := by
      rw [ih]
      constructor
      · rintro ⟨hk, hentry, hmatched⟩
        refine ⟨hk, ?_, hmatched⟩
        rwa [show k - i = k - (i + 1) + 1 by omega, List.getElem?_cons_succ]
      · rintro ⟨hk, hentry, hmatched⟩
        refine ⟨hk, ?_, hmatched⟩
        rwa [show k - i = k - (i + 1) + 1 by omega, List.getElem?_cons_succ] at hentry
    have hhead : (i = k ∧ x = some e ∧ e.matched r = true) ∨ ((k, e) ∈ matchesFrom r xs (i + 1)) ↔
        i ≤ k ∧ (x :: xs)[k - i]? = some (some e) ∧ e.matched r = true := by
      rw [hrest, Nat.le_iff_lt_or_eq]
      constructor
      · rintro (⟨rfl, rfl, hmatched⟩ | ⟨hk, hentry, hmatched⟩)
        · exact ⟨.inr rfl, by simp, hmatched⟩
        · exact ⟨.inl hk, hentry, hmatched⟩
      · rintro ⟨hk | rfl, hentry, hmatched⟩
        · exact .inr ⟨hk, hentry, hmatched⟩
        · exact .inl ⟨rfl, by simpa using hentry, hmatched⟩
    rw [← hhead]
    cases x with
    | none => simp [matchesFrom]
    | some v =>
      simp only [matchesFrom, Option.some.injEq]
      split
      · simp only [List.mem_cons, Prod.mk.injEq]
        constructor
        · rintro (⟨rfl, rfl⟩ | h)
          · exact .inl ⟨rfl, rfl, by assumption⟩
          · exact .inr h
        · rintro (⟨rfl, rfl, -⟩ | h)
          · exact .inl ⟨rfl, rfl⟩
          · exact .inr h
      · constructor
        · exact .inr
        · rintro (⟨-, rfl, hmatched⟩ | h)
          · contradiction
          · exact h

theorem setHits_getLsbD (ks : List Nat) (h : Byte) (k : Nat) (hk : k < 8) :
    (setHits ks h).getLsbD k = true ↔ h.getLsbD k = true ∨ k ∈ ks := by
  unfold setHits
  induction ks generalizing h with
  | nil => simp
  | cons j js ih =>
    rw [List.foldl_cons, ih, BitVec.getLsbD_or, Bool.or_eq_true, List.mem_cons, or_assoc]
    have hbit : (1#8 <<< j).getLsbD k = true ↔ k = j := by
      simp only [BitVec.getLsbD_shiftLeft, BitVec.getLsbD_one, Bool.and_eq_true, Bool.not_eq_true', decide_eq_true_eq,
        decide_eq_false_iff_not]
      omega
    rw [hbit]

theorem mem_stagesOf (ms : List (Nat × WatchEntry)) (n : Nat) :
    n ∈ stagesOf ms ↔ ∃ k e, (k, e) ∈ ms ∧ e.enabled = true ∧ e.role = .stage n := by
  have hnumber (r : WatchRole) : r.stageNumber = some n ↔ r = .stage n := by
    cases r <;> simp [WatchRole.stageNumber]
  simp only [stagesOf, List.mem_filterMap, Prod.exists]
  refine exists_congr fun k => exists_congr fun e => and_congr_right fun _ => ?_
  split
  · next h => simp [h, hnumber]
  · next h => simp [h]

theorem mem_tripsOf (ms : List (Nat × WatchEntry)) (k : Nat) :
    k ∈ tripsOf ms ↔ ∃ e, (k, e) ∈ ms ∧ e.enabled = true ∧ e.role = .trip ∧ e.suppressed = false := by
  have hentry (e : WatchEntry) : (e.enabled && decide (e.role = .trip) && !e.suppressed) = true ↔
      e.enabled = true ∧ e.role = .trip ∧ e.suppressed = false := by
    simp [and_assoc]
  simp only [tripsOf, List.mem_map, List.mem_filter, hentry]
  constructor
  · rintro ⟨⟨k', e⟩, ⟨hmem, h⟩, rfl⟩
    exact ⟨e, hmem, h⟩
  · rintro ⟨e, hmem, h⟩
    exact ⟨(k, e), ⟨hmem, h⟩, rfl⟩

/-- The highest of a list is the member that no other exceeds. -/
theorem highest_of_max (ns : List Nat) (n : Nat) (hn : n ∈ ns) (hmax : ∀ m ∈ ns, m ≤ n) : highest ns = some n := by
  have hspec (l : List Nat) : ∀ m ∈ l, m ≤ (highest l).getD 0 := by
    induction l with
    | nil => simp
    | cons x xs ih =>
      intro m hm
      simp only [highest, Option.getD_some]
      obtain rfl | hm := List.mem_cons.1 hm
      · exact Nat.le_max_left ..
      · exact Nat.le_trans (ih m hm) (Nat.le_max_right ..)
  have hmem (l : List Nat) (h : l ≠ []) : ∃ m ∈ l, highest l = some m := by
    induction l with
    | nil => contradiction
    | cons x xs ih =>
      cases xs with
      | nil => exact ⟨x, by simp, by simp [highest]⟩
      | cons y ys =>
        obtain ⟨m, hm, heq⟩ := ih (by simp)
        rw [highest, heq, Option.getD_some]
        rcases Nat.le_total x m with hle | hle
        · exact ⟨m, by simp [hm], by rw [Nat.max_eq_right hle]⟩
        · exact ⟨x, by simp, by rw [Nat.max_eq_left hle]⟩
  obtain ⟨m, hm, heq⟩ := hmem ns (List.ne_nil_of_mem hn)
  have hle : n ≤ m := by simpa [heq] using hspec ns n hn
  rw [heq, Nat.le_antisymm (hmax m hm) hle]

/-- The state at which the watch signal of a report arrives: the matches have acted on the watch table. -/
def matchesDone (r : FrontReport) (s : State) : State :=
  let ms := matchesFrom r s.watch.entries 0
  let w : Watch := { s.watch with
    hits := setHits (ms.map (·.1)) s.watch.hits
    lastStage := if stagesOf ms = [] then s.watch.lastStage else highest (stagesOf ms)
    senders := s.watch.senders ++ (tripsOf ms).filter fun k => !s.watch.senders.contains k }
  let boot := (stagesOf ms).contains s.settings.bootStage
  { s with
    requests := s.requests ++ (if tripsOf ms = [] then [] else [{ cause := .tripWatch, cold := false, chord := none }])
    watch := if boot then
      { w with entries := s.watch.entries.map fun e => e.map fun e => { e with suppressed := false } } else w
    restarts := if boot then { s.restarts with coldCount := 0 } else s.restarts }

/-- Whether a report kicks the watchdog (R123). -/
def kicksOf (r : FrontReport) (s : State) : Bool :=
  (matchesFrom r s.watch.entries 0).any fun m => m.2.enabled && decide (m.2.role = .kick)

theorem actOn_eq (r : FrontReport) (s : State) : actOn r s = dogSignal (kicksOf r s)
    ((stagesOf (matchesFrom r s.watch.entries 0)).contains s.settings.bootStage) (matchesDone r s) := by
  unfold actOn matchesDone kicksOf
  dsimp only
  congr 1
  split
  · split <;> simp [bootStageHit, sendRequest]
  · split <;> simp [sendRequest]

/-- Settles O21: the matches act on the watch table, and the watchdog takes one signal. -/
theorem reportActs : Obligations.ReportActs := by
  intro r s _ t hit stage trip
  have hmem (k : Nat) (e : WatchEntry) : (k, e) ∈ matchesFrom r s.watch.entries 0 ↔ hit k e := by
    simp [mem_matchesFrom, hit]
  have hstage (n : Nat) : n ∈ stagesOf (matchesFrom r s.watch.entries 0) ↔ stage n := by
    simp only [mem_stagesOf, hmem, stage]
  have htrip (k : Nat) : k ∈ tripsOf (matchesFrom r s.watch.entries 0) ↔ trip k := by
    simp only [mem_tripsOf, hmem, trip]
  have hkick : kicksOf r s = true ↔ ∃ k e, hit k e ∧ e.enabled = true ∧ e.role = .kick := by
    simp [kicksOf, hmem]
  have hboot : (stagesOf (matchesFrom r s.watch.entries 0)).contains s.settings.bootStage = true ↔
      stage s.settings.bootStage := by
    rw [List.contains_iff_mem, hstage]
  have hnoTrips : (∀ k, ¬ trip k) → tripsOf (matchesFrom r s.watch.entries 0) = [] := fun h =>
    List.eq_nil_iff_forall_not_mem.2 fun k hk => h k ((htrip k).1 hk)
  have hsomeTrip : (∃ k, trip k) → tripsOf (matchesFrom r s.watch.entries 0) ≠ [] := fun ⟨k, hk⟩ =>
    List.ne_nil_of_mem ((htrip k).2 hk)
  obtain ⟨sent, hearly, hacts⟩ := dogSignal_acts (kicksOf r s)
    ((stagesOf (matchesFrom r s.watch.entries 0)).contains s.settings.bootStage) s
  have ht : t = _ := (actOn_eq r s).trans (hacts (matchesDone r s).watch (matchesDone r s).restarts (matchesDone r s).requests)
  refine ⟨fun k hk => ?hits, fun hnone => ?noStage, fun n hn hmax => ?lastStage, fun k => ?senders, fun hnone => ?noSenders,
    ?lock, ?violations, fun hsome => ?request, fun hnone => ?noRequest, fun hbs => ?bootStage, fun hbs => ?noBootStage,
    fun kick boot hkick' hboot' => ?signal, ?rest⟩
  case hits =>
    have hhits : t.watch.hits = setHits ((matchesFrom r s.watch.entries 0).map (·.1)) s.watch.hits := by
      rw [ht]
      simp only [matchesDone]
      split <;> rfl
    rw [hhits, setHits_getLsbD _ _ _ hk]
    refine or_congr_right ?_
    simp [hmem]
  case noStage =>
    have hstages : stagesOf (matchesFrom r s.watch.entries 0) = [] :=
      List.eq_nil_iff_forall_not_mem.2 fun n hn => hnone n ((hstage n).1 hn)
    rw [ht]
    simp [matchesDone, hstages]
  case lastStage =>
    have hstages : stagesOf (matchesFrom r s.watch.entries 0) ≠ [] := List.ne_nil_of_mem ((hstage n).2 hn)
    have hhighest := highest_of_max _ n ((hstage n).2 hn) fun m hm => hmax m ((hstage m).1 hm)
    rw [ht]
    simp only [matchesDone, hstages, if_false, hhighest]
    split <;> rfl
  case senders =>
    have hsenders : t.watch.senders = s.watch.senders ++
        (tripsOf (matchesFrom r s.watch.entries 0)).filter fun k => !s.watch.senders.contains k := by
      rw [ht]
      simp only [matchesDone]
      split <;> rfl
    rw [hsenders, List.mem_append, List.mem_filter, htrip]
    by_cases hin : k ∈ s.watch.senders
    · simp [hin]
    · simp [hin]
  case noSenders =>
    rw [ht]
    simp only [matchesDone, hnoTrips hnone, List.filter_nil, List.append_nil]
    split <;> rfl
  case lock =>
    rw [ht]
    simp only [matchesDone]
    split <;> rfl
  case violations =>
    rw [ht]
    simp only [matchesDone]
    split <;> rfl
  case request =>
    rw [ht]
    exact ⟨sent, by simp [matchesDone, hsomeTrip hsome]⟩
  case noRequest =>
    rw [ht]
    simp only [matchesDone, hnoTrips hnone, if_true, List.append_nil, List.mem_append]
    rintro q (hq | hq)
    · exact .inl hq
    · exact .inr (hearly q hq)
  case bootStage =>
    rw [ht]
    simp [matchesDone, (hstage _).2 hbs]
  case noBootStage =>
    rw [ht]
    simp [matchesDone, mt (hstage _).1 hbs]
  case signal =>
    have hk : kick = kicksOf r s := Bool.eq_iff_iff.2 (hkick'.trans hkick.symm)
    have hb : boot = (stagesOf (matchesFrom r s.watch.entries 0)).contains s.settings.bootStage :=
      Bool.eq_iff_iff.2 (hboot'.trans hboot.symm)
    subst hk hb
    intro signalled
    refine ⟨by rw [ht], fun sent' hsent => ?_⟩
    have hsent' : signalled.requests = s.requests ++ sent := congrArg State.requests (hacts s.watch s.restarts s.requests)
    obtain rfl : sent = sent' := List.append_cancel_left (hsent'.symm.trans hsent)
    rw [ht]
    exact ⟨fun hsome => by simp [matchesDone, hsomeTrip hsome], fun hnone => by simp [matchesDone, hnoTrips hnone]⟩
  case rest => rw [ht]

end Sys2Proof.Machine

/-! SUPPORT. The snooping of write reports by the mailbox unit (R178, R186). -/

namespace Sys2Proof.Machine

open Host (Outcome)

/-! ## The header words a report touches -/

/-- A report gives the header word at a place of an existing ring the value `v` (R178). -/
def touches (s : State) (r : FrontReport) (role : RingRole) (place v : Nat) : Prop :=
  ∃ w, s.ring role = some w ∧ (∃ k < 8, r.concerns (w.base + place + k) = true) ∧
    v = (r.words.getD ((w.base + place - r.offset) / 8) 0).toNat

theorem wordAt_eq_some_iff (r : FrontReport) (o v : Nat) : r.wordAt o = some v ↔
    (∃ k < 8, r.concerns (o + k) = true) ∧ v = (r.words.getD ((o - r.offset) / 8) 0).toNat := by
  unfold FrontReport.wordAt
  by_cases h : ∃ k < 8, r.concerns (o + k) = true
  · rw [if_pos (by simpa using h), Option.some.injEq]
    exact ⟨fun hv => ⟨h, hv.symm⟩, fun hv => hv.2.symm⟩
  · rw [if_neg (by simpa using h)]
    exact ⟨fun hv => (Option.some_ne_none v hv.symm).elim, fun hv => (h hv.1).elim⟩

theorem snoopWord_touched {s : State} {r : FrontReport} {role : RingRole} {place v : Nat}
    (act : Nat → State → State) (h : touches s r role place v) : snoopWord role place act r s = act v s := by
  obtain ⟨w, hring, hword⟩ := h
  simp [snoopWord, hring, (wordAt_eq_some_iff r (w.base + place) v).2 hword]

theorem snoopWord_untouched {s : State} {r : FrontReport} {role : RingRole} {place : Nat}
    (act : Nat → State → State) (h : ∀ v, ¬ touches s r role place v) : snoopWord role place act r s = s := by
  unfold snoopWord
  split
  · next w hring =>
    split
    · next v hword => exact (h v ⟨w, hring, (wordAt_eq_some_iff _ _ _).1 hword⟩).elim
    · rfl
  · rfl

theorem touches_congr {s t : State} (h : t.windows = s.windows) (r : FrontReport) (role : RingRole) (place v : Nat) :
    touches t r role place v ↔ touches s r role place v := by
  simp only [touches, State.ring, h]

/-! ## What the writes do -/

theorem inHand_iff (e : EngineState) : e.inHand = true ↔ e ≠ .idle ∧ e ≠ .faulted := by
  cases e <;> simp [EngineState.inHand]

section Submit

variable (v : Nat) (s : State)

theorem submitWrite_faulted (h : s.engine.state = .faulted) : submitWrite v s =
    if v = s.engine.done then { s with engine := { s.engine with submit := v, state := .idle } } else s := by
  simp [submitWrite, h]

theorem submitWrite_ignored (h : s.engine.state ≠ .faulted)
    (hsame : s.engine.faultPending = true ∨ v = s.engine.submit) : submitWrite v s = s := by
  unfold submitWrite
  dsimp only
  rw [if_neg h, if_pos (by simpa using hsame)]

variable (hpending : s.engine.faultPending = false) (hnew : v ≠ s.engine.submit)

include hpending hnew

theorem submitWrite_idle (h : s.engine.state = .idle) : submitWrite v s =
    if v < 2 * s.settings.cmdRingSlots ∧ indexDistance s.settings.cmdRingSlots s.engine.done v ≤ s.settings.cmdRingSlots
    then beginFetch (setSubmit v s) else { s with engine := { s.engine with state := .faulted } } := by
  simp [submitWrite, h, hpending, hnew, EngineState.inHand]

theorem submitWrite_inHand (h : s.engine.state ≠ .idle ∧ s.engine.state ≠ .faulted) : submitWrite v s =
    if v < 2 * s.settings.cmdRingSlots ∧ 1 ≤ indexDistance s.settings.cmdRingSlots s.engine.done v ∧
      indexDistance s.settings.cmdRingSlots s.engine.done v ≤ s.settings.cmdRingSlots
    then setSubmit v s else { s with engine := { s.engine with faultPending := true } } := by
  unfold submitWrite
  dsimp only
  rw [if_neg h.2, if_neg (by simp [hpending, hnew]), if_pos ((inHand_iff _).2 h)]
  refine ite_cond_congr (propext ?_)
  simp only [Bool.and_eq_true, decide_eq_true_eq]
  omega

end Submit

/-- Settles O23: which header words a report touches, and what their values do. -/
theorem ringSnoops : Obligations.RingSnoops := by
  refine ⟨fun s r rest hqueue => ?taken, fun s r => ?words, fun v s => ?submit, fun v s => ?events⟩
  case taken =>
    refine ⟨fun hrun => ?_, fun hrun => ?_⟩
    · show execRingSnoopReport s = _
      simp [execRingSnoopReport, hqueue, hrun]
    · show execRingSnoopReport s = _
      simp [execRingSnoopReport, hqueue, hrun]
  case words =>
    change ((∀ v, ¬ touches s r .commandRing 0 v) → (∀ v, ¬ touches s r .eventRing 16 v) →
        (∀ v, ¬ touches s r .eventRing 8 v) → snoop r s = s) ∧
      (∀ v, touches s r .commandRing 0 v → (∀ v, ¬ touches s r .eventRing 16 v) →
        (∀ v, ¬ touches s r .eventRing 8 v) → snoop r s = submitWrite v s) ∧
      (∀ v, (∀ v, ¬ touches s r .commandRing 0 v) → touches s r .eventRing 16 v →
        (∀ v, ¬ touches s r .eventRing 8 v) → snoop r s = readyWrite v s) ∧
      (∀ v, (∀ v, ¬ touches s r .commandRing 0 v) → (∀ v, ¬ touches s r .eventRing 16 v) →
        touches s r .eventRing 8 v → snoop r s = consumeWrite v s)
    unfold snoop
    refine ⟨fun hsubmit hready hconsume => ?_, fun v hsubmit hready hconsume => ?_,
      fun v hsubmit hready hconsume => ?_, fun v hsubmit hready hconsume => ?_⟩
    · rw [snoopWord_untouched _ hsubmit, snoopWord_untouched _ hready, snoopWord_untouched _ hconsume]
    · have hkept := touches_congr (s := s) (t := submitWrite v s) (by simp) r
      rw [snoopWord_touched _ hsubmit, snoopWord_untouched _ fun u h => hready u ((hkept _ _ _).1 h),
        snoopWord_untouched _ fun u h => hconsume u ((hkept _ _ _).1 h)]
    · have hkept := touches_congr (s := s) (t := readyWrite v s) (by simp) r
      rw [snoopWord_untouched _ hsubmit, snoopWord_touched _ hready,
        snoopWord_untouched _ fun u h => hconsume u ((hkept _ _ _).1 h)]
    · rw [snoopWord_untouched _ hsubmit, snoopWord_untouched _ hready, snoopWord_touched _ hconsume]
  case submit =>
    intro n inHand far
    refine ⟨fun hfaulted hv => ?_, fun hfaulted hv => ?_, fun hstate hsame => submitWrite_ignored v s hstate hsame,
      fun hpending hnew hrun => ⟨fun hidle hnear => ?_, fun hidle hfar => ?_, fun hhand hnear => ?_,
        fun hhand hfar => ?_⟩⟩
    · rw [submitWrite_faulted v s hfaulted, if_pos hv]
    · rw [submitWrite_faulted v s hfaulted, if_neg hv]
    · rw [submitWrite_idle v s hpending hnew hidle, if_pos hnear]
      by_cases hv : v = s.engine.done
      · simp [beginFetch, setSubmit, hv]
      · simp [beginFetch, setSubmit, hidle, hrun, hv, Ne.symm hv]
    · rw [submitWrite_idle v s hpending hnew hidle, if_neg hfar]
    · rw [submitWrite_inHand v s hpending hnew hhand, if_pos hnear]
      rfl
    · rw [submitWrite_inHand v s hpending hnew hhand, if_neg hfar]
  case events =>
    intro m e valid
    refine ⟨fun hstate hv => ?_, fun hstate hv => ?_, fun hstate hv => ?_, fun hstate hv => ?_, fun hsame => ?_,
      fun hstate hv hvalid => ?_, fun hstate hv hvalid => ?_⟩
    · simp only [readyWrite, if_neg hv]
      split
      · contradiction
      · rfl
    · simp only [readyWrite, if_pos hv]
      split
      · contradiction
      · rfl
    · simp only [readyWrite, if_neg hv]
      split
      · rfl
      · contradiction
    · simp only [readyWrite, if_pos hv]
      split
      · rfl
      · contradiction
    · rw [consumeWrite, if_pos hsame]
    · rw [consumeWrite, if_neg (not_or.2 ⟨hstate, hv⟩), if_pos hvalid]
    · rw [consumeWrite, if_neg (not_or.2 ⟨hstate, hv⟩), if_neg hvalid]

end Sys2Proof.Machine

/-! SUPPORT. The scrubber (chapter 3): its choice of work, the fix pair and the sweep. -/

namespace Sys2Proof.Machine

open Host (Outcome)

/-! ## The choice of work (R47, R51) -/

theorem reservedAt_iff (s : State) (o : Nat) : s.reservedAt o = true ↔ s.repair.reservation = some (groupOf o) := by
  simp [State.reservedAt]

theorem scrubServe_reserved (w : ScrubWork) (s : State) (h : s.repair.reservation = some (groupOf w.offset)) :
    scrubServe w s = { s with scrub := { s.scrub with inHand := some w, activity := .groupWait } } := by
  rw [scrubServe, if_pos ((reservedAt_iff s _).2 h)]

theorem scrubServe_free (w : ScrubWork) (s : State) (h : s.repair.reservation ≠ some (groupOf w.offset)) :
    scrubServe w s = place (s.scrubAccess w)
      { s with scrub := { s.scrub with inHand := some w, activity := .portWait } } := by
  rw [scrubServe, if_neg (mt (reservedAt_iff s _).1 h)]

/-- The fix entry to serve is the oldest that lies in no REPORT window. -/
theorem chooseWork_fix (s : State) (dropped rest : List FixEntry) (e : FixEntry)
    (hlist : s.scrub.fixList = dropped ++ e :: rest) (hdropped : ∀ x ∈ dropped, s.policyAt x.offset = .report)
    (he : s.policyAt e.offset = .correct) :
    chooseWork s = scrubServe (.fix e) { s with scrub := { s.scrub with fixList := e :: rest } } := by
  have hservable : s.servable = e :: rest := by
    unfold State.servable
    rw [hlist, List.dropWhile_append_of_pos fun x hx => by simpa using hdropped x hx]
    simp [he]
  simp only [chooseWork, hservable]

theorem chooseWork_noFix (s : State) (h : ∀ x ∈ s.scrub.fixList, s.policyAt x.offset = .report) :
    chooseWork s = if s.scrub.due then
        scrubServe (.sweep s.scrub.position) { s with scrub := { s.scrub with fixList := [] } }
      else { s with scrub := { s.scrub with fixList := [], inHand := none, activity := .idle } } := by
  have hservable : s.servable = [] := by
    unfold State.servable
    rw [← List.append_nil s.scrub.fixList, List.dropWhile_append_of_pos fun x hx => by simpa using h x hx]
    rfl
  simp only [chooseWork, hservable]

/-- Settles O24: the expiry, the choice and the fix requests. -/
theorem scrubChooses : Obligations.ScrubChooses := by
  refine ⟨fun s n htimer => ?running, fun s htimer => ?stopped, fun s dropped rest e hlist hdropped he => ?fix,
    fun s hnone => ?sweep, fun s o loc => ?offer, fun e es s => ⟨rfl, rfl⟩⟩
  case running =>
    show execScrubIntervalExpiry s = _
    simp only [execScrubIntervalExpiry, htimer]
    rfl
  case stopped =>
    show execScrubIntervalExpiry s = _
    unfold execScrubIntervalExpiry
    split
    · next n h => exact (htimer n h).elim
    · rfl
  case fix =>
    rw [chooseWork_fix s dropped rest e hlist hdropped he]
    exact ⟨fun h => scrubServe_reserved _ _ h, fun h => scrubServe_free _ _ h⟩
  case sweep =>
    rw [chooseWork_noFix s hnone]
    refine ⟨fun hdue h => ?_, fun hdue h => ?_, fun hdue => ?_⟩
    · rw [if_pos hdue]
      exact scrubServe_reserved _ _ h
    · rw [if_pos hdue]
      exact scrubServe_free _ _ h
    · rw [if_neg (by simp [hdue])]
  case offer =>
    intro e appended
    refine ⟨fun hrefused => ?_, fun hvalid hnew hroom => ⟨fun hidle => ?_, fun hbusy => ?_⟩⟩
    · unfold offerFix
      rw [if_pos]
      simpa [or_assoc] using hrefused
    · have haccepted : (!s.ctl.memValid || s.scrub.fixList.contains e || decide (8 ≤ s.scrub.fixList.length)) = false := by
        simp [hvalid, hnew, hroom]
      unfold offerFix
      rw [if_neg (by rw [haccepted]; exact Bool.false_ne_true)]
      exact if_pos hidle
    · have haccepted : (!s.ctl.memValid || s.scrub.fixList.contains e || decide (8 ≤ s.scrub.fixList.length)) = false := by
        simp [hvalid, hnew, hroom]
      unfold offerFix
      rw [if_neg (by rw [haccepted]; exact Bool.false_ne_true)]
      exact if_neg hbusy

/-! ## The fix pair and the sweep (R48, R52) -/

theorem removeServed_fix (s : State) (e : FixEntry) (h : s.scrub.inHand = some (.fix e)) :
    removeServed s = { s with scrub := { s.scrub with fixList := s.scrub.fixList.erase e } } := by
  simp [removeServed, h]

theorem scrubRuns_iff (s : State) : s.scrubRuns = true ↔
    s.ctl.memValid = true ∧ (s.ctl.regime = .running ∨ s.ctl.regime = .restarting) := by
  simp [State.scrubRuns]

/-- The completion of a read of one word. -/
theorem atRead_word (p : Purpose) (flips : List MemWord) (s : State) (k : Access → List MemWord → State → State)
    (a : Access) (hport : s.port = some a) (hp : a.purpose = p) (hline : a.line = false) (hin : s.inMemory a = true) :
    atRead p flips s k = .next (k a [(readWord s.memEpoch (flips.headD noFlip) (s.accessAddress a) s.mem).1]
      { s with port := none, mem := (readWord s.memEpoch (flips.headD noFlip) (s.accessAddress a) s.mem).2 }) := by
  have hcount : a.count = 1 := by simp [Access.count, hline]
  rw [atRead_inMemory p flips s k a hport hp hin, hcount]
  rfl

/-- Settles O25: the outcomes of a fix pair's halves, the end of work, and a sweep read. -/
theorem scrubAccesses : Obligations.ScrubAccesses := by
  refine ⟨fun s flips a e hport hp hline hin hhand => ?fixRead, fun s a e hport hp hin hhand => ?fixWrite,
    fun s => ?endWork, fun s flips a hport hp hin => ?sweep⟩
  case fixRead =>
    intro r s1 served
    have hexec : exec (.fixPairReadComplete flips) s = .next (fixReadDone a [r.1] s1) :=
      atRead_word .fixRead flips s fixReadDone a hport hp hline hin
    have hserved (x : State) (hx : x.scrub.inHand = some (.fix e)) : endFix x = served x := by
      rw [endFix, removeServed_fix x e hx]
    rw [hexec]
    refine ⟨fun h => ?_, fun h => ?_, fun hclean hbad => ?_⟩
    · simp only [fixReadDone, List.headD_cons, h]
      rw [hserved s1 hhand]
    · simp only [fixReadDone, List.headD_cons, h]
      rw [hserved]
      simpa using hhand
    · unfold fixReadDone
      rw [List.headD_cons]
      dsimp only
      split
      · contradiction
      · contradiction
      · rfl
  case fixWrite =>
    intro s1
    have hexec : exec .fixRewriteComplete s = .next (fixRewriteDone a s1) :=
      atWrite_inMemory .fixWrite s fixRewriteDone a hport hp hin
    have hhand1 : (rewriteReport a.offset a.loc a.syndrome s1).scrub.inHand = some (.fix e) := by
      simpa [s1] using hhand
    rw [hexec, fixRewriteDone, endFix, removeServed_fix _ e hhand1]
    rfl
  case endWork =>
    refine ⟨fun hvalid hregime => ?_, fun h => ?_⟩
    · rw [endWork, if_pos ((scrubRuns_iff s).2 ⟨hvalid, hregime⟩)]
    · rw [endWork, if_neg]
      rw [scrubRuns_iff]
      rintro ⟨hvalid, hregime⟩
      obtain h | ⟨hrun, hrestart⟩ := h
      · rw [h] at hvalid
        cases hvalid
      · exact hregime.elim hrun hrestart
  case sweep =>
    intro r s1
    refine (atRead_inMemory .sweepRead flips s sweepDone a hport hp hin).trans ?_
    change Outcome.next (finish (endWork (advanceSweep s1))) = _
    have hposition : s1.scrub.position = s.scrub.position := by simp [s1]
    have hcount : s1.scrub.count = s.scrub.count := by simp [s1]
    have hloader : s1.loader = s.loader := by simp [s1]
    have hsettings : s1.settings = s.settings := by
      unfold State.settings
      rw [hloader]
    have hgroups : s1.groups = s.usable / 64 := by
      unfold State.groups State.usable
      rw [hsettings]
    rw [advanceSweep, hposition, hcount, hgroups]
    split <;> rfl

end Sys2Proof.Machine

/-! SUPPORT. The read half of a migration (R60, R61). -/

namespace Sys2Proof.Machine

open Host (Outcome)

/-! ## A detection while a migration is in progress -/

theorem nextMigration_busy (s : State) (m : Migration) (h : s.repair.migration = some m) : nextMigration s = s := by
  simp [nextMigration, startMigrations, h]

theorem nextMigration_migration (s : State) (m : Migration) (h : s.repair.migration = some m) :
    (nextMigration s).repair.migration = some m := by
  rw [nextMigration_busy s m h, h]

theorem offerRepair_migration (g : Nat) (s : State) (m : Migration) (h : s.repair.migration = some m) :
    (offerRepair g s).repair.migration = some m := by
  unfold offerRepair
  split
  · exact h
  · split
    · exact h
    · split
      · exact h
      · exact nextMigration_migration _ m h

theorem detect_migration (d : Detection) (s : State) (m : Migration) (h : s.repair.migration = some m) :
    (detect d s).repair.migration = some m := by
  have hcount (es : List LogEntry) : (counted d s es).repair.migration = some m := h
  have hentered (es : List LogEntry) : (enterDetection d (counted d s es)).repair.migration = some m := by
    cases hd : d.severity with
    | corrected => rwa [enterDetection_corrected d s es hd]
    | reported =>
      rw [enterDetection_reported d s es hd]
      simpa using hcount _
    | uncorrectable =>
      rw [enterDetection_uncorrectable d s es hd]
      simpa using offerRepair_migration _ _ m (hcount _)
  unfold detect
  rw [countDetection_eq]
  dsimp only
  split
  · unfold coalesce
    dsimp only
    split
    · exact h
    · split
      · exact offerRepair_migration _ _ m h
      · exact h
  · split
    · exact hentered _
    · split
      · exact h
      · split
        · exact hentered _
        · exact h

theorem detectAll_migration (ds : List Detection) (s : State) (m : Migration) (h : s.repair.migration = some m) :
    (detectAll ds s).repair.migration = some m := by
  unfold detectAll
  induction ds generalizing s with
  | nil => exact h
  | cons d ds ih => exact ih _ (detect_migration d s m h)

/-! ## The places of the words (R60, R61) -/

theorem getLsbD_place (i k : Nat) (hk : k < 8) : (1#8 <<< i).getLsbD k = true ↔ k = i := by
  simp only [BitVec.getLsbD_shiftLeft, BitVec.getLsbD_one, Bool.and_eq_true, Bool.not_eq_true', decide_eq_true_eq,
    decide_eq_false_iff_not]
  omega

theorem rawPlaces_getLsbD (ws : List MemWord) (i k : Nat) (hk : k < 8) : (rawPlaces ws i).getLsbD k = true ↔
    i ≤ k ∧ ∃ w, ws[k - i]? = some w ∧ decode w = .uncorrectable := by
  induction ws generalizing i with
  | nil => simp [rawPlaces]
  | cons x xs ih =>
    rw [rawPlaces, BitVec.getLsbD_or, Bool.or_eq_true, ih]
    have hhead : (if decode x = .uncorrectable then 1#8 <<< i else 0).getLsbD k = true ↔
        k = i ∧ decode x = .uncorrectable := by
      split
      · next h => rw [getLsbD_place i k hk, and_iff_left h]
      · next h => simp [h]
    rw [hhead]
    rcases Nat.lt_trichotomy k i with h | h | h
    · constructor
      · rintro (⟨rfl, -⟩ | ⟨hle, -⟩) <;> omega
      · rintro ⟨hle, -⟩
        omega
    · subst h
      simp [show ¬ k + 1 ≤ k by omega]
    · have hstep : k - i = k - (i + 1) + 1 := by omega
      rw [hstep, List.getElem?_cons_succ]
      constructor
      · rintro (⟨rfl, -⟩ | ⟨-, hw⟩)
        · omega
        · exact ⟨by omega, hw⟩
      · rintro ⟨-, hw⟩
        exact .inr ⟨by omega, hw⟩

theorem onlyCarried_iff (carried : Byte) (ws : List MemWord) (i : Nat) : onlyCarried carried ws i = true ↔
    ∀ k w, ws[k]? = some w → decode w ≠ .clean → decode w = .uncorrectable ∧ carried.getLsbD (i + k) = true := by
  induction ws generalizing i with
  | nil => simp [onlyCarried]
  | cons x xs ih =>
    rw [onlyCarried, Bool.and_eq_true, ih]
    constructor
    · rintro ⟨hhead, htail⟩ k w hw hclean
      cases k with
      | zero =>
        cases hw
        simpa [hclean] using hhead
      | succ k =>
        have hrest := htail k w hw hclean
        rwa [Nat.add_right_comm, Nat.add_assoc] at hrest
    · intro h
      refine ⟨?_, fun k w hw hclean => ?_⟩
      · by_cases hclean : decode x = .clean
        · simp [hclean]
        · simpa [hclean] using h 0 x rfl hclean
      · have hrest := h (k + 1) w hw hclean
        rwa [Nat.add_right_comm, Nat.add_assoc]

theorem byte_ne_zero_iff (b : Byte) : b ≠ 0 ↔ ∃ k < 8, b.getLsbD k = true := by
  constructor
  · intro h
    refine Classical.byContradiction fun hnone => ?_
    refine h (BitVec.eq_of_getLsbD_eq fun k hk => ?_)
    have hclear : b.getLsbD k = false := Bool.eq_false_iff.2 fun hbit => hnone ⟨k, hk, hbit⟩
    simpa using hclear
  · rintro ⟨k, -, hbit⟩ rfl
    simp at hbit

theorem declines_iff (e : RepairEntry) (ws : List MemWord) (hlen : ws.length ≤ 8) : declines e ws = true ↔
    e.carried ≠ 0 ∧ (∃ (k : Nat) (w : MemWord), ws[k]? = some w ∧ decode w = .uncorrectable) ∧
      ∀ (k : Nat) (w : MemWord), ws[k]? = some w → decode w ≠ .clean →
        decode w = .uncorrectable ∧ e.carried.getLsbD k = true := by
  have hraw : rawPlaces ws 0 ≠ 0 ↔ ∃ (k : Nat) (w : MemWord), ws[k]? = some w ∧ decode w = .uncorrectable := by
    rw [byte_ne_zero_iff]
    constructor
    · rintro ⟨k, hk, hbit⟩
      obtain ⟨-, hw⟩ := (rawPlaces_getLsbD ws 0 k hk).1 hbit
      exact ⟨k, hw⟩
    · rintro ⟨k, w, hw, hbad⟩
      have hk : k < 8 := by
        obtain ⟨hlt, -⟩ := List.getElem?_eq_some_iff.1 hw
        omega
      exact ⟨k, hk, (rawPlaces_getLsbD ws 0 k hk).2 ⟨Nat.zero_le k, w, hw, hbad⟩⟩
  simp only [declines, Bool.and_eq_true, decide_eq_true_eq, hraw, onlyCarried_iff, Nat.zero_add, and_assoc]

theorem readWords_length (epoch : Nat) (flips : List MemWord) (a n : Nat) (m : Memory) :
    (readWords epoch flips a n m).1.length = n := by
  induction n generalizing flips a m with
  | zero => rfl
  | succ n ih => simp [readWords, ih]

theorem prepareWord_spec (w : MemWord) :
    (decode w = .clean ∨ decode w = .uncorrectable → prepareWord w = w) ∧
    (decode w ≠ .clean → decode w ≠ .uncorrectable → prepareWord w = made (offered w)) := by
  unfold prepareWord
  cases decode w <;> simp

/-- Settles O26: the copy goes on, or the re-repair is declined. -/
theorem migrationReads : Obligations.MigrationReads := by
  refine ⟨fun s flips a m hport hp hin hmigration => ?read, prepareWord_spec, fun ws k _ hk => ?places⟩
  case places => simpa using rawPlaces_getLsbD ws 0 k hk
  case read =>
    intro r s1 raw declined goesOn
    have hexec : exec (.migrationReadComplete flips) s =
        .next (migrationReadDone a r.1 { s with port := none, mem := r.2 }) :=
      atRead_inMemory .migrationRead flips s migrationReadDone a hport hp hin
    have hm : s1.repair.migration = some m := detectAll_migration _ _ m hmigration
    have hentry : s1.repairEntry m.group = s.repairEntry m.group := by simp [State.repairEntry, s1]
    have hdone : migrationReadDone a r.1 { s with port := none, mem := r.2 } =
        match if m.reRepair then s.repairEntry m.group else none with
        | some e => if declines e r.1 then finish (declineRepair e s1) else finish (copyToSlot m a r.1 s1)
        | none => finish (copyToSlot m a r.1 s1) := by
      change (match s1.repair.migration with
        | none => finish s1
        | some m => match if m.reRepair then s1.repairEntry m.group else none with
          | some e => if declines e r.1 then finish (declineRepair e s1) else finish (copyToSlot m a r.1 s1)
          | none => finish (copyToSlot m a r.1 s1)) = _
      rw [hm]
      dsimp only
      rw [hentry]
    have hlen : r.1.length ≤ 8 := by
      rw [readWords_length]
      unfold Access.count
      split <;> omega
    refine ⟨fun hfirst => ?_, fun e hagain he hnot => ?_, fun e hagain he hdeclined => ?_⟩
    · refine ⟨copyToSlot m a r.1 s1, ?_, _, rfl, rfl⟩
      rw [hexec, hdone, hfirst]
      rfl
    · refine ⟨copyToSlot m a r.1 s1, ?_, _, rfl, rfl⟩
      rw [hexec, hdone, hagain, if_pos rfl, he]
      dsimp only
      rw [if_neg (mt (declines_iff e r.1 hlen).1 hnot)]
    · rw [hexec, hdone, hagain, if_pos rfl, he]
      dsimp only
      rw [if_pos ((declines_iff e r.1 hlen).2 hdeclined)]
      have hfree : s1.repair.free = s.repair.free := by simp [Repair.free, s1]
      rw [← hfree]
      rfl

end Sys2Proof.Machine

/-! SUPPORT. The write half of a migration, its end, and what the setting and the release of the group reservation do at
every block (R57, R62). -/

namespace Sys2Proof.Machine

open Host (Outcome)

/-! ## The end of a migration (R62, R66, R69) -/

theorem nextMigration_noRequests (s : State) (h : s.repair.requests = []) : nextMigration s = s := by
  simp [nextMigration, startMigrations, h]

theorem waitsForRepair_iff (g : Nat) (e : Engine) : waitsForRepair g e = true ↔
    e.state = .waiting ∧ ∃ placed, e.work = .repairGroup g placed := by
  simp only [waitsForRepair, Bool.and_eq_true, decide_eq_true_eq, Bool.or_eq_true]
  refine and_congr_right fun _ => ⟨?_, ?_⟩
  · rintro (h | h)
    · exact ⟨true, h⟩
    · exact ⟨false, h⟩
  · rintro ⟨placed, h⟩
    cases placed
    · exact .inr h
    · exact .inl h

theorem reportOutcome_quiet (n : RepairNotice) (s : State) (h : waitsForRepair n.group s.engine = false) :
    reportOutcome n s = queueNotice (.repair n) s := by
  simp [reportOutcome, h]

theorem reportOutcome_completes (n : RepairNotice) (s : State) (h : waitsForRepair n.group s.engine = true) :
    reportOutcome n s = completeCommand .done (repairResults n) (queueNotice (.repair n) s) := by
  simp [reportOutcome, h]

theorem releaseReservation_repair (g : Nat) (s : State) :
    (releaseReservation g s).repair = { s.repair with reservation := none } := by
  simp [releaseReservation]

theorem reportOutcome_repair (n : RepairNotice) (s : State) : (reportOutcome n s).repair = s.repair := by
  unfold reportOutcome
  dsimp only
  split
  · simp
  · simp

/-! ## Setting the reservation (R57) -/

/-- Whether a request at the arbiter is for a group. -/
def asksFor (g : Nat) (w : Option Waiting) : Bool := w.any fun x => decide (groupOf x.access.offset = g)

theorem asksFor_iff (g : Nat) (w : Option Waiting) :
    asksFor g w = true ↔ ∃ x, w = some x ∧ groupOf x.access.offset = g := by
  cases w <;> simp [asksFor]

theorem frontYield_asks (g : Nat) (s : State) (h : asksFor g s.arbiter.front = true) : frontYield g s = { s with
    arbiter := { s.arbiter with front := none }, front := s.front.map fun x => { x with phase := .redirectWait } } := by
  obtain ⟨w, hw, hg⟩ := (asksFor_iff _ _).1 h
  simp [frontYield, hw, hg, withdraw, Arbiter.set]

theorem frontYield_rest (g : Nat) (s : State) (h : asksFor g s.arbiter.front = false) : frontYield g s = s := by
  unfold frontYield
  split
  · next w hw => rw [if_neg fun hg => Bool.eq_false_iff.1 h ((asksFor_iff _ _).2 ⟨w, hw, hg⟩)]
  · rfl

theorem frontYield_eq (g : Nat) (s : State) : frontYield g s = { s with
    arbiter := { s.arbiter with front := if asksFor g s.arbiter.front then none else s.arbiter.front }
    front := if asksFor g s.arbiter.front then s.front.map fun x => { x with phase := .redirectWait } else s.front } := by
  cases h : asksFor g s.arbiter.front with
  | false => simp only [frontYield_rest g s h, Bool.false_eq_true, if_false]
  | true => simp only [frontYield_asks g s h, if_true]

theorem scrubYield_asks (g : Nat) (s : State) (h : asksFor g s.arbiter.scrub = true) : scrubYield g s = { s with
    arbiter := { s.arbiter with scrub := none }, scrub := { s.scrub with activity := .groupWait } } := by
  obtain ⟨w, hw, hg⟩ := (asksFor_iff _ _).1 h
  simp [scrubYield, hw, hg, withdraw, Arbiter.set]

theorem scrubYield_rest (g : Nat) (s : State) (h : asksFor g s.arbiter.scrub = false) : scrubYield g s = s := by
  unfold scrubYield
  split
  · next w hw => rw [if_neg fun hg => Bool.eq_false_iff.1 h ((asksFor_iff _ _).2 ⟨w, hw, hg⟩)]
  · rfl

theorem scrubYield_eq (g : Nat) (s : State) : scrubYield g s = { s with
    arbiter := { s.arbiter with scrub := if asksFor g s.arbiter.scrub then none else s.arbiter.scrub }
    scrub := if asksFor g s.arbiter.scrub then { s.scrub with activity := .groupWait } else s.scrub } := by
  cases h : asksFor g s.arbiter.scrub with
  | false => simp only [scrubYield_rest g s h, Bool.false_eq_true, if_false]
  | true => simp only [scrubYield_asks g s h, if_true]

/-- The engine while its command waits (R181). -/
def waitingEngine (s : State) : Engine :=
  { s.engine with state := .waiting, waitTimer := .running s.settings.cmdWaitLimit }

theorem prepYield_asks (g : Nat) (s : State) (h : asksFor g s.arbiter.prep = true) : prepYield g s = { s with
    arbiter := { s.arbiter with prep := none }, prep := { s.prep with wait := .groupWait }
    engine := if s.prep.activity = .checking then waitingEngine s else s.engine } := by
  obtain ⟨w, hw, hg⟩ := (asksFor_iff _ _).1 h
  unfold prepYield
  simp only [hw, if_pos hg]
  by_cases hc : s.prep.activity = .checking
  · simp only [withdraw, hc, if_true]
    rfl
  · simp only [withdraw, hc, if_false]
    rfl

theorem prepYield_rest (g : Nat) (s : State) (h : asksFor g s.arbiter.prep = false) : prepYield g s = s := by
  unfold prepYield
  split
  · next w hw => rw [if_neg fun hg => Bool.eq_false_iff.1 h ((asksFor_iff _ _).2 ⟨w, hw, hg⟩)]
  · rfl

theorem prepYield_eq (g : Nat) (s : State) : prepYield g s = { s with
    arbiter := { s.arbiter with prep := if asksFor g s.arbiter.prep then none else s.arbiter.prep }
    prep := if asksFor g s.arbiter.prep then { s.prep with wait := .groupWait } else s.prep
    engine := if asksFor g s.arbiter.prep ∧ s.prep.activity = .checking then waitingEngine s else s.engine } := by
  cases h : asksFor g s.arbiter.prep with
  | false => simp only [prepYield_rest g s h, Bool.false_eq_true, if_false, false_and]
  | true => simp only [prepYield_asks g s h, if_true, true_and]

/-- A DIAG command that has not been granted enters WAITING (R39). -/
def diagYield (g : Nat) (s : State) : State :=
  if s.engine.state = .executing ∧ s.engine.work.diagGroup = some g ∧ diagInProgress s = false then enterWaiting s else s

theorem mailboxYield_asks (g : Nat) (s : State) (h : asksFor g s.arbiter.mailbox = true) :
    mailboxYield g s = diagYield g (withdraw .mailbox s) := by
  obtain ⟨w, hw, hg⟩ := (asksFor_iff _ _).1 h
  simp only [mailboxYield, hw, if_pos hg]
  rfl

theorem mailboxYield_rest (g : Nat) (s : State) (h : asksFor g s.arbiter.mailbox = false) :
    mailboxYield g s = diagYield g s := by
  cases hw : s.arbiter.mailbox with
  | none =>
    simp only [mailboxYield, hw]
    rfl
  | some w =>
    have hg : ¬ groupOf w.access.offset = g := fun hg => Bool.eq_false_iff.1 h ((asksFor_iff _ _).2 ⟨w, hw, hg⟩)
    simp only [mailboxYield, hw, if_neg hg]
    rfl

theorem diagYield_eq (g : Nat) (s : State) : diagYield g s = { s with
    engine := if s.engine.state = .executing ∧ s.engine.work.diagGroup = some g ∧ diagInProgress s = false then
      waitingEngine s else s.engine } := by
  unfold diagYield
  split
  · rfl
  · rfl

theorem mailboxYield_eq (g : Nat) (s : State) : mailboxYield g s = { s with
    arbiter := { s.arbiter with mailbox := if asksFor g s.arbiter.mailbox then none else s.arbiter.mailbox }
    engine := if s.engine.state = .executing ∧ s.engine.work.diagGroup = some g ∧ diagInProgress s = false then
      waitingEngine s else s.engine } := by
  cases h : asksFor g s.arbiter.mailbox with
  | false =>
    rw [mailboxYield_rest g s h, diagYield_eq]
    simp only [Bool.false_eq_true, if_false]
  | true =>
    rw [mailboxYield_asks g s h, diagYield_eq]
    rfl

theorem diagGroup_iff (work : EngineWork) (g : Nat) : work.diagGroup = some g ↔
    ∃ o, groupOf o = g ∧ (work = .diagRead o ∨ ∃ w, work = .diagWrite o w) := by
  cases work <;> simp [EngineWork.diagGroup, eq_comm, and_comm]

theorem diagInProgress_iff (s : State) : diagInProgress s = true ↔
    ∃ a, s.port = some a ∧ (a.purpose = .diagRead ∨ a.purpose = .diagWrite) ∧ a.discarded = false := by
  unfold diagInProgress
  cases s.port <;> simp

/-- What the setting of a reservation changes (R57). -/
theorem setReservation_parts (g : Nat) (s : State) :
    let t := setReservation g s
    t = { s with repair := { s.repair with reservation := some g }, arbiter := t.arbiter, front := t.front,
                 scrub := t.scrub, prep := t.prep, engine := t.engine } ∧
    t.arbiter = { s.arbiter with
      front := if asksFor g s.arbiter.front then none else s.arbiter.front
      scrub := if asksFor g s.arbiter.scrub then none else s.arbiter.scrub
      prep := if asksFor g s.arbiter.prep then none else s.arbiter.prep
      mailbox := if asksFor g s.arbiter.mailbox then none else s.arbiter.mailbox } ∧
    t.front = (if asksFor g s.arbiter.front then s.front.map fun x => { x with phase := .redirectWait } else s.front) ∧
    t.scrub = (if asksFor g s.arbiter.scrub then { s.scrub with activity := .groupWait } else s.scrub) ∧
    t.prep = (if asksFor g s.arbiter.prep then { s.prep with wait := .groupWait } else s.prep) := by
  unfold setReservation
  rw [mailboxYield_eq, prepYield_eq, scrubYield_eq, frontYield_eq]
  exact ⟨rfl, rfl, rfl, rfl, rfl⟩

theorem waitingEngine_congr {s t : State} (hengine : t.engine = s.engine) (hloader : t.loader = s.loader) :
    waitingEngine t = waitingEngine s := by
  unfold waitingEngine State.settings
  rw [hengine, hloader]

theorem prepYield_engine (g : Nat) (s : State) : (prepYield g s).engine =
    if asksFor g s.arbiter.prep ∧ s.prep.activity = .checking then waitingEngine s else s.engine := by
  rw [prepYield_eq]

theorem mailboxYield_engine (g : Nat) (s : State) : (mailboxYield g s).engine =
    if s.engine.state = .executing ∧ s.engine.work.diagGroup = some g ∧ diagInProgress s = false then
      waitingEngine s else s.engine := by
  rw [mailboxYield_eq]

theorem diagInProgress_congr {s t : State} (h : t.port = s.port) : diagInProgress t = diagInProgress s := by
  unfold diagInProgress
  rw [h]

/-- What the setting of a reservation does to the engine: a CHECK-RANGE or a DIAG command enters WAITING (R39, R115). -/
theorem setReservation_engine (g : Nat) (s : State) : (setReservation g s).engine =
    if (s.engine.state = .executing ∧ s.engine.work.diagGroup = some g ∧ diagInProgress s = false) ∨
      (asksFor g s.arbiter.prep = true ∧ s.prep.activity = .checking) then waitingEngine s else s.engine := by
  unfold setReservation
  have hasks : (scrubYield g (frontYield g { s with repair := { s.repair with reservation := some g } })).arbiter.prep =
      s.arbiter.prep := by rw [scrubYield_eq, frontYield_eq]
  generalize hy : scrubYield g (frontYield g { s with repair := { s.repair with reservation := some g } }) = y at hasks ⊢
  have hengine : y.engine = s.engine := by simp [← hy]
  have hport : y.port = s.port := by simp [← hy]
  have hloader : y.loader = s.loader := by simp [← hy]
  have hprep : y.prep = s.prep := by simp [← hy]
  have hx := prepYield_engine g y
  rw [hasks, hprep, hengine, waitingEngine_congr hengine hloader] at hx
  rw [mailboxYield_engine]
  by_cases hcheck : asksFor g s.arbiter.prep = true ∧ s.prep.activity = .checking
  · rw [if_pos hcheck] at hx
    rw [hx, if_neg (fun h => by cases h.1), if_pos (.inr hcheck)]
  · rw [if_neg hcheck] at hx
    have hport' : (prepYield g y).port = s.port := by simp [hport]
    have hloader' : (prepYield g y).loader = s.loader := by simp [hloader]
    rw [hx, diagInProgress_congr hport', waitingEngine_congr hx hloader']
    simp only [or_iff_left hcheck]

end Sys2Proof.Machine

/-! SUPPORT. The release of the group reservation at every block (R57), and the write half of a migration (R62). -/

namespace Sys2Proof.Machine

open Host (Outcome)

/-! ## The release at the front port (R5) -/

/-- What the front port does with a transaction does not depend on the one it held. -/
theorem frontClassify_anyFront (t : FrontTxn) (s : State) (f : Option FrontTxn) :
    frontClassify t { s with front := f } = frontClassify t s := rfl

theorem frontRelease_reserveWait (g : Nat) (s : State) (t : FrontTxn) (hfront : s.front = some t)
    (hg : groupOf t.offset = g) (hphase : t.phase = .reserveWait) : frontRelease g s = frontClassify t s := by
  simp [frontRelease, hfront, hg, hphase]

theorem frontRelease_redirectWait (g : Nat) (s : State) (t : FrontTxn) (hfront : s.front = some t)
    (hg : groupOf t.offset = g) (hphase : t.phase = .redirectWait) : frontRelease g s = frontRequest t s := by
  simp [frontRelease, hfront, hg, hphase]

theorem frontRelease_rest (g : Nat) (s : State)
    (h : ∀ t, s.front = some t → groupOf t.offset = g → t.phase = .requested ∨ t.phase = .access) :
    frontRelease g s = s := by
  unfold frontRelease
  split
  · next t hfront =>
    split
    · next hg =>
      obtain hphase | hphase := h t hfront hg <;> rw [hphase]
    · rfl
  · rfl

/-- A transaction that waited at step 2 does what it would do if it were presented now (R5). -/
theorem frontRelease_presented (g : Nat) (s : State) (kind : TxnKind) (o a : Nat) (mask : Byte) (words : List Word)
    (ha : (if kind.isLine then groupOf o else wordOffset o) = a) (hfront : s.front = some (.presented kind a mask words))
    (hg : groupOf a = g) (hin : a < s.usable) (hrun : s.ctl.regime = .running) (hfree : s.repair.reservation = none) :
    frontAccept kind o mask words { s with front := none } = finish (frontRelease g s) := by
  have haccept := frontAccept_unreserved kind o a mask words { s with front := none } ha hrun rfl hin
    (by simp [hfree])
  rw [haccept, frontClassify_anyFront, frontRelease_reserveWait g s _ hfront hg rfl]

/-! ## The release at the other blocks -/

theorem prepRelease_waiting (g : Nat) (s : State) (h : s.prep.wait = .groupWait ∧ 64 * s.prep.position = g) :
    prepRelease g s = match s.prep.activity with
      | .passing => prepHandle s
      | .checking => prepHandle (resumeExecuting s)
      | _ => s :=
  if_pos h

theorem prepRelease_rest (g : Nat) (s : State)
    (h : ¬ (s.prep.wait = .groupWait ∧ 64 * s.prep.position = g) ∨
      (s.prep.activity ≠ .passing ∧ s.prep.activity ≠ .checking)) : prepRelease g s = s := by
  unfold prepRelease
  split
  · next hwaits =>
    obtain h | ⟨hpassing, hchecking⟩ := h
    · exact (h hwaits).elim
    · split
      · contradiction
      · contradiction
      · rfl
  · rfl

theorem scrubRelease_waiting (g : Nat) (s : State) (w : ScrubWork) (hhand : s.scrub.inHand = some w)
    (hwait : s.scrub.activity = .groupWait) (hg : groupOf w.offset = g) (hfree : s.repair.reservation ≠ some g) :
    scrubRelease g s = place (s.scrubAccess w) { s with scrub := { s.scrub with activity := .portWait } } := by
  have hscrub : { s.scrub with inHand := some w, activity := .portWait } = { s.scrub with activity := .portWait } := by
    rw [← hhand]
  simp only [scrubRelease, hhand, hwait, hg, and_self, if_true]
  rw [scrubServe_free w s (by rwa [hg]), hscrub]

theorem scrubRelease_rest (g : Nat) (s : State)
    (h : ∀ w, s.scrub.inHand = some w → ¬ (s.scrub.activity = .groupWait ∧ groupOf w.offset = g)) :
    scrubRelease g s = s := by
  unfold scrubRelease
  split
  · next w hhand => rw [if_neg (h w hhand)]
  · rfl

/-! ## The write half (R62) -/

theorem migrationWriteDone_first (a : Access) (s : State) (m : Migration) (hm : s.repair.migration = some m)
    (he : s.repairEntry m.group = none) : migrationWriteDone a s = finish (firstRepair m s) := by
  simp only [migrationWriteDone, hm, he]

theorem migrationWriteDone_again (a : Access) (s : State) (m : Migration) (e : RepairEntry)
    (hm : s.repair.migration = some m) (he : s.repairEntry m.group = some e) :
    migrationWriteDone a s = finish (reRepair m e s) := by
  simp only [migrationWriteDone, hm, he]

theorem completeCommand_frame_queue (status : Status) (results : List Byte) (s : State) :
    (completeCommand status results s).queue = s.queue := rfl

theorem reportOutcome_queue (n : RepairNotice) (s : State) :
    (reportOutcome n s).queue = (queueNotice (.repair n) s).queue := by
  unfold reportOutcome
  dsimp only
  split
  · rfl
  · rfl

theorem queueNotice_room (b : NoticeBody) (s : State) (hkey : b.isKey = false) (hroom : s.queue.length < 32) :
    (queueNotice b s).queue = s.queue ++ [{ session := s.clock.session, body := b }] := by
  simp [queueNotice, hkey, hroom]

theorem optField_two (v : Option (BitVec 16)) : optField 2 (v.map (·.toNat)) = (match v with
    | some v => le 2 v.toNat
    | none => [0xFF, 0xFF]) := by
  cases v <;> rfl

/-- Settles O27: the two ends of a migration, and the setting and the release of the reservation at each block. -/
theorem migrationWrites : Obligations.MigrationWrites := by
  refine ⟨fun s a m hport hp hin hm => ?write, fun n s hnone => ?ends, fun n s => ?outcome, fun g s => ?setting,
    fun g s => rfl, fun g s => ⟨frontRelease_rest g s, ?redirected, ?presented⟩, fun g s => ?release⟩
  case write =>
    intro s1
    have hexec : exec .migrationWriteComplete s = .next (migrationWriteDone a s1) :=
      atWrite_inMemory .migrationWrite s migrationWriteDone a hport hp hin
    have hs1 : s1 = { s with port := none, mem := writeWords a.words (s.accessAddress a) s.mem } :=
      clearCarried_raw a _ (by rw [hp]; rfl)
    have hm1 : s1.repair.migration = some m := by rw [hs1]; exact hm
    have hentry : s1.repairEntry m.group = s.repairEntry m.group := by rw [hs1]; rfl
    rw [hexec]
    constructor
    · intro he added
      rw [migrationWriteDone_first a s1 m hm1 (hentry.trans he)]
      have hcompleted : s1.repair.completed = s.repair.completed := by rw [hs1]
      have huptime : s1.clock.uptime = s.clock.uptime := by rw [hs1]
      simp only [firstRepair, added, hcompleted, huptime]
    · intro e he moved
      rw [migrationWriteDone_again a s1 m e hm1 (hentry.trans he)]
      have hagain : s1.repair.reRepaired = s.repair.reRepaired := by rw [hs1]
      simp only [reRepair, moved, hagain]
  case ends =>
    intro t
    have hrequests : (reportOutcome n (releaseReservation n.group
        { s with repair := { s.repair with migration := none } })).repair.requests = [] := by
      rw [reportOutcome_repair, releaseReservation_repair]
      exact hnone
    have ht : t = reportOutcome n (releaseReservation n.group
        { s with repair := { s.repair with migration := none } }) := nextMigration_noRequests _ hrequests
    refine ⟨?_, by simp [t], by simp [t], fun hroom => ?_⟩
    · rw [ht, reportOutcome_repair, releaseReservation_repair]
    · have hqueue : (releaseReservation n.group { s with repair := { s.repair with migration := none } }).queue =
          s.queue := by simp
      have hclock : (releaseReservation n.group { s with repair := { s.repair with migration := none } }).clock =
          s.clock := by simp
      rw [ht, reportOutcome_queue, queueNotice_room _ _ rfl (by rw [hqueue]; exact hroom), hqueue, hclock]
  case outcome =>
    intro byte waits
    refine ⟨rfl, fun h => reportOutcome_quiet n s ?_, fun h => ?_⟩
    · rw [← Bool.not_eq_true, waitsForRepair_iff]
      exact h
    · rw [reportOutcome_completes n s ((waitsForRepair_iff _ _).2 h), repairResults, byteField_eq, byteField_eq,
        optField_one, optField_one, optField_two]
      simp only [byte, List.append_assoc, List.cons_append, List.nil_append] <;> rfl
  case setting =>
    intro t asks diagHere diagWaits checkWaits
    obtain ⟨hwhole, harbiter, hfront, hscrub, hprep⟩ := setReservation_parts g s
    have hasks (w : Option Waiting) : asks w ↔ asksFor g w = true := (asksFor_iff g w).symm
    have hdiag : diagWaits ↔
        s.engine.state = .executing ∧ s.engine.work.diagGroup = some g ∧ diagInProgress s = false := by
      rw [diagGroup_iff, ← Bool.not_eq_true, diagInProgress_iff, and_comm (b := ¬ _)]
    have hcheck : checkWaits ↔ asksFor g s.arbiter.prep = true ∧ s.prep.activity = .checking :=
      and_congr_left fun _ => hasks _
    have hengine := setReservation_engine g s
    simp only [hasks]
    refine ⟨hwhole, by rw [harbiter], fun h => ⟨by rw [harbiter, if_pos h], by rw [hfront, if_pos h]⟩,
      fun h => ⟨by rw [harbiter, if_neg h], by rw [hfront, if_neg h]⟩,
      fun h => ⟨by rw [harbiter, if_pos h], by rw [hscrub, if_pos h]⟩,
      fun h => ⟨by rw [harbiter, if_neg h], by rw [hscrub, if_neg h]⟩,
      fun h => ⟨by rw [harbiter, if_pos h], by rw [hprep, if_pos h]⟩,
      fun h => ⟨by rw [harbiter, if_neg h], by rw [hprep, if_neg h]⟩,
      fun h => by rw [harbiter, if_pos h], fun h => by rw [harbiter, if_neg h], fun h => ?_, fun hd hc => ?_⟩
    · exact hengine.trans (if_pos (h.imp hdiag.1 hcheck.1))
    · exact hengine.trans (if_neg (not_or.2 ⟨mt hdiag.2 hd, mt hcheck.2 hc⟩))
  case redirected =>
    intro t hfront hg hphase
    rw [frontRelease_redirectWait g s t hfront hg hphase]
    rfl
  case presented =>
    intro c o t hfront hg hin hrun hfree waiting hcase
    obtain ⟨mask, rfl, rfl⟩ | ⟨mask, d, rfl, rfl⟩ | ⟨rfl, rfl⟩ | ⟨d, rfl, rfl⟩ := hcase
    · rw [exec_read, frontRelease_presented g s .read o.toNat _ mask [] rfl hfront hg hin hrun hfree]
    · rw [exec_write, frontRelease_presented g s .write o.toNat _ mask [d] rfl hfront hg hin hrun hfree]
    · rw [exec_lineRead, frontRelease_presented g s .lineRead o.toNat _ 0xFF [] rfl hfront hg hin hrun hfree]
    · rw [exec_lineWrite, frontRelease_presented g s .lineWrite o.toNat _ 0xFF (lineWords d) rfl hfront hg hin hrun hfree]
  case release =>
    intro diagWaits executing prepWaits scrubWaits asking
    have hdiag : diagWaits ↔ s.engine.state = .waiting ∧ s.engine.work.diagGroup = some g := by rw [diagGroup_iff]
    refine ⟨fun h => ?_, fun h => ?_, fun h hactivity => ?_, fun h hactivity => ?_, prepRelease_rest g s,
      fun e hhand h hfree => ?_, fun k hhand h hfree => ?_, fun hfix hsweep => scrubRelease_rest g s fun w hhand => ?_⟩
    · rw [diagRelease, if_pos (hdiag.1 h)]
      rfl
    · rw [diagRelease, if_neg (mt hdiag.2 h)]
    · exact (prepRelease_waiting g s h).trans (by rw [hactivity])
    · exact (prepRelease_waiting g s h).trans (by rw [hactivity]; rfl)
    · exact scrubRelease_waiting g s (.fix e) hhand h.1 h.2 hfree
    · exact scrubRelease_waiting g s (.sweep k) hhand h.1 h.2 hfree
    · cases w with
      | fix e => exact hfix e hhand
      | sweep k => exact hsweep k hhand

end Sys2Proof.Machine

/-! SUPPORT. The preparation engine (chapter 5): the steps of a group, the end of a pass, and the reads of a
CHECK-RANGE. -/

namespace Sys2Proof.Machine

open Host (Outcome)

/-! ## What a read-back finds (R108) -/

theorem compareWord_spec (pattern : Word) (w : MemWord) :
    (compareWord pattern w = .good ↔ decode w = .clean ∧ w.data = pattern) ∧
    (compareWord pattern w = .single ↔ decode w ≠ .clean ∧ decode w ≠ .uncorrectable ∧ offered w = pattern) := by
  unfold compareWord
  cases decode w with
  | clean => by_cases h : w.data = pattern <;> simp [h]
  | uncorrectable => simp
  | checkBit i => by_cases h : offered w = pattern <;> simp [h]
  | dataBit j => by_cases h : offered w = pattern <;> simp [h]

theorem severityOf_eq (p : CheckPolicy) (o : CheckOutcome) (h : o ≠ .uncorrectable) :
    severityOf p o = if p = .report then .reported else .corrected := by
  cases p <;> cases o <;> simp_all [severityOf]

theorem readBackDetections_eq (policy : Nat → CheckPolicy) (a : Access) (pass : Nat) (ws : List MemWord)
    (hlen : ws.length ≤ 8) : readBackDetections policy a ws (findings pass a.offset ws) =
      (List.range ws.length).filterMap fun k =>
        findingDetection policy a (a.offset + 8 * k, ws.getD k (made 0))
          (compareWord (patternWord pass (a.offset + 8 * k)) (ws.getD k (made 0))) := by
  rw [readBackDetections, offsetWords_eq, findings_eq pass a.offset ws hlen, List.zip_map', List.filterMap_map]
  rfl

/-! ## The group in hand (R106, R107, R115) -/

theorem groupOf_group (k : Nat) : groupOf (64 * k) = 64 * k := by
  unfold groupOf
  omega

theorem prepReserved_iff (s : State) :
    s.reservedAt s.prepGroup = true ↔ s.repair.reservation = some (64 * s.prep.position) := by
  rw [reservedAt_iff, State.prepGroup, groupOf_group]

theorem prepHandle_spec (s : State) :
    (s.repair.reservation = some (64 * s.prep.position) → s.prep.activity ≠ .checking →
      prepHandle s = { s with prep := { s.prep with wait := .groupWait } }) ∧
    (s.repair.reservation = some (64 * s.prep.position) → s.prep.activity = .checking →
      prepHandle s = { s with
        prep := { s.prep with wait := .groupWait }
        engine := { s.engine with state := .waiting, waitTimer := .running s.settings.cmdWaitLimit } }) ∧
    (s.repair.reservation ≠ some (64 * s.prep.position) →
      prepHandle s = place s.prepAccess { s with prep := { s.prep with wait := .portWait } }) := by
  refine ⟨fun hreserved hactivity => ?_, fun hreserved hactivity => ?_, fun hfree => ?_⟩
  · rw [prepHandle, if_pos ((prepReserved_iff s).2 hreserved)]
    exact if_neg hactivity
  · rw [prepHandle, if_pos ((prepReserved_iff s).2 hreserved)]
    exact if_pos hactivity
  · rw [prepHandle, if_neg (mt (prepReserved_iff s).1 hfree)]

/-- Settles O29: the completions of the first two steps, the findings and the handling of a step. -/
theorem prepReadsBack : Obligations.PrepReadsBack := by
  refine ⟨fun s a hport hp hin => ?patternWrite, fun s flips first a hport hp hin => ?readBack, compareWord_spec,
    fun policy a o w => ⟨rfl, rfl, fun h => ?single⟩, findings_at, readBackDetections_eq, prepHandle_spec⟩
  case patternWrite => exact atWrite_inMemory .patternWrite s patternWriteDone a hport hp hin
  case readBack =>
    intro r fs ds s1 next
    refine (atRead_inMemory .readBack flips s (readBackDone first) a hport hp hin).trans ?_
    cases first
    · rfl
    · rfl
  case single =>
    simp only [findingDetection, severityOf_eq _ _ h]

/-! ## The end of a pass (R109, R110) -/

theorem passGood_iff (s : State) : s.passGood = true ↔
    s.prep.uncorrectable = 0 ∧ s.prep.corrected.toNat ≤ s.settings.prepCorrectedLimit := by
  simp [State.passGood]

theorem exec_zeroWriteComplete (s : State) : exec .zeroWriteComplete s = atWrite .zeroWrite s zeroWriteDone := rfl

/-- The board control unit takes a zero sweep's report in PREPARING (R72). -/
theorem zeroSweepReport_preparing (s : State) (h : s.ctl.regime = .preparing) :
    zeroSweepReport s = { s with ctl := { s.ctl with memValid := true } } := by
  simp [zeroSweepReport, h]

theorem finishReport_preparing (doubtful : Bool) (s : State) (h : s.ctl.regime = .preparing) : finishReport doubtful s =
    enterReleasing (if doubtful then { s with ctl := { s.ctl with pendingDoubtful := true } } else s) := by
  simp [finishReport, h]

section EndPass

variable (s : State) (hpreparing : s.ctl.regime = .preparing)

include hpreparing

theorem endPass_good (h : s.passGood = true) : endPass s =
    enterReleasing { s with ctl := { s.ctl with memValid := true }, prep := Prep.initial } := by
  unfold endPass
  rw [zeroSweepReport_preparing s hpreparing]
  dsimp only
  exact (if_pos h).trans (finishReport_preparing _ _ hpreparing)

theorem endPass_retry (h : s.passGood = false) (hpass : s.prep.pass < s.settings.prepPasses) : endPass s =
    { s with ctl := { s.ctl with memValid := true }
             prep := { s.prep with activity := .retryWait, retry := .running s.settings.prepRetryDelay } } := by
  unfold endPass
  rw [zeroSweepReport_preparing s hpreparing]
  dsimp only
  exact (if_neg (Bool.eq_false_iff.1 h)).trans (if_pos hpass)

theorem endPass_doubtful (h : s.passGood = false) (hpass : s.settings.prepPasses ≤ s.prep.pass) : endPass s =
    enterReleasing { s with
      ctl := { s.ctl with memValid := true, pendingDoubtful := true }, prep := Prep.initial } := by
  unfold endPass
  rw [zeroSweepReport_preparing s hpreparing]
  dsimp only
  exact (if_neg (Bool.eq_false_iff.1 h)).trans ((if_neg (Nat.not_lt.2 hpass)).trans
    (finishReport_preparing _ _ hpreparing))

end EndPass

theorem settings_clearCarried (a : Access) (s : State) : (clearCarried a s).settings = s.settings := by
  unfold State.settings
  rw [(clearCarried_frame a s).1]

/-- Settles O30: the zero write's completion, the retry, and the access of each step. -/
theorem prepPassEnds : Obligations.PrepPassEnds := by
  refine ⟨fun s a hport hp hin hpreparing => ?zeroWrite, fun s n hretry => ?retry, fun s hretry => ?stopped,
    fun s => ?access⟩
  case zeroWrite =>
    intro s1 s2 good idle
    have hexec : exec .zeroWriteComplete s = .next (zeroWriteDone a s1) :=
      (exec_zeroWriteComplete s).trans (atWrite_inMemory .zeroWrite s zeroWriteDone a hport hp hin)
    have hprep : s1.prep = s.prep := by simp [s1]
    have hregime : s1.ctl.regime = .preparing := by simpa [s1] using hpreparing
    have hsettings : s1.settings = s.settings := settings_clearCarried a _
    have husable : s1.usable = s.usable := by
      unfold State.usable
      rw [hsettings]
    have hgood : s1.passGood = true ↔ good := by rw [passGood_iff, hprep, hsettings]
    have hends (hlast : s.usable ≤ 64 * (s.prep.position + 1)) : zeroWriteDone a s1 = finish (endPass s1) := by
      rw [zeroWriteDone, hprep, husable, if_neg (Nat.not_lt.2 hlast)]
    rw [hexec]
    refine ⟨fun hmore => ?_, fun hlast => ⟨fun h => ?_, fun h hpass => ?_, fun h hpass => ?_⟩⟩
    · rw [zeroWriteDone, hprep, husable, if_pos hmore]
      rfl
    · rw [hends hlast, endPass_good s1 hregime (hgood.2 h)]
      rfl
    · rw [hends hlast, endPass_retry s1 hregime (Bool.eq_false_iff.2 (mt hgood.1 h)) (by rwa [hprep, hsettings]), hprep,
        hsettings]
    · rw [hends hlast, endPass_doubtful s1 hregime (Bool.eq_false_iff.2 (mt hgood.1 h)) (by rwa [hprep, hsettings])]
      rfl
  case retry =>
    show execPrepRetryExpiry s = _
    simp only [execPrepRetryExpiry, hretry]
    rfl
  case stopped =>
    show execPrepRetryExpiry s = _
    unfold execPrepRetryExpiry
    split
    · next n h => exact (hretry n h).elim
    · rfl
  case access =>
    intro g
    refine ⟨fun hactivity => ⟨fun hstep => ?_, fun hstep => ?_, fun hstep => ?_⟩, fun hactivity => ?_⟩
    · simp only [State.prepAccess, if_neg hactivity, hstep, map_made_patternWords]
      rfl
    · simp only [State.prepAccess, if_neg hactivity, hstep]
      rfl
    · simp only [State.prepAccess, if_neg hactivity, hstep, made_zero]
      rfl
    · simp only [State.prepAccess, if_pos hactivity]
      rfl

/-! ## The reads of a CHECK-RANGE (R114 to R116) -/

theorem checkReadDone_discarded (a : Access) (ws : List MemWord) (s : State) (h : a.discarded = true) :
    checkReadDone a ws s = finish (offerFixes (fixesOf s.policyAt a ws)
      (detectAll (detectionsOf .prep s.policyAt a ws) s)) := by
  unfold checkReadDone
  simp only [h, if_true]
  split
  · rfl
  · rfl

/-- Settles O31: an abandoned read, and the range's next group or its end. -/
theorem checkRangeReads : Obligations.CheckRangeReads := by
  have hdiscarded : ∀ (s : State) (flips : List MemWord) (a : Access), s.port = some a → a.purpose = .checkRead →
      s.inMemory a = true → a.discarded = true →
      let r := readWords s.memEpoch flips (s.accessAddress a) a.count s.mem
      exec (.checkRangeReadComplete flips) s = .next (finish (offerFixes (fixesOf s.policyAt a r.1)
        (detectAll (detectionsOf .prep s.policyAt a r.1) { s with port := none, mem := r.2 }))) := by
    intro s flips a hport hp hin hd r
    refine (atRead_inMemory .checkRead flips s checkReadDone a hport hp hin).trans ?_
    rw [checkReadDone_discarded a _ _ hd]
    rfl
  refine ⟨hdiscarded, fun s flips a g hport hp hin hrange => ?_⟩
  intro r s1 g'
  have hexec : exec (.checkRangeReadComplete flips) s =
      .next (checkReadDone a r.1 { s with port := none, mem := r.2 }) :=
    atRead_inMemory .checkRead flips s checkReadDone a hport hp hin
  have hrange1 : s1.prep.range = some g := by simpa [s1] using hrange
  have hposition : s1.prep.position = s.prep.position := by simp [s1]
  have hgoesOn (hd : a.discarded = false) :
      checkReadDone a r.1 { s with port := none, mem := r.2 } = finish (checkAdvance g' s1) := by
    unfold checkReadDone
    simp only [hd, Bool.false_eq_true, if_false]
    change (match s1.prep.range with
      | some x => finish (checkAdvance (x.counted r.1) s1)
      | none => finish s1) = _
    rw [hrange1]
    rfl
  refine ⟨hdiscarded s flips a hport hp hin, fun hd hmore => ?_, fun hd hlast => ?_⟩
  · rw [hexec, hgoesOn hd, checkAdvance, hposition]
    exact congrArg (fun x => Outcome.next (finish x)) (if_pos hmore)
  · rw [hexec, hgoesOn hd, checkAdvance, hposition]
    exact congrArg (fun x => Outcome.next (finish x)) (if_neg (Nat.not_lt.2 hlast))

end Sys2Proof.Machine

/-! SUPPORT. The thermal unit's polls (R89 to R91, R95, R96): the channel polled, the conditions after a poll, and the
channel of a role. -/

namespace Sys2Proof.Machine

open Host (Outcome)

/-! ## One channel -/

theorem channelSettings_of (s : State) (k : Nat) (cfg : ChannelSettings) (h : s.settings.channels[k]? = some cfg) :
    s.channelSettings k = cfg := by
  simp [State.channelSettings, List.getD, h]

theorem channel_setChannel_same (k : Nat) (c : Channel) (s : State) (hk : k < s.thermal.channels.length) :
    (setChannel k c s).channel k = c := by
  simp [State.channel, setChannel, List.getD, hk]

theorem channel_setChannel_other (k j : Nat) (c : Channel) (s : State) (h : j ≠ k) :
    (setChannel k c s).channel j = s.channel j := by
  simp [State.channel, setChannel, List.getD, List.getElem?_set_ne h.symm]

theorem channel_congr {s t : State} (h : t.thermal.channels = s.thermal.channels) (k : Nat) :
    t.channel k = s.channel k := by
  simp [State.channel, h]

theorem validWith_iff (c : Channel) (p : Int → Bool) :
    c.validWith p = true ↔ c.state = .valid ∧ ∃ v, c.reading = some v ∧ p v = true := by
  unfold Channel.validWith
  cases c.state <;> cases c.reading <;> simp

theorem thermalNotice_channels (event : ThermalEvent) (k : Nat) (reading : Option Int) (s : State) :
    (thermalNotice event k reading s).thermal.channels = s.thermal.channels := by
  simp [thermalNotice]

theorem channelReply_channel (k : Nat) (v : Int) (s : State) (j : Nat) : (channelReply k v s).channel j =
    (setChannel k { s.channel k with state := .valid, reading := some v, timeouts := 0 } s).channel j := by
  unfold channelReply
  dsimp only
  split
  · exact channel_congr (thermalNotice_channels ..) j
  · rfl

/-- The end of a poll keeps the other channels, and of its own everything but the arming flag (R95). -/
theorem armHot_channel (k : Nat) (s : State) (j : Nat) : ((armHot k s).channel j).state = (s.channel j).state ∧
    ((armHot k s).channel j).reading = (s.channel j).reading ∧
    ((armHot k s).channel j).timeouts = (s.channel j).timeouts ∧ (j ≠ k → (armHot k s).channel j = s.channel j) := by
  have hset (armed : Bool) : ((setChannel k { s.channel k with hotArmed := armed } s).channel j).state = (s.channel j).state ∧
      ((setChannel k { s.channel k with hotArmed := armed } s).channel j).reading = (s.channel j).reading ∧
      ((setChannel k { s.channel k with hotArmed := armed } s).channel j).timeouts = (s.channel j).timeouts ∧
      (j ≠ k → (setChannel k { s.channel k with hotArmed := armed } s).channel j = s.channel j) := by
    by_cases hj : j = k
    · subst hj
      by_cases hlen : j < s.thermal.channels.length
      · rw [channel_setChannel_same _ _ _ hlen]
        exact ⟨rfl, rfl, rfl, fun h => absurd rfl h⟩
      · have hkept : (setChannel j { s.channel j with hotArmed := armed } s).channel j = s.channel j :=
          channel_congr (List.set_eq_of_length_le (Nat.not_lt.1 hlen)) j
        rw [hkept]
        exact ⟨rfl, rfl, rfl, fun _ => rfl⟩
    · rw [channel_setChannel_other _ _ _ _ hj]
      exact ⟨rfl, rfl, rfl, fun _ => rfl⟩
  unfold armHot
  dsimp only
  split
  · rw [channel_congr (thermalNotice_channels ..) j]
    exact hset false
  · split
    · exact hset true
    · exact ⟨rfl, rfl, rfl, fun _ => rfl⟩

/-! ## The end of a poll (R91) -/

theorem reportSoakFloor_channels (k : Nat) (v : Int) (s : State) :
    (reportSoakFloor k v s).thermal.channels = s.thermal.channels ∧
    (reportSoakFloor k v s).thermal.polling = s.thermal.polling := by
  unfold reportSoakFloor
  split
  · simp
  · exact ⟨rfl, rfl⟩

theorem pollFrom_succ (s : State) (k : Nat) :
    s.pollFrom (k + 1) = (List.range 4).find? fun j => decide (k < j) && s.polled j := rfl

theorem polled_congr {s t : State} (h : t.loader = s.loader) : t.polled = s.polled := by
  funext j
  simp only [State.polled, State.settings, h]

/-- What the end of a poll leaves: the next poll of the round, and every channel's reading as it was. -/
theorem pollEnds_channel (k : Nat) (floor : State → State) (s : State)
    (hfloor : ∀ x, (floor x).thermal.channels = x.thermal.channels ∧ (floor x).thermal.polling = x.thermal.polling) :
    (finish (pollEnds k floor s)).thermal.polling = s.pollFrom (k + 1) ∧
    ∀ j, ((finish (pollEnds k floor s)).channel j).state = (s.channel j).state ∧
      ((finish (pollEnds k floor s)).channel j).reading = (s.channel j).reading ∧
      ((finish (pollEnds k floor s)).channel j).timeouts = (s.channel j).timeouts ∧
      (j ≠ k → (finish (pollEnds k floor s)).channel j = s.channel j) := by
  unfold pollEnds
  dsimp only
  generalize hx : reportResume (reportOverheat (reportReadiness
    { s with thermal := { s.thermal with polling := s.pollFrom (k + 1) } })) = x
  have hchannels : (floor x).thermal.channels = s.thermal.channels := by
    rw [(hfloor x).1, ← hx]
    simp
  have hpolling : (floor x).thermal.polling = s.pollFrom (k + 1) := by
    rw [(hfloor x).2, ← hx]
    simp
  refine ⟨by simpa using hpolling, fun j => ?_⟩
  have hend : (finish (evalHeaters (reportCold (armHot k (floor x))))).channel j = (armHot k (floor x)).channel j :=
    channel_congr (by simp) j
  have harm := armHot_channel k (floor x) j
  rw [channel_congr hchannels j] at harm
  rw [hend]
  exact harm

theorem exec_sensorReply_taken (s : State) (k : Nat) (v : BitVec 16) (h : s.thermal.polling = some k) :
    exec (.sensorReply k v) s = .next (finish (takeReply k v.toInt s)) := by
  show execSensorReply k v s = _
  rw [execSensorReply, if_pos h]

theorem exec_sensorTimeout_taken (s : State) (k : Nat) (h : s.thermal.polling = some k) :
    exec .sensorTimeout s = .next (finish (pollTimesOut k s)) := by
  show execSensorTimeout s = _
  simp only [execSensorTimeout, h]

theorem readingInRange_iff (t : Int) : readingInRange t = true ↔ -110 ≤ t ∧ t ≤ 250 := by
  simp [readingInRange]

/-- A timeout counts, and the third makes the channel FAILED (R91). -/
theorem channelTimeout_channel (k : Nat) (s : State) (hk : k < s.thermal.channels.length) :
    (channelTimeout k s).channel k =
      (if (s.channel k).state = .failed then s.channel k
        else if (s.channel k).timeouts + 1 = 3 then { s.channel k with state := .failed, timeouts := 3 }
        else { s.channel k with timeouts := (s.channel k).timeouts + 1 }) ∧
    ∀ j, j ≠ k → (channelTimeout k s).channel j = s.channel j := by
  unfold channelTimeout
  dsimp only
  split
  · exact ⟨rfl, fun _ _ => rfl⟩
  · split
    · refine ⟨?_, fun j hj => ?_⟩
      · rw [channel_congr (thermalNotice_channels ..) k, channel_setChannel_same _ _ _ hk]
      · rw [channel_congr (thermalNotice_channels ..) j, channel_setChannel_other _ _ _ _ hj]
    · exact ⟨channel_setChannel_same _ _ _ hk, fun j hj => channel_setChannel_other _ _ _ _ hj⟩

theorem channelReply_loader (k : Nat) (v : Int) (s : State) : (channelReply k v s).loader = s.loader := by simp

theorem channelTimeout_loader (k : Nat) (s : State) : (channelTimeout k s).loader = s.loader := by simp

/-! ## The channel of a role (R89) -/

theorem validInRole_iff (s : State) (role : ChannelRole) (k : Nat) : s.validInRole role k = true ↔
    ∃ cfg c, s.settings.channels[k]? = some cfg ∧ s.thermal.channels[k]? = some c ∧ cfg.role = role ∧
      c.state = .valid := by
  unfold State.validInRole
  cases s.settings.channels[k]? <;> cases s.thermal.channels[k]? <;> simp

theorem roleChannel_iff (s : State) (role : ChannelRole) (k : Nat) : s.roleChannel role = some k ↔
    (k < 4 ∧ s.validInRole role k = true) ∧ ∀ j < k, ¬ (j < 4 ∧ s.validInRole role j = true) := by
  rw [State.roleChannel, List.find?_range_eq_some, List.mem_range]
  constructor
  · rintro ⟨hvalid, hk, hfirst⟩
    exact ⟨⟨hk, hvalid⟩, fun j hj hfits => by simpa [hfits.2] using hfirst j hj⟩
  · rintro ⟨⟨hk, hvalid⟩, hfirst⟩
    refine ⟨hvalid, hk, fun j hj => ?_⟩
    have hnot := hfirst j hj
    simpa [show j < 4 by omega] using hnot

/-- Settles O32: the round, a reply, a timeout, the notices, and the conditions by role. -/
theorem polls : Obligations.Polls := by
  refine ⟨fun s n htimer => ?expiry, fun s htimer => ?stopped, fun s k v hpolling hk => ⟨fun hlow hhigh => ?reply,
    fun hout => ?outOfRange, ?timeout⟩, fun s k v hpolling => ?other, fun s hpolling => ?noPoll,
    fun s k v hpolling => ?order, fun s k cfg hcfg => ?notices, fun s => ?cold, fun s role => ?role⟩
  case expiry =>
    show execPollTimerExpiry s = _
    have hround (x : State) : x.pollFrom 0 = (List.range 4).find? x.polled := by simp [State.pollFrom]
    simp only [execPollTimerExpiry, htimer, beginRound, hround]
    rfl
  case stopped =>
    show execPollTimerExpiry s = _
    unfold execPollTimerExpiry
    split
    · next n h => exact (htimer n h).elim
    · rfl
  case reply =>
    obtain ⟨hpoll, hchannel⟩ := pollEnds_channel k (reportSoakFloor k v.toInt) (channelReply k v.toInt s)
      (reportSoakFloor_channels k v.toInt)
    refine ⟨_, exec_sensorReply_taken s k v hpolling, ?_⟩
    rw [takeReply, if_pos ((readingInRange_iff _).2 ⟨hlow, hhigh⟩)]
    obtain ⟨hstate, hreading, htimeouts, -⟩ := hchannel k
    rw [channelReply_channel, channel_setChannel_same _ _ _ hk] at hstate hreading htimeouts
    refine ⟨hstate, hreading, htimeouts, ?_, fun j hj => ?_⟩
    · rw [hpoll, pollFrom_succ, polled_congr (channelReply_loader k v.toInt s)]
    · obtain ⟨-, -, -, hkept⟩ := hchannel j
      rw [hkept hj, channelReply_channel, channel_setChannel_other _ _ _ _ hj]
  case outOfRange =>
    have hrange : ¬ readingInRange v.toInt = true := by
      rw [readingInRange_iff]
      omega
    rw [exec_sensorReply_taken s k v hpolling, exec_sensorTimeout_taken s k hpolling, takeReply, if_neg hrange]
  case timeout =>
    obtain ⟨hpoll, hchannel⟩ := pollEnds_channel k id (channelTimeout k s) fun _ => ⟨rfl, rfl⟩
    obtain ⟨hown, hothers⟩ := channelTimeout_channel k s hk
    refine ⟨_, exec_sensorTimeout_taken s k hpolling, ?_⟩
    change (finish (pollEnds k id (channelTimeout k s))).thermal.polling = _ ∧ _
    obtain ⟨hstate, hreading, htimeouts, -⟩ := hchannel k
    rw [hown] at hstate hreading htimeouts
    refine ⟨?_, fun j hj => ?_, ?_, fun hfailed => ?_, fun hworking hthird => ?_, fun hworking hnotThird => ?_⟩
    · rw [hpoll, pollFrom_succ, polled_congr (channelTimeout_loader k s)]
    · obtain ⟨-, -, -, hkept⟩ := hchannel j
      exact (hkept hj).trans (hothers j hj)
    · refine hreading.trans ?_
      split
      · rfl
      · split <;> rfl
    · rw [if_pos hfailed] at hstate htimeouts
      exact ⟨hstate.trans hfailed, htimeouts⟩
    · rw [if_neg hworking, if_pos hthird] at hstate htimeouts
      exact ⟨hstate, htimeouts⟩
    · rw [if_neg hworking, if_neg hnotThird] at hstate htimeouts
      exact ⟨hstate, htimeouts⟩
  case other =>
    show execSensorReply k v s = _
    rw [execSensorReply, if_neg hpolling]
  case noPoll =>
    show execSensorTimeout s = _
    simp only [execSensorTimeout, hpolling]
  case order =>
    intro evaluated
    refine ⟨fun hlow hhigh => ?_, ?_⟩
    · rw [exec_sensorReply_taken s k v hpolling, takeReply, if_pos ((readingInRange_iff _).2 ⟨hlow, hhigh⟩)]
      rfl
    · rw [exec_sensorTimeout_taken s k hpolling]
      rfl
  case notices =>
    intro c put notice
    have hnotice (event : ThermalEvent) (reading : Option Int) (x : Channel) :
        thermalNotice event k reading (put x) = notice event reading (put x) := by
      have hsettings : (put x).channelSettings k = cfg := channelSettings_of _ k cfg hcfg
      rw [thermalNotice, hsettings]
    refine ⟨fun v => ?_, ?_, fun v hvalid hreading => ⟨fun harmed hwarm => ?_, fun harmed hcool => ?_,
      fun harmed hcool => ?_, fun harmed hwarm => ?_⟩, fun hnot => ?_⟩
    · intro valid
      unfold channelReply
      dsimp only
      exact ite_congr rfl (fun _ => hnotice _ _ _) fun _ => rfl
    · unfold channelTimeout
      dsimp only
      refine ite_congr rfl (fun _ => rfl) fun _ => ite_congr (propext ?_) (fun _ => hnotice _ _ _) fun _ => rfl
      exact ⟨fun h => Nat.succ.inj h, fun h => congrArg Nat.succ h⟩
    all_goals
      have hsettings := channelSettings_of s k cfg hcfg
      unfold armHot
      dsimp only
      rw [hsettings]
    · rw [if_pos]
      · exact (congrArg (fun r => thermalNotice .hot k r _) hreading).trans (hnotice _ _ _)
      · rw [Bool.and_eq_true, validWith_iff]
        exact ⟨harmed, hvalid, v, hreading, by simpa using hwarm⟩
    · rw [if_neg, if_neg]
      · simp [show (s.channel k).hotArmed = true from harmed]
      · rw [Bool.and_eq_true, validWith_iff]
        rintro ⟨-, -, u, hu, hle⟩
        obtain rfl : v = u := Option.some.inj (hreading.symm.trans hu)
        have := of_decide_eq_true hle
        omega
    · rw [if_neg, if_pos]
      · rfl
      · rw [Bool.and_eq_true, validWith_iff]
        exact ⟨by simp [show (s.channel k).hotArmed = false from harmed], hvalid, v, hreading, by simpa using hcool⟩
      · simp [show (s.channel k).hotArmed = false from harmed]
    · rw [if_neg, if_neg]
      · rw [Bool.and_eq_true, validWith_iff]
        rintro ⟨-, -, u, hu, hlt⟩
        obtain rfl : v = u := Option.some.inj (hreading.symm.trans hu)
        have := of_decide_eq_true hlt
        omega
      · simp [show (s.channel k).hotArmed = false from harmed]
    · rw [if_neg, if_neg]
      · rw [Bool.and_eq_true, validWith_iff]
        exact fun h => hnot h.2.1
      · rw [Bool.and_eq_true, validWith_iff]
        exact fun h => hnot h.2.1
  case cold =>
    refine ⟨⟨_, _, rfl⟩, fun h => ?_, fun v h => ?_, fun h => ?_, fun v h => ?_⟩
    · simp only [reportCold, h]
    · simp only [reportCold, h, decide_eq_true_eq]
    · simp only [reportCold, h]
    · simp only [reportCold, h, decide_eq_true_eq]
  case role =>
    intro fits
    have hfits (k : Nat) : fits k ↔ k < 4 ∧ s.validInRole role k = true := and_congr_right fun _ => (validInRole_iff ..).symm
    refine ⟨fun k => ?_, fun k c hk hc => ?_, fun h => ?_⟩
    · simp only [hfits]
      exact roleChannel_iff s role k
    · simp [State.roleReading, hk, State.reading, hc]
    · simp [State.roleReading, h]

end Sys2Proof.Machine

/-! SUPPORT. A change of regime, field by field (R71, R73, R74, R76, R81, R116, R126, R135, R184, R191). -/

namespace Sys2Proof.Machine

open Host (Outcome)

/-- A change of regime that leaves RUNNING. -/
def leaves (new : Regime) (s : State) : Prop := s.ctl.regime = .running ∧ new ≠ .running

/-- A change of regime that loses board power. -/
def loses (new : Regime) (s : State) : Prop := s.ctl.regime.powered = true ∧ new.powered = false

theorem loses_iff (new : Regime) (s : State) : (s.ctl.regime.powered && !new.powered) = true ↔ loses new s := by
  simp [loses]

/-! ## What leaving RUNNING changes -/

theorem leaveRunning_mailbox (s : State) :
    (leaveRunning s).posting = none ∧ (leaveRunning s).queue = (s.queue.filter fun n => !n.body.isKey) ∧
    (leaveRunning s).missed = satAdd s.missed (s.queue.filter fun n => n.body.isKey).length ∧
    (leaveRunning s).engine = { s.engine with
      state := if s.engine.state = .faulted then .faulted else .idle
      faultPending := false, work := .none, waitTimer := .stopped } := by
  refine ⟨rfl, ?_, ?_, ?_⟩ <;> simp [leaveRunning, mailboxLeave]

theorem leaveRunning_watch (s : State) : (leaveRunning s).watch = (watchLeave s).watch := by
  simp [leaveRunning, watchLeave]

theorem leaveRunning_reports (s : State) : (leaveRunning s).watchReports = [] ∧ (leaveRunning s).snoopReports = [] := by
  constructor <;> simp [leaveRunning, reportsLeave]

theorem leaveRunning_prep (s : State) : (leaveRunning s).prep = (checkLeave s).prep ∧
    (leaveRunning s).arbiter.prep = (checkLeave s).arbiter.prep := by
  unfold leaveRunning
  obtain ⟨-, -, hprep, harbiter⟩ := laterBlocks_leave (checkLeave (portLeave (reportsLeave (frontLeave s))))
  rw [hprep, harbiter]
  have hprepKept : (portLeave (reportsLeave (frontLeave s))).prep = s.prep := by simp
  have harbiterKept : (portLeave (reportsLeave (frontLeave s))).arbiter.prep = s.arbiter.prep :=
    (frontLeave_arbiter s).2.1
  by_cases hchecking : s.prep.activity = .checking
  · rw [checkLeave_checking s hchecking, checkLeave_checking _ (by rw [hprepKept]; exact hchecking)]
    exact ⟨rfl, rfl⟩
  · rw [checkLeave_other s hchecking, checkLeave_other _ (by rw [hprepKept]; exact hchecking)]
    exact ⟨hprepKept, harbiterKept⟩

/-! ## The fields after a change of regime -/

section Fields

variable (new : Regime) (s : State)

/-- The control state after a change of regime. -/
theorem changeRegime_ctl : (changeRegime new s).ctl = { regimeTimers new s with
    regime := new, power := new.powered, processorReset := new.resetAsserted
    memValid := if s.ctl.regime.powered && !new.powered then false else s.ctl.memValid
    sessionForced := if new = .running then s.ctl.pendingForced else s.ctl.sessionForced
    sessionDoubtful := if new = .running then s.ctl.pendingDoubtful else s.ctl.sessionDoubtful } := by
  rw [changeRegime_eq]
  simp only [lampUpdate_frame, evalHeaters_frame, scrubNews_frame, beforeScrubNews, prepNews_frame]
  have htimers : regimeTimers new (leaveRunning s) = regimeTimers new s := by
    unfold regimeTimers State.settings
    rw [(leaveRunning_frame s).1, (leaveRunning_frame s).2.1]
  repeat' split
  all_goals simp_all [enterRunning, setRegime, losePower, regimeTimers]

theorem changeRegime_posting : (changeRegime new s).posting =
    if s.ctl.regime = .running ∧ new ≠ .running then none else s.posting := by
  rw [changeRegime_eq]
  simp only [lampUpdate_frame, evalHeaters_frame, scrubNews_frame, beforeScrubNews, prepNews_frame]
  have hleft := (leaveRunning_mailbox s).1
  repeat' split
  all_goals simp_all [setRegime]

theorem changeRegime_missed : (changeRegime new s).missed = if s.ctl.regime = .running ∧ new ≠ .running then
    satAdd s.missed (s.queue.filter fun n => n.body.isKey).length else s.missed := by
  rw [changeRegime_eq]
  simp only [lampUpdate_frame, evalHeaters_frame, scrubNews_frame, beforeScrubNews, prepNews_frame]
  have hleft := (leaveRunning_mailbox s).2.2.1
  repeat' split
  all_goals simp_all [setRegime]

theorem changeRegime_reports :
    (changeRegime new s).watchReports = (if s.ctl.regime = .running ∧ new ≠ .running then [] else s.watchReports) ∧
    (changeRegime new s).snoopReports = (if s.ctl.regime = .running ∧ new ≠ .running then [] else s.snoopReports) := by
  rw [changeRegime_eq]
  simp only [lampUpdate_frame, evalHeaters_frame, scrubNews_frame, beforeScrubNews, prepNews_frame]
  obtain ⟨hwatch, hsnoop⟩ := leaveRunning_reports s
  repeat' split
  all_goals simp_all [setRegime]

theorem changeRegime_watch : (changeRegime new s).watch =
    if new = .running then { s.watch with lastStage := none }
    else if s.ctl.regime = .running then (watchLeave s).watch else s.watch := by
  rw [changeRegime_eq]
  simp only [lampUpdate_frame, evalHeaters_frame, scrubNews_frame, beforeScrubNews, prepNews_frame]
  have hleft := leaveRunning_watch s
  repeat' split
  all_goals simp_all [setRegime, enterRunning]

theorem changeRegime_engine (hnew : new ≠ .preparing) : (changeRegime new s).engine =
    if s.ctl.regime = .running ∧ new ≠ .running then
      { s.engine with
        state := if s.engine.state = .faulted then .faulted else .idle
        faultPending := false, work := .none, waitTimer := .stopped }
    else s.engine := by
  rw [changeRegime_eq]
  simp only [lampUpdate_frame, evalHeaters_frame, scrubNews_frame, beforeScrubNews]
  have hprep (old : Regime) (x : State) : (prepNews old new x).engine = x.engine := by
    unfold prepNews
    rw [if_neg hnew]
    split <;> simp
  rw [hprep]
  have hleft := (leaveRunning_mailbox s).2.2.2
  repeat' split
  all_goals simp_all [setRegime]

theorem changeRegime_clock : (changeRegime new s).clock =
    if new = .running then { s.clock with session := 0, begun := true } else s.clock := by
  rw [changeRegime_eq]
  simp only [lampUpdate_frame, evalHeaters_frame, scrubNews_frame, beforeScrubNews, prepNews_frame]
  repeat' split
  all_goals simp_all [setRegime, enterRunning]

theorem changeRegime_log : (changeRegime new s).log = if new = .running then { s.log with session := 0 } else s.log := by
  rw [changeRegime_eq]
  simp only [lampUpdate_frame, evalHeaters_frame, scrubNews_frame, beforeScrubNews, prepNews_frame]
  repeat' split
  all_goals simp_all [setRegime, enterRunning]

theorem changeRegime_trace_eq : (changeRegime new s).trace = if new = .running then [] else s.trace := by
  rw [changeRegime_eq]
  simp only [lampUpdate_frame, evalHeaters_frame, scrubNews_frame, beforeScrubNews, prepNews_frame]
  repeat' split
  all_goals simp_all [setRegime, enterRunning]

theorem changeRegime_headers : (changeRegime new s).headers =
    if s.ctl.regime.powered && !new.powered then [] else s.headers := by
  rw [changeRegime_eq]
  simp only [lampUpdate_frame, evalHeaters_frame, scrubNews_frame, beforeScrubNews, prepNews_frame]
  repeat' split
  all_goals simp_all [setRegime, losePower]

/-- The front port and the access at the port, with board power kept. -/
theorem changeRegime_front_port (h : ¬ loses new s) :
    (changeRegime new s).front = (if s.ctl.regime = .running ∧ new ≠ .running then (leaveRunning s).front else s.front) ∧
    (changeRegime new s).port = (if s.ctl.regime = .running ∧ new ≠ .running then (leaveRunning s).port else s.port) := by
  rw [← loses_iff] at h
  rw [changeRegime_eq]
  simp only [lampUpdate_frame, evalHeaters_frame, scrubNews_frame, beforeScrubNews, prepNews_frame, if_neg h]
  repeat' split
  all_goals simp_all [setRegime]

end Fields

end Sys2Proof.Machine

/-! SUPPORT. A change of regime at the preparation engine, at the scrubber, at the repair unit and at the heaters (R44,
R45, R64, R73, R97, R98, R112, R116). -/

namespace Sys2Proof.Machine

open Host (Outcome)

/-! ## The preparation engine (R112, R116) -/

section Prep

variable (new : Regime) (s : State)

theorem changeRegime_prep (hnew : new ≠ .preparing) :
    (changeRegime new s).prep = (if s.ctl.regime = .preparing then Prep.initial
      else if s.ctl.regime = .running ∧ new ≠ .running then (checkLeave s).prep else s.prep) ∧
    (changeRegime new s).arbiter.prep = (if s.ctl.regime = .preparing then none
      else if s.ctl.regime = .running ∧ new ≠ .running then (checkLeave s).arbiter.prep else s.arbiter.prep) := by
  rw [changeRegime_eq]
  simp only [lampUpdate_frame, evalHeaters_frame, scrubNews_frame, beforeScrubNews]
  rw [(scrubNews_arbiter _).1]
  obtain ⟨hprep, harbiter⟩ := leaveRunning_prep s
  unfold prepNews
  rw [if_neg hnew]
  by_cases hold : s.ctl.regime = .preparing
  · simp [hold, prepAbandon, withdraw, Arbiter.set]
  · simp only [hold, if_false]
    repeat' split
    all_goals simp_all [setRegime, losePower, scrubPowerOff, repairPowerOff, withdraw, Arbiter.set]

/-- Leaving PREPARING, or RUNNING with a CHECK-RANGE under way, leaves the engine IDLE. -/
theorem changeRegime_prepAbandoned (hnew : new ≠ .preparing)
    (h : s.ctl.regime = .preparing ∨ (leaves new s ∧ s.prep.activity = .checking)) :
    (changeRegime new s).prep = Prep.initial ∧ (changeRegime new s).arbiter.prep = none := by
  obtain ⟨hprep, harbiter⟩ := changeRegime_prep new s hnew
  rw [hprep, harbiter]
  obtain hold | ⟨⟨hrun, hleft⟩, hchecking⟩ := h
  · rw [if_pos hold, if_pos hold]
    exact ⟨rfl, rfl⟩
  · rw [checkLeave_checking s hchecking]
    simp [hrun, hleft, prepAbandon, withdraw, Arbiter.set]

/-- Any other change leaves the engine as it is, unless a pass begins. -/
theorem changeRegime_prepKept (hnew : new ≠ .preparing) (hold : s.ctl.regime ≠ .preparing)
    (h : s.prep.activity ≠ .checking) :
    (changeRegime new s).prep = s.prep ∧ (changeRegime new s).arbiter.prep = s.arbiter.prep := by
  obtain ⟨hprep, harbiter⟩ := changeRegime_prep new s hnew
  rw [hprep, harbiter, checkLeave_other s h]
  simp [hold]

end Prep

/-! ## The loss of board power (R45, R64, R73) -/

section Lost

variable (new : Regime) (s : State) (h : loses new s)

include h

theorem changeRegime_lost : (changeRegime new s).scrub = { s.scrub with
      activity := .paused, fixList := [], position := 0, due := false, timer := .stopped, inHand := none } ∧
    (changeRegime new s).repair = { s.repair with
      migration := none, reservation := none, requests := []
      abandoned := if s.repair.migration.isSome then satInc s.repair.abandoned else s.repair.abandoned } ∧
    (changeRegime new s).arbiter.scrub = none ∧ (changeRegime new s).arbiter.repair = none ∧
    (changeRegime new s).arbiter.front = none ∧ (changeRegime new s).arbiter.mailbox = none ∧
    (changeRegime new s).ctl.memValid = false ∧ (changeRegime new s).mem = [] ∧ (changeRegime new s).port = none ∧
    (changeRegime new s).front = none ∧ (changeRegime new s).headers = [] := by
  have hbefore := beforeScrubNews_lost new s h
  obtain ⟨hscrub, -, -, -, -, -, hvalid, -⟩ := beforeScrubNews_lost new s h
  have hnews := scrubNews_of_paused (beforeScrubNews new s) (by rw [hscrub]) hvalid
  rw [changeRegime_eq, hnews]
  simpa only [lampUpdate_frame, evalHeaters_frame] using hbefore

end Lost

/-! ## The scrubber's news with board power kept (R44) -/

section News

variable (s : State)

theorem scrubNews_starts (hruns : s.scrubRuns = true) (hpaused : s.scrub.activity = .paused) : scrubNews s =
    chooseWork { s with scrub := { s.scrub with due := false, timer := .running s.scrubLength, inHand := none } } := by
  simp only [scrubNews, hruns, if_true, hpaused]

theorem scrubNews_cancels (hruns : s.scrubRuns = true)
    (hgranted : s.scrub.activity = .fixPair ∨ s.scrub.activity = .sweepRead) (hstopped : s.scrub.timer = .stopped) :
    scrubNews s = { s with scrub := { s.scrub with timer := .running s.scrubLength } } := by
  obtain hactivity | hactivity := hgranted <;> simp only [scrubNews, hruns, if_true, hactivity, hstopped]

theorem scrubNews_goesOn (hruns : s.scrubRuns = true) (hactive : s.scrub.activity ≠ .paused)
    (h : ¬ (s.scrub.activity = .fixPair ∨ s.scrub.activity = .sweepRead) ∨ s.scrub.timer ≠ .stopped) :
    scrubNews s = s := by
  rw [scrubNews, if_pos hruns]
  split
  · contradiction
  · next hactivity =>
    rw [if_neg]
    exact h.resolve_left fun hnot => hnot (.inl hactivity)
  · next hactivity =>
    rw [if_neg]
    exact h.resolve_left fun hnot => hnot (.inr hactivity)
  · rfl

theorem scrubNews_stays (hstops : s.scrubRuns = false) (hpaused : s.scrub.activity = .paused) : scrubNews s = s := by
  simp only [scrubNews, hstops, Bool.false_eq_true, if_false, hpaused]

theorem scrubNews_pauses (hstops : s.scrubRuns = false)
    (hgranted : s.scrub.activity = .fixPair ∨ s.scrub.activity = .sweepRead) :
    scrubNews s = { s with scrub := { s.scrub with timer := .stopped, due := false } } := by
  obtain hactivity | hactivity := hgranted <;>
    simp only [scrubNews, hstops, Bool.false_eq_true, if_false, hactivity]

theorem scrubNews_drops (hstops : s.scrubRuns = false) (hactive : s.scrub.activity ≠ .paused)
    (hwaiting : ¬ (s.scrub.activity = .fixPair ∨ s.scrub.activity = .sweepRead)) :
    scrubNews s = withdraw .scrub { s with scrub := { s.scrub with
      timer := .stopped, due := false, inHand := none, activity := .paused } } := by
  rw [scrubNews, if_neg (by simp [hstops])]
  split
  · contradiction
  · next hactivity => exact (hwaiting (.inl hactivity)).elim
  · next hactivity => exact (hwaiting (.inr hactivity)).elim
  · rfl

end News

/-- With board power kept, the scrubber and its request are what its news makes of them, from a state that agrees with
the one before the change in all the scrubber looks at. -/
theorem changeRegime_scrub (new : Regime) (s : State) (h : ¬ loses new s) :
    ∃ b : State, b.scrub = s.scrub ∧ b.repair = s.repair ∧ b.arbiter.scrub = s.arbiter.scrub ∧ b.windows = s.windows ∧
      b.loader = s.loader ∧ (b.scrubRuns = true ↔ s.ctl.memValid = true ∧ (new = .running ∨ new = .restarting)) ∧
      (changeRegime new s).scrub = (scrubNews b).scrub ∧
      (changeRegime new s).arbiter.scrub = (scrubNews b).arbiter.scrub := by
  obtain ⟨hscrub, hrepair, harbiter, -, hwindows, hloader, hvalid, hregime⟩ := beforeScrubNews_kept new s h
  refine ⟨beforeScrubNews new s, hscrub, hrepair, harbiter, hwindows, hloader, ?_, ?_, ?_⟩
  · rw [scrubRuns_iff, hvalid, hregime]
  · rw [changeRegime_eq]
    simp only [lampUpdate_frame, evalHeaters_frame]
  · rw [changeRegime_eq]
    simp only [lampUpdate_frame, evalHeaters_frame]

/-- With board power kept, the repair unit and its request stay (R65). -/
theorem changeRegime_repairKept (new : Regime) (s : State) (h : ¬ loses new s) :
    (changeRegime new s).repair = s.repair ∧ (changeRegime new s).arbiter.repair = s.arbiter.repair := by
  obtain ⟨-, hrepair, -, harbiter, -⟩ := beforeScrubNews_kept new s h
  rw [changeRegime_eq]
  simp only [lampUpdate_frame, evalHeaters_frame, scrubNews_frame]
  rw [(scrubNews_arbiter _).2.2.2]
  exact ⟨hrepair, harbiter⟩

theorem scrubLength_congr {s t : State} (hscrub : t.scrub = s.scrub) (hloader : t.loader = s.loader) :
    t.scrubLength = if s.scrub.cold then s.settings.scrubInterval / 4 else s.settings.scrubInterval := by
  unfold State.scrubLength State.settings
  rw [hscrub, hloader]

/-! ## The heaters (R97 to R99) -/

theorem admitTwo_off (room draw1 draw2 : Nat) : admitTwo room false draw1 false draw2 = (false, false) := by
  simp [admitTwo]

/-- In OVERHEAT both heaters are off. -/
theorem evalHeaters_overheat (s : State) (h : s.ctl.regime = .overheat) :
    (evalHeaters s).thermal.boardOutput = false ∧ (evalHeaters s).thermal.panelOutput = false := by
  have hboard : (evalDemands s).thermal.boardDemand = false := by
    simp [evalDemands, State.boardDemandNow, h, Regime.coldStart]
  have hpanel : (evalDemands s).thermal.panelDemand = false := by
    simp [evalDemands, State.panelDemandNow, h]
  have hadmission (counted : Bool) : (evalDemands s).admission counted = (false, false) := by
    unfold State.admission
    rw [hboard, hpanel]
    simp [admitTwo_off]
  simp [evalHeaters, admitHeaters, hadmission]

theorem changeRegime_overheat_heaters (s : State) : (changeRegime .overheat s).thermal.boardOutput = false ∧
    (changeRegime .overheat s).thermal.panelOutput = false := by
  have hregime : (scrubNews (beforeScrubNews .overheat s)).ctl.regime = .overheat := by
    have h := changeRegime_regime .overheat s
    rw [changeRegime_eq] at h
    simpa using h
  rw [changeRegime_eq]
  simp only [lampUpdate_frame]
  exact evalHeaters_overheat _ hregime

end Sys2Proof.Machine

/-! SUPPORT. The thermal conditions and what the board control unit does with the reports (R77, R78, R83, R84, R92 to
R94), and the heaters (R97 to R99). -/

namespace Sys2Proof.Machine

open Host (Outcome)

/-! ## The conditions (R92 to R94) -/

theorem overheatNow_iff (s : State) : s.overheatNow = true ↔ ∃ x ∈ s.channelPairs, x.2.state = .valid ∧
    ∃ v, x.2.reading = some v ∧ x.1.critical ≤ v := by
  simp only [State.overheatNow, List.any_eq_true, validWith_iff, decide_eq_true_eq]

theorem resumeNow_iff (s : State) : s.resumeNow = true ↔ (∃ x ∈ s.channelPairs, x.2.state = .valid) ∧
    ∀ x ∈ s.channelPairs, x.2.state = .valid → ∃ v, x.2.reading = some v ∧ v ≤ x.1.resume := by
  have hentry (x : ChannelSettings × Channel) :
      (decide (x.2.state ≠ .valid) || x.2.validWith fun t => decide (t ≤ x.1.resume)) = true ↔
        (x.2.state = .valid → ∃ v, x.2.reading = some v ∧ v ≤ x.1.resume) := by
    rw [Bool.or_eq_true, validWith_iff]
    by_cases h : x.2.state = .valid <;> simp [h]
  simp only [State.resumeNow, Bool.and_eq_true, List.any_eq_true, List.all_eq_true, decide_eq_true_eq, hentry]

theorem counts_iff (c : ChannelSettings) : c.counts = true ↔ c.role = .board ∨ c.role = .memory := by
  simp [ChannelSettings.counts]

theorem readinessNow_iff (s : State) : s.readinessNow = true ↔
    (∃ x ∈ s.channelPairs, (x.1.role = .board ∨ x.1.role = .memory) ∧ x.2.state = .valid) ∧
      ∀ x ∈ s.channelPairs, (x.1.role = .board ∨ x.1.role = .memory) → x.2.state ≠ .failed →
        x.2.state = .valid ∧ ∃ v, x.2.reading = some v ∧ x.1.release ≤ v := by
  have hentry (x : ChannelSettings × Channel) :
      (!x.1.counts || decide (x.2.state = .failed) || x.2.validWith fun t => decide (x.1.release ≤ t)) = true ↔
        ((x.1.role = .board ∨ x.1.role = .memory) → x.2.state ≠ .failed →
          x.2.state = .valid ∧ ∃ v, x.2.reading = some v ∧ x.1.release ≤ v) := by
    rw [Bool.or_eq_true, Bool.or_eq_true, validWith_iff, ← counts_iff]
    by_cases hcounts : x.1.counts = true
    · by_cases hfailed : x.2.state = .failed <;> simp [hcounts, hfailed]
    · simp [hcounts]
  simp only [State.readinessNow, Bool.and_eq_true, List.any_eq_true, List.all_eq_true, decide_eq_true_eq, counts_iff,
    hentry]

/-! ## Entry into HEATING (R76) -/

/-- The control state at an entry into HEATING that is no broken soak. -/
theorem enterHeating_cold (s : State) (hsoak : s.ctl.regime ≠ .soaking) :
    (enterHeating s).ctl.regime = (if s.thermal.readiness then .soaking else .heating) ∧
    (enterHeating s).ctl.pendingForced = false ∧ (enterHeating s).ctl.pendingDoubtful = false ∧
    (enterHeating s).ctl.power = false ∧ (enterHeating s).ctl.processorReset = true ∧
    (enterHeating s).ctl.off = .stopped ∧
    (enterHeating s).ctl.heatLimit =
      (if s.thermal.readiness then .held s.settings.heatLimit else .running s.settings.heatLimit) := by
  have hheat : (changeRegime .heating s).ctl.heatLimit = .running s.settings.heatLimit := by
    rw [changeRegime_ctl]
    simp only [regimeTimers]
    split
    · contradiction
    · contradiction
    · rfl
  have hreadiness : (changeRegime .heating s).thermal.readiness = s.thermal.readiness := by simp
  unfold enterHeating
  simp only [hsoak, decide_false, Bool.false_eq_true, if_false, hreadiness]
  cases s.thermal.readiness with
  | false =>
    simp only [Bool.false_eq_true, if_false]
    refine ⟨changeRegime_regime _ _, trivial, trivial, changeRegime_power _ _, changeRegime_processorReset _ _, ?_, hheat⟩
    rw [changeRegime_ctl]
    rfl
  | true =>
    simp only [if_true]
    refine ⟨changeRegime_regime _ _, by simp, by simp, changeRegime_power _ _, changeRegime_processorReset _ _, ?_, ?_⟩
    · rw [changeRegime_ctl]
      rfl
    · rw [changeRegime_ctl]
      simp only [regimeTimers, hheat]

/-- A broken soak without readiness goes back to HEATING, its flags as they were (R78). -/
theorem enterHeating_broken (s : State) (hsoak : s.ctl.regime = .soaking) (hready : s.thermal.readiness = false) :
    enterHeating s = changeRegime .heating s := by
  have hreadiness : (changeRegime .heating s).thermal.readiness = false := by simp [hready]
  unfold enterHeating
  simp only [hsoak, decide_true, if_true, hreadiness, Bool.false_eq_true, if_false]

/-! ## The overheat (R83) -/

/-- The state in which an overheat changes the regime: with its THERMAL record in RUNNING and RESTARTING. -/
def overheatRecorded (s : State) : State :=
  if s.ctl.regime = .running ∨ s.ctl.regime = .restarting then appendRecord .thermal none .thermal s else s

theorem overheatRecorded_eq (s : State) : overheatRecorded s =
    { s with restarts := (overheatRecorded s).restarts, trace := (overheatRecorded s).trace } := by
  unfold overheatRecorded
  split
  · rfl
  · rfl

theorem takeOverheat_inert (s : State)
    (h : s.ctl.regime = .loading ∨ s.ctl.regime = .halted ∨ s.ctl.regime = .overheat) : takeOverheat s = s := by
  obtain h | h | h := h <;> simp [takeOverheat, h]

theorem takeOverheat_acts (s : State)
    (h : ¬ (s.ctl.regime = .loading ∨ s.ctl.regime = .halted ∨ s.ctl.regime = .overheat)) :
    takeOverheat s = changeRegime .overheat (overheatRecorded s) := by
  unfold takeOverheat overheatRecorded
  cases hregime : s.ctl.regime <;> simp_all

theorem overheatRecorded_restarts (s : State) :
    (s.ctl.regime = .running ∨ s.ctl.regime = .restarting → (overheatRecorded s).restarts = { s.restarts with
      history := (s.restarts.history.map fun x => { x with trace := none }).drop
          ((s.restarts.history.map fun x => { x with trace := none }).length - 7) ++
        [{ number := satInc s.restarts.total, cause := .thermal, requested := none, kind := .thermal,
           uptime := s.clock.uptime, session := s.clock.session, lastStage := s.watch.lastStage,
           warnings := s.dog.warnings, uncorrectable := s.log.session, hits := s.watch.hits, trace := some s.trace }]
      total := satInc s.restarts.total } ∧ (overheatRecorded s).trace = []) ∧
    (¬ (s.ctl.regime = .running ∨ s.ctl.regime = .restarting) →
      (overheatRecorded s).restarts = s.restarts ∧ (overheatRecorded s).trace = s.trace) := by
  unfold overheatRecorded
  refine ⟨fun h => ?_, fun h => ?_⟩
  · rw [if_pos h]
    exact ⟨rfl, rfl⟩
  · rw [if_neg h]
    exact ⟨rfl, rfl⟩

/-- The entries that leaving RUNNING keeps (R126). -/
theorem watchLeave_entries (s : State) (k : Nat) : (watchLeave s).watch.entries[k]? =
    (s.watch.entries[k]?).map fun entry => entry.bind fun e => if e.persistence = .session then none else some e := by
  simp only [watchLeave, List.getElem?_map]
  congr 1
  funext entry
  cases entry with
  | none => rfl
  | some e => simp [isSession]

end Sys2Proof.Machine

/-! SUPPORT. The overheat, the heater demands and their admission (R83, R97 to R99). -/

namespace Sys2Proof.Machine

open Host (Outcome)

/-! ## The demands and the admission (R97 to R99) -/

theorem boardChannel_iff (s : State) (k : Nat) : s.boardChannel = some k ↔ s.roleChannel .board = some k ∨
    (s.roleChannel .board = none ∧ s.roleChannel .memory = some k) := by
  unfold State.boardChannel
  cases s.roleChannel .board <;> simp

theorem coldStart_iff (r : Regime) : r.coldStart = true ↔
    r = .heating ∨ r = .soaking ∨ r = .preparing ∨ r = .releasing := by
  cases r <;> simp [Regime.coldStart]

theorem followDemand_spec (target v : Int) (was : Bool) :
    (target ≤ v → followDemand target v was = false) ∧ (v ≤ target - 2 → followDemand target v was = true) ∧
    (target - 2 < v → v < target → followDemand target v was = was) := by
  refine ⟨fun h => if_pos h, fun h => ?_, fun hlow hhigh => ?_⟩
  · rw [followDemand, if_neg (by omega), if_pos h]
  · rw [followDemand, if_neg (by omega), if_neg (by omega)]

theorem heaterTarget_of (s : State) (k : Nat) (cfg : ChannelSettings) (h : s.settings.channels[k]? = some cfg) :
    s.heaterTarget k = cfg.target := by
  simp [State.heaterTarget, h]

theorem boardDemandNow_cold (s : State) (hcold : s.ctl.regime.coldStart = true) :
    (∀ k v, s.boardChannel = some k → s.reading k = some v →
      s.boardDemandNow = followDemand (s.heaterTarget k) v s.thermal.boardDemand) ∧
    (s.boardChannel = none → s.boardDemandNow = true) := by
  refine ⟨fun k v hk hv => ?_, fun h => ?_⟩
  · simp only [State.boardDemandNow, hcold, if_true, hk, hv]
  · simp only [State.boardDemandNow, hcold, if_true, h]

theorem boardDemandNow_warm (s : State) (hwarm : s.ctl.regime = .running ∨ s.ctl.regime = .restarting) :
    (∀ k v, s.boardChannel = some k → s.reading k = some v →
      s.boardDemandNow = followDemand s.settings.maintainTemp v s.thermal.boardDemand) ∧
    (s.boardChannel = none → s.boardDemandNow = false) := by
  have hcold : s.ctl.regime.coldStart = false := by obtain h | h := hwarm <;> rw [h] <;> rfl
  refine ⟨fun k v hk hv => ?_, fun h => ?_⟩
  · simp only [State.boardDemandNow, hcold, Bool.false_eq_true, if_false, hwarm, if_true, hk, hv]
  · simp only [State.boardDemandNow, hcold, Bool.false_eq_true, if_false, hwarm, if_true, h]

theorem evalHeaters_demands (s : State) : (evalHeaters s).thermal.boardDemand = s.boardDemandNow ∧
    (evalHeaters s).thermal.panelDemand = s.panelDemandNow := by
  simp [evalHeaters, evalDemands]

theorem admitTwo_spec (room draw1 draw2 : Nat) (demand1 demand2 : Bool) :
    ((admitTwo room demand1 draw1 demand2 draw2).1 = true ↔ demand1 = true ∧ draw1 ≤ room) ∧
    ((admitTwo room demand1 draw1 demand2 draw2).2 = true ↔ demand2 = true ∧
      draw2 ≤ if (admitTwo room demand1 draw1 demand2 draw2).1 then room - draw1 else room) := by
  simp [admitTwo]

/-! ## The report of an overheat (R83) -/

/-- What an overheat changes outside its restart record. -/
theorem changeRegime_overheat (s : State) :
    let t := changeRegime .overheat s
    t.ctl.regime = .overheat ∧ t.ctl.power = false ∧ t.ctl.processorReset = true ∧ t.ctl.heatLimit = .stopped ∧
    t.ctl.soak = .stopped ∧ t.ctl.off = .stopped ∧ t.ctl.pulse = .stopped ∧ t.windows = s.windows ∧
    t.thermal.boardOutput = false ∧ t.thermal.panelOutput = false := by
  refine ⟨changeRegime_regime _ _, changeRegime_power _ _, changeRegime_processorReset _ _, ?_, ?_, ?_, ?_, by simp,
    changeRegime_overheat_heaters s⟩
  all_goals
    rw [changeRegime_ctl]
    rfl

/-- What the blocks outside the memory path do when RUNNING is left for a regime that begins no pass. -/
theorem changeRegime_left (new : Regime) (s : State) (hleaves : leaves new s) (hnew : new ≠ .preparing) :
    let t := changeRegime new s
    t.posting = none ∧ t.queue = (s.queue.filter fun n => decide (n.body.isKey = false)) ∧
    t.missed = satAdd s.missed (s.queue.filter fun n => n.body.isKey).length ∧
    t.engine = { s.engine with
      state := if s.engine.state = .faulted then .faulted else .idle
      faultPending := false, work := .none, waitTimer := .stopped } ∧
    t.watchReports = [] ∧ t.snoopReports = [] ∧ t.dog.state = .suspended ∧ t.dog.timer = .stopped ∧
    t.watch = (watchLeave s).watch := by
  have hleft : s.ctl.regime = .running ∧ new ≠ .running := hleaves
  obtain ⟨hwatch, hsnoop⟩ := changeRegime_reports new s
  have hdog : (changeRegime new s).dog = (dogLeave s).dog := by
    rw [changeRegime_dog, if_neg hleaves.2, if_pos hleft.1]
  refine ⟨?_, ?_, ?_, ?_, ?_, ?_, by rw [hdog]; rfl, by rw [hdog]; rfl, ?_⟩
  · rw [changeRegime_posting, if_pos hleft]
  · rw [changeRegime_queue, if_pos hleft]
    exact List.filter_congr fun n _ => by cases n.body.isKey <;> rfl
  · rw [changeRegime_missed, if_pos hleft]
  · rw [changeRegime_engine new s hnew, if_pos hleft]
  · rw [hwatch, if_pos hleft]
  · rw [hsnoop, if_pos hleft]
  · rw [changeRegime_watch, if_neg hleaves.2, if_pos hleft.1]

/-- Settles O33: each condition, each report, and the heaters. -/
theorem overheatExcludesResume : Obligations.OverheatExcludesResume := by
  refine ⟨overheatNow_iff, resumeNow_iff, fun s h => ?excludes, fun s => ⟨rfl, readinessNow_iff s⟩, fun s => ?readiness,
    fun s => ?overheat, fun s => ?resume, fun s k v cfg hcfg => ?floor, fun s => ?demands, fun s counted => ?admission,
    fun s n hsoak hregime => ?soak⟩
  case excludes =>
    rintro ⟨hover, hresume⟩
    obtain ⟨x, hx, hvalid, v, hv, hcritical⟩ := (overheatNow_iff s).1 hover
    obtain ⟨-, hall⟩ := (resumeNow_iff s).1 hresume
    obtain ⟨u, hu, hle⟩ := hall x hx hvalid
    obtain rfl : v = u := Option.some.inj (hv.symm.trans hu)
    have := h x hx hvalid
    omega
  case readiness =>
    intro told
    refine ⟨fun hsame => ?_, fun hchanged hready hheating => ?_, fun hchanged hstays => ?_⟩
    · rw [reportReadiness, if_pos hsame]
    · have ht : reportReadiness s = changeRegime .soaking told := by
        rw [reportReadiness, if_neg hchanged]
        exact if_pos (by simp [hready, hheating])
      rw [ht]
      refine ⟨changeRegime_regime _ _, ?_, by simp [told, hready], by simp [told], fun n hn => ?_⟩
      · rw [changeRegime_ctl]
        rfl
      · rw [changeRegime_ctl]
        simp only [regimeTimers, told, hn]
    · rw [reportReadiness, if_neg hchanged]
      refine if_neg ?_
      simpa using hstays
  case overheat =>
    intro inert records older r t
    refine ⟨fun h => ?_, fun hover hacts => ?_⟩
    · obtain hcool | hinert := h
      · simp only [t, reportOverheat, hcool, Bool.false_eq_true, if_false]
      · simp only [t, reportOverheat, takeOverheat_inert s hinert, ite_self]
    have ht : t = changeRegime .overheat (overheatRecorded s) := by
      simp only [t, reportOverheat, hover, if_true]
      exact takeOverheat_acts s hacts
    have hu := overheatRecorded_eq s
    obtain ⟨hrecords, hnoRecord⟩ := overheatRecorded_restarts s
    generalize overheatRecorded s = u at ht hu hrecords hnoRecord
    have hregime : u.ctl.regime = s.ctl.regime := by rw [hu]
    obtain ⟨hto, hpower, hreset, hheat, hsoak, hoff, hpulse, hwindows, hboard, hpanel⟩ := changeRegime_overheat u
    rw [ht]
    refine ⟨hto, hpower, hreset, hheat, hsoak, hoff, hpulse, by rw [hwindows, hu], hboard, hpanel, fun hpowered => ?_,
      fun hprep => ?_, fun hrun => ?_, fun hrec => ?_, fun hrec => ?_⟩
    · have hlost : loses .overheat u := ⟨by rw [hregime]; exact hpowered, rfl⟩
      obtain ⟨hscrub, hrepair, hascrub, harepair, hafront, hamailbox, hvalid, hmem, hport, hfront, hheaders⟩ :=
        changeRegime_lost .overheat u hlost
      refine ⟨hvalid, hmem, hport, hfront, hheaders, hafront, hamailbox, harepair, hascrub, ?_, ?_⟩
      · rw [hscrub, hu]
      · rw [hrepair, hu]
    · have habandoned := changeRegime_prepAbandoned .overheat u (by decide) (by
        rw [leaves, hregime]
        obtain hold | ⟨hrun, hchecking⟩ := hprep
        · exact .inl hold
        · exact .inr ⟨⟨hrun, by decide⟩, by rw [hu]; exact hchecking⟩)
      exact ⟨habandoned.2, habandoned.1⟩
    · have hleaves : leaves .overheat u := ⟨by rw [hregime]; exact hrun, by decide⟩
      obtain ⟨hposting, hqueue, hmissed, hengine, hreports, hsnoops, hdog, -, hwatch⟩ :=
        changeRegime_left .overheat u hleaves (by decide)
      refine ⟨hposting, by rw [hqueue, hu], by rw [hmissed, hu], by rw [hengine, hu], hreports, hsnoops, hdog,
        by rw [hwatch]; rfl, fun k => ?_⟩
      rw [hwatch, watchLeave_entries, hu]
    · obtain ⟨hrestarts, -⟩ := hrecords hrec
      refine ⟨?_, ?_⟩
      · rw [(changeRegime_frame _ _).2.1, hrestarts]
      · rw [changeRegime_trace_eq, if_neg (by decide), (hrecords hrec).2]
    · obtain ⟨hrestarts, htrace⟩ := hnoRecord hrec
      refine ⟨?_, ?_⟩
      · rw [(changeRegime_frame _ _).2.1, hrestarts]
      · rw [changeRegime_trace_eq, if_neg (by decide), htrace]
  case resume =>
    intro t
    refine ⟨fun h => ?_, fun hresume hregime => ?_⟩
    · have hstays : (s.resumeNow && decide (s.ctl.regime = .overheat)) = false := by
        obtain h | h := h <;> simp [h]
      simp only [t, reportResume, hstays, Bool.false_eq_true, if_false]
    · have ht : t = enterHeating s := by simp [t, reportResume, hresume, hregime]
      obtain ⟨hto, hforced, hdoubtful, hpower, -, -, hheat⟩ := enterHeating_cold s (by simp [hregime])
      rw [ht]
      exact ⟨hto, hforced, hdoubtful, hpower, hheat⟩
  case floor =>
    intro t breaks
    have hsettings := channelSettings_of s k cfg hcfg
    have hbreaks : ((s.channelSettings k).counts &&
        decide (v < (s.channelSettings k).release - s.settings.releaseHyst) && decide (s.ctl.regime = .soaking) &&
          !s.ctl.pendingForced) = true ↔ breaks := by
      rw [hsettings]
      simp only [Bool.and_eq_true, counts_iff, decide_eq_true_eq, Bool.not_eq_true', breaks, and_assoc]
    refine ⟨fun h => ?_, fun h hready => ?_⟩
    · exact if_neg (mt hbreaks.1 h)
    · have hall := h
      obtain ⟨-, -, hsoaking, hforced⟩ := hall
      have ht : t = changeRegime .heating s :=
        (if_pos (hbreaks.2 h)).trans (enterHeating_broken s hsoaking hready)
      rw [ht]
      refine ⟨changeRegime_regime _ _, ?_, by simp [hforced], by simp, fun n hn => ?_⟩
      · rw [changeRegime_ctl]
        rfl
      · rw [changeRegime_ctl]
        simp only [regimeTimers, hsoaking, hn]
  case demands =>
    intro t r cold warm follows board
    obtain ⟨hboard, hpanel⟩ := evalHeaters_demands s
    have hcold : cold ↔ s.ctl.regime.coldStart = true := (coldStart_iff _).symm
    refine ⟨fun k v cfg hk hv hcfg => ⟨fun h => ?_, fun h => ?_⟩, fun hnone => ?_, fun hnotCold hnotWarm => ?_, fun h => ?_,
      fun k v cfg hloading hoverheat hk hv hcfg => ?_, ?_⟩
    · rw [hboard, (boardDemandNow_cold s (hcold.1 h)).1 k v ((boardChannel_iff s k).2 hk) hv, heaterTarget_of s k cfg hcfg]
      exact followDemand_spec _ _ _
    · rw [hboard, (boardDemandNow_warm s h).1 k v ((boardChannel_iff s k).2 hk) hv]
      exact followDemand_spec _ _ _
    · have hchannel : s.boardChannel = none :=
        Option.eq_none_iff_forall_ne_some.2 fun k hk => hnone k ((boardChannel_iff s k).1 hk)
      rw [hboard]
      exact ⟨fun h => (boardDemandNow_cold s (hcold.1 h)).2 hchannel, fun h => (boardDemandNow_warm s h).2 hchannel⟩
    · rw [hboard]
      simp only [State.boardDemandNow, if_neg (mt hcold.2 hnotCold)]
      exact if_neg hnotWarm
    · rw [hpanel]
      unfold State.panelDemandNow
      split
      · rfl
      · next hother =>
        have hchannel : s.roleChannel .panel = none := by
          obtain h | h | h := h
          · exact (hother (.inl h)).elim
          · exact (hother (.inr h)).elim
          · exact h
        rw [hchannel]
    · rw [hpanel]
      simp only [State.panelDemandNow, hk, hv, heaterTarget_of s k cfg hcfg]
      rw [if_neg (show ¬(s.ctl.regime = .loading ∨ s.ctl.regime = .overheat) from not_or.2 ⟨hloading, hoverheat⟩)]
      exact followDemand_spec _ _ _
    · rw [hboard, hpanel]
      rfl
  case admission =>
    intro t room r boardFirst left
    have hcold : boardFirst ↔ s.ctl.regime.coldStart = true := (coldStart_iff _).symm
    refine ⟨rfl, fun h => ?_, fun h => ?_⟩
    · have hadmission : s.admission counted = admitTwo room s.thermal.boardDemand s.settings.boardHeaterDraw
          s.thermal.panelDemand s.settings.panelHeaterDraw := by
        simp only [State.admission, hcold.1 h, if_true, room]
      simp only [t, admitHeaters, hadmission, left]
      exact admitTwo_spec _ _ _ _ _
    · have hadmission : s.admission counted = (admitTwo room s.thermal.panelDemand s.settings.panelHeaterDraw
          s.thermal.boardDemand s.settings.boardHeaterDraw).swap := by
        simp only [State.admission, if_neg (mt hcold.2 h), room]
      simp only [t, admitHeaters, hadmission, left, Prod.fst_swap, Prod.snd_swap]
      exact admitTwo_spec _ _ _ _ _
  case soak =>
    show execSoakTimerExpiry s = _
    rw [execSoakTimerExpiry, if_pos ⟨by rw [hsoak]; rfl, hregime⟩]

end Sys2Proof.Machine

/-! PROOFS. The reset input, the hold release and the chord's outcome (R86, R87, R149, R171, R194). -/

namespace Sys2Proof.Machine

open Host (Outcome)

/-- What a hold release taken in HALTED leaves of the escalation state, the regime and the pending flags. -/
theorem takeHoldRelease_spec (s : State) (h : s.ctl.regime = .halted) :
    let t := takeHoldRelease s
    t.restarts = { s.restarts with escalation := [], coldCount := 0 } ∧ t.outcomes = s.outcomes ∧
    t.holdReleases = s.holdReleases ∧ t.ctl.regime = (if s.thermal.readiness then .soaking else .heating) ∧
    t.ctl.processorReset = true ∧ t.ctl.power = false ∧ t.ctl.pendingForced = false ∧
    t.ctl.pendingDoubtful = false := by
  obtain ⟨hregime, hforced, hdoubtful, hpower, hreset, -⟩ := enterHeating_cold
    { s with restarts := { s.restarts with escalation := [], coldCount := 0 } } (by simp [h])
  exact ⟨by simp [takeHoldRelease], by simp [takeHoldRelease], by simp [takeHoldRelease], hregime, hreset, hpower,
    hforced, hdoubtful⟩

/-- An entry into HEATING from a regime other than RUNNING leaves the watchpoints and the watchdog. -/
theorem enterHeating_watch_dog (s : State) (h : s.ctl.regime ≠ .running) :
    (enterHeating s).watch = s.watch ∧ (enterHeating s).dog = s.dog := by
  have hheating : (changeRegime .heating s).watch = s.watch ∧ (changeRegime .heating s).dog = s.dog := by
    rw [changeRegime_watch, changeRegime_dog]
    simp [h]
  have hsoaking (u : State) (hu : u.ctl.regime = .heating) :
      (changeRegime .soaking u).watch = u.watch ∧ (changeRegime .soaking u).dog = u.dog := by
    rw [changeRegime_watch, changeRegime_dog]
    simp [hu]
  have hready (u : State) (hu : u.ctl.regime = .heating) (hwatch : u.watch = s.watch) (hdog : u.dog = s.dog) :
      (if u.thermal.readiness then changeRegime .soaking u else u).watch = s.watch ∧
      (if u.thermal.readiness then changeRegime .soaking u else u).dog = s.dog := by
    split
    · exact ⟨(hsoaking u hu).1.trans hwatch, (hsoaking u hu).2.trans hdog⟩
    · exact ⟨hwatch, hdog⟩
  have hregime := changeRegime_regime .heating s
  obtain ⟨hwatch, hdog⟩ := hheating
  refine hready _ ?_ ?_ ?_ <;> split <;> assumption

/-- Settles O36: the four instructions, each along the branches of its definition. -/
theorem resetAndHold : Obligations.ResetAndHold := by
  refine ⟨fun s level => rfl, fun s h => ?unfiltered, fun s h => ?press, fun s i tag htag => ?hold,
    fun s i o ho hchord => ?outcome, fun s i => ⟨fun h => ?_, fun h => ?_⟩⟩
  case unfiltered =>
    show execResetInputEvent s = _
    simp [execResetInputEvent, h]
  case press =>
    intro s1
    have hexec : exec .resetInputEvent s = .next (finish (if s.resetInput.raw then takePress s1 else s1)) := by
      show execResetInputEvent s = _
      simp only [execResetInputEvent, h, if_true, s1]
    have hregime : s1.ctl.regime = s.ctl.regime := rfl
    rw [hexec]
    refine ⟨fun hraw => by simp [hraw], fun hraw hrun => ?_, fun hraw hhalted => ?_, fun hraw hrun hhalted => ?_⟩
    · simp only [hraw, if_true, takePress, hregime, hrun]
    · simp only [hraw, if_true, takePress, hregime, hhalted]
      rfl
    · have hinert : takePress s1 = s1 := by
        unfold takePress
        rw [hregime]
        split
        · contradiction
        · contradiction
        · rfl
      simp only [hraw, if_true, hinert]
  case hold =>
    refine ⟨fun hhalted => ?_, fun hhalted => ?_⟩
    · let s1 : State := { s with holdReleases := s.holdReleases.eraseIdx i }
      refine ⟨_, (?_ : exec (.holdRelease i) s = .next (finish (answerChord (some tag) .taken (takeHoldRelease s1)))), ?_⟩
      · show execHoldRelease i s = _
        simp only [execHoldRelease, htag, hhalted, if_true, s1]
      obtain ⟨hrestarts, houtcomes, hreleases, hregime, hreset, hpower, hforced, hdoubtful⟩ :=
        takeHoldRelease_spec s1 hhalted
      obtain ⟨hwatch, hdog⟩ := enterHeating_watch_dog
        { s1 with restarts := { s1.restarts with escalation := [], coldCount := 0 } } (by simp [s1, hhalted])
      simp only [finish_frame, answerChord]
      exact ⟨hrestarts, by rw [houtcomes], hreleases, hregime, hreset, hpower, hforced, hdoubtful, hwatch, hdog⟩
    · show execHoldRelease i s = _
      simp only [execHoldRelease, htag, hhalted, if_false, answerChord]
  case outcome =>
    intro c s1
    have hnotice : exec (.chordOutcome i) s = .next (finish (chordNotice o.tag.chord o.result o.tag.regime s1)) := by
      show execChordOutcome i s = _
      simp only [execChordOutcome, ho]
      rfl
    have hchordNow : s1.chord o.tag.chord = { c with awaited := false } := by
      simp [s1, State.chord, List.getD_eq_getElem?_getD, hchord]
    rw [hnotice, chordNotice, hchordNow]
  · show execHoldRelease i s = _
    simp only [execHoldRelease, h]
  · show execChordOutcome i s = _
    simp only [execChordOutcome, h]

end Sys2Proof.Machine

/-! SUPPORT. What leaving RUNNING for a restart makes of the watch table, the front port and the arbiter (R14, R125, R126,
R184), and what the end of a step leaves with board power off. -/

namespace Sys2Proof.Machine

open Host (Outcome)

/-! ## The watch table (R125, R126) -/

theorem shifted_getLsbD (k j : Nat) (hj : j < 8) : (1#8 <<< k).getLsbD j = decide (j = k) := by
  rw [BitVec.getLsbD_shiftLeft, BitVec.getLsbD_one]
  by_cases h : j = k
  · simp [h, hj]
    omega
  · simp only [h, decide_false]
    by_cases hlt : j < k
    · simp [hlt]
    · simp only [hj, decide_true, hlt, decide_false, Bool.not_false, Bool.true_and]
      simp
      omega

theorem clearBit_getLsbD (b : Byte) (k j : Nat) (hj : j < 8) : (clearBit b k).getLsbD j = (b.getLsbD j && decide (j ≠ k)) := by
  rw [clearBit, BitVec.getLsbD_and, BitVec.getLsbD_not, shifted_getLsbD k j hj]
  simp [hj]

theorem keepHits_getLsbD (keep : Option WatchEntry → Bool) (es : List (Option WatchEntry)) (k : Nat) (hits : Byte)
    (j : Nat) (hj : j < 8) : (keepHits keep es k hits).getLsbD j = true ↔
      hits.getLsbD j = true ∧ ∀ i e, es[i]? = some e → k + i = j → keep e = true := by
  induction es generalizing k hits with
  | nil => simp [keepHits]
  | cons e es ih =>
    have hhead : (if keep e then hits else clearBit hits k).getLsbD j = true ↔
        hits.getLsbD j = true ∧ (k = j → keep e = true) := by
      cases hkeep : keep e with
      | true => simp
      | false => simp [clearBit_getLsbD _ _ _ hj, eq_comm (a := j) (b := k)]
    rw [keepHits, ih, hhead, and_assoc]
    refine and_congr_right fun _ => ⟨fun ⟨hfirst, hrest⟩ i x hx hij => ?_, fun h => ⟨fun hk => ?_, fun i x hx hij => ?_⟩⟩
    · cases i with
      | zero =>
        obtain rfl : e = x := Option.some.inj hx
        exact hfirst (by omega)
      | succ i => exact hrest i x (by simpa using hx) (by omega)
    · exact h 0 e rfl (by omega)
    · exact h (i + 1) x (by simpa using hx) (by omega)

theorem suppressSenders_getElem? (senders : List Nat) (es : List (Option WatchEntry)) (k i : Nat) :
    (suppressSenders senders es k)[i]? =
      (es[i]?).map fun e => if k + i ∈ senders then e.map (·.suppress true) else e := by
  induction es generalizing k i with
  | nil => rfl
  | cons e es ih =>
    cases i with
    | zero => simp [suppressSenders]
    | succ i => simp [suppressSenders, ih, Nat.add_assoc, Nat.add_comm 1 i]

/-- The hit flags that leaving RUNNING keeps. -/
theorem watchLeave_hits (s : State) (k : Nat) (hk : k < 8) : (watchLeave s).watch.hits.getLsbD k = true ↔
    s.watch.hits.getLsbD k = true ∧
      ∀ e, s.watch.entries[k]? = some (some e) → e.persistence ≠ .session := by
  show (keepHits _ _ _ _).getLsbD k = true ↔ _
  rw [keepHits_getLsbD _ _ _ _ _ hk]
  refine and_congr_right fun _ => ⟨fun h e he => ?_, fun h i e he hi => ?_⟩
  · simpa [isSession] using h k (some e) he (by omega)
  · obtain rfl : i = k := by omega
    cases e with
    | none => rfl
    | some e => simpa [isSession] using h e he

/-- The table once the restart supervisor was told the cause and RUNNING was left. -/
theorem watchLeave_told_entries (cause : RestartCause) (s : State) (k : Nat) :
    (watchLeave (tellCause cause s)).watch.entries[k]? =
      (s.watch.entries[k]?).map fun entry => entry.bind fun e =>
        if e.persistence = .session then none
        else if cause = .tripWatch ∧ k ∈ s.watch.senders ∧ e.role = .trip then some { e with suppressed := true }
        else some e := by
  rw [watchLeave_entries, tellCause]
  by_cases hcause : cause = .tripWatch
  · rw [if_pos hcause]
    simp only [suppressSenders_getElem?, Option.map_map, Nat.zero_add]
    congr 1
    funext entry
    by_cases hsender : k ∈ s.watch.senders
    · cases entry with
      | none => simp
      | some e =>
        by_cases htrip : e.role = .trip <;> simp [hsender, WatchEntry.suppress, htrip, hcause]
    · simp [hsender]
  · simp [hcause]

theorem watchLeave_told_hits (cause : RestartCause) (s : State) (k : Nat) (hk : k < 8) :
    (watchLeave (tellCause cause s)).watch.hits.getLsbD k = true ↔ s.watch.hits.getLsbD k = true ∧
      ∀ e, s.watch.entries[k]? = some (some e) → e.persistence ≠ .session := by
  rw [watchLeave_hits _ _ hk, tellCause]
  split
  · refine and_congr_right fun _ => ?_
    simp only [suppressSenders_getElem?, Nat.zero_add]
    cases hentry : s.watch.entries[k]? with
    | none => simp
    | some entry =>
      cases entry with
      | none => simp
      | some e =>
        by_cases hsender : k ∈ s.watch.senders
        · by_cases htrip : e.role = .trip <;> simp [hsender, WatchEntry.suppress, htrip]
        · simp [hsender]
  · rfl

/-! ## The arbiter -/

/-- The requests of the front port and of the mailbox unit, with board power kept. -/
theorem changeRegime_arbiter_kept (new : Regime) (s : State) (hnew : new ≠ .preparing) (h : ¬ loses new s) :
    (changeRegime new s).arbiter.front =
      (if s.ctl.regime = .running ∧ new ≠ .running then (leaveRunning s).arbiter.front else s.arbiter.front) ∧
    (changeRegime new s).arbiter.mailbox =
      (if s.ctl.regime = .running ∧ new ≠ .running then (leaveRunning s).arbiter.mailbox else s.arbiter.mailbox) := by
  rw [← loses_iff] at h
  rw [changeRegime_eq]
  simp only [lampUpdate_frame, evalHeaters_frame, beforeScrubNews, if_neg h]
  rw [(scrubNews_arbiter _).2.1, (scrubNews_arbiter _).2.2.1]
  unfold prepNews
  rw [if_neg hnew]
  repeat' split
  all_goals simp_all [setRegime, prepAbandon, withdraw, Arbiter.set]

theorem abandoned_iff (a : Access) : a.abandoned = true ↔
    a.requester = .front ∨ a.requester = .mailbox ∨ a.purpose = .checkRead := by
  simp [Access.abandoned, or_assoc]

/-! ## The end of a step -/

/-- With nothing left for the mailbox unit, the end of a step starts no posting. -/
theorem finish_posting_none (s : State) (hnone : s.posting = none) (hregime : s.ctl.regime ≠ .running) :
    (finish s).posting = none := by
  have hready : postingReady s = false := by simp [postingReady, hregime]
  have hhand : postingInHand s = none := by simp [postingInHand, hnone, hready]
  have hplace : (mailboxPlace s).posting = none := by
    unfold mailboxPlace
    simp only [hhand, Option.bind_none]
    repeat' split
    all_goals simp_all
  simpa [finish] using hplace

/-- With board power off nothing is granted. -/
theorem finish_port_off (s : State) (hpower : s.ctl.power = false) : (finish s).port = s.port := by
  have hgrant : grant (mailboxPlace s) = mailboxPlace s := by simp [grant, hpower]
  rw [finish, hgrant]
  simp

end Sys2Proof.Machine

/-! PROOFS. The restart requests (R144 to R148, R150, R151, R22, R126, R135, R191). -/

namespace Sys2Proof.Machine

open Host (Outcome)

/-! ## The kind of a restart (R145) -/

theorem restartKind_spec (s : State) (cold : Bool) :
    let becomesCold : Prop := cold = true ∨ s.recentRestarts.length = s.settings.escalateCount - 1
    (¬ becomesCold → s.restartKind cold = .warm) ∧
    (becomesCold → s.restarts.coldCount ≠ s.settings.coldLimit → s.restartKind cold = .cold) ∧
    (becomesCold → s.restarts.coldCount = s.settings.coldLimit → s.restartKind cold = .halt) := by
  intro becomesCold
  have hcold : (cold || decide (s.recentRestarts.length = s.settings.escalateCount - 1)) = true ↔ becomesCold := by
    simp [becomesCold]
  unfold State.restartKind
  refine ⟨fun h => if_neg (mt hcold.1 h), fun h hlimit => ?_, fun h hlimit => ?_⟩
  · rw [if_pos (hcold.2 h), if_neg hlimit]
  · rw [if_pos (hcold.2 h), if_pos hlimit]

theorem mem_recentRestarts (s : State) (x : BitVec 32) : x ∈ s.recentRestarts ↔ x ∈ s.restarts.escalation ∧
    s.clock.uptime.toNat - x.toNat < s.settings.escalateSpan * 60 := by
  simp [State.recentRestarts]

theorem restartKind_powered (kind : RestartKind) : kind.regime.powered = decide (kind = .warm) := by
  cases kind <;> rfl

theorem restartKind_resetAsserted (kind : RestartKind) : kind.regime.resetAsserted = true := by
  cases kind <;> rfl

theorem restartKind_regime_preparing (kind : RestartKind) : kind.regime ≠ .preparing := by
  cases kind <;> decide

/-! ## The state in which a restart changes the regime -/

/-- A restart's record, escalation and cause change the restarts, the trace and the watch table alone. -/
theorem restartRecorded_fields (cause : RestartCause) (cold : Bool) (s : State) : restartRecorded cause cold s =
    { s with
      restarts := (restartRecorded cause cold s).restarts
      trace := []
      watch := (tellCause cause s).watch } := by
  unfold restartRecorded tellCause escalate appendRecord
  cases s.restartKind cold <;> dsimp only <;> split <;> rfl

/-- The record, the total and the escalation state of a restart (R145 to R147, R150, R151). -/
theorem restartRecorded_restarts (cause : RestartCause) (cold : Bool) (s : State) :
    let kind := s.restartKind cold
    let older := s.restarts.history.map fun x => { x with trace := none }
    let t := (restartRecorded cause cold s).restarts
    t.history = older.drop (older.length - 7) ++
      [{ number := satInc s.restarts.total, cause := cause, requested := some (if cold then .cold else .warm),
         kind := kind, uptime := s.clock.uptime, session := s.clock.session, lastStage := s.watch.lastStage,
         warnings := s.dog.warnings, uncorrectable := s.log.session, hits := s.watch.hits, trace := some s.trace }] ∧
    t.total = satInc s.restarts.total ∧
    t.escalation = (match kind with
      | .warm => s.recentRestarts ++ [s.clock.uptime]
      | .cold => []
      | _ => s.recentRestarts) ∧
    t.coldCount = (if kind = .cold then s.restarts.coldCount + 1 else s.restarts.coldCount) := by
  intro kind older t
  have ht : t = (escalate kind (appendRecord cause (some (if cold then .cold else .warm)) kind s)).restarts := by
    simp only [t, restartRecorded, tellCause]
    split <;> rfl
  rw [ht]
  cases kind <;> exact ⟨rfl, rfl, rfl, rfl⟩

/-! ## A restart that keeps board power (R14, R42, R44, R65, R116, R184) -/

theorem not_loses_restarting (s : State) : ¬ loses .restarting s := fun h => absurd h.2 (by decide)

/-- The front port, the access at the port, the repair unit and the scrubber at a WARM restart. -/
theorem changeRegime_restarting (s : State) (hrun : s.ctl.regime = .running) :
    let t := changeRegime .restarting s
    (∀ x, s.front = some x → x.phase = .access → t.front = some x ∧ t.arbiter.front = s.arbiter.front) ∧
    (∀ x, s.front = some x → x.phase ≠ .access → t.front = none ∧ t.arbiter.front = none) ∧
    (s.front = none → t.front = none ∧ t.arbiter.front = s.arbiter.front) ∧
    t.port = (s.port.map fun a =>
      if a.requester = .front ∨ a.requester = .mailbox ∨ a.purpose = .checkRead then { a with discarded := true }
      else a) ∧
    t.repair = s.repair ∧ t.arbiter.repair = s.arbiter.repair ∧ t.arbiter.mailbox = none ∧
    (s.ctl.memValid = true → s.scrub.activity ≠ .paused → s.scrub.timer ≠ .stopped →
      t.scrub = s.scrub ∧ t.arbiter.scrub = s.arbiter.scrub) := by
  intro t
  have hkept := not_loses_restarting s
  have hleaves : s.ctl.regime = .running ∧ Regime.restarting ≠ .running := ⟨hrun, by decide⟩
  obtain ⟨hfront, hport⟩ := changeRegime_front_port .restarting s hkept
  obtain ⟨hafront, hamailbox⟩ := changeRegime_arbiter_kept .restarting s (by decide) hkept
  rw [if_pos hleaves] at hfront hport hafront hamailbox
  rw [(leaveRunning_front s).1] at hfront
  rw [(leaveRunning_front s).2] at hafront
  rw [leaveRunning_port] at hport
  rw [(leaveRunning_arbiter s).1] at hamailbox
  obtain ⟨hrepair, harepair⟩ := changeRegime_repairKept .restarting s hkept
  refine ⟨fun x hx hgranted => ?_, fun x hx hwaiting => ?_, fun hnone => ?_, ?_, hrepair, harepair, hamailbox,
    fun hvalid hactive htimer => ?_⟩
  · rw [frontLeave_granted s x hx hgranted] at hfront hafront
    exact ⟨hfront.trans hx, hafront⟩
  · rw [frontLeave_waiting s x hx hwaiting] at hfront hafront
    exact ⟨hfront, hafront⟩
  · rw [frontLeave_empty s hnone] at hfront hafront
    exact ⟨hfront.trans hnone, hafront⟩
  · rw [hport]
    congr 1
    funext a
    exact ite_cond_congr (propext (abandoned_iff a))
  · obtain ⟨b, hscrub, -, harbiter, -, -, hruns, htscrub, htarbiter⟩ := changeRegime_scrub .restarting s hkept
    have hnews : scrubNews b = b := scrubNews_goesOn b (hruns.2 ⟨hvalid, .inr rfl⟩) (by rw [hscrub]; exact hactive)
      (.inr (by rw [hscrub]; exact htimer))
    rw [htscrub, htarbiter, hnews]
    exact ⟨hscrub, harbiter⟩

/-- The state at the end of a restart, before the mailbox unit's request and the grant. -/
def restarted (i : Nat) (q : RestartRequest) (s : State) : State :=
  answerChord q.chord .taken (takeRestart q.cause q.cold { s with requests := s.requests.eraseIdx i })

theorem exec_restartRequest_running (s : State) (i : Nat) (q : RestartRequest) (hq : s.requests[i]? = some q)
    (hrun : s.ctl.regime = .running) : exec (.restartRequest i) s = .next (finish (restarted i q s)) := by
  show execRestartRequest i s = _
  simp only [execRestartRequest, hq, hrun, if_true, restarted]

/-- The outcomes once a chord that asked for a restart is answered (R171). -/
def answered (chord : Option ChordTag) (outcomes : List ChordOutcome) : List ChordOutcome :=
  match chord with
  | some tag => outcomes ++ [{ tag := tag, result := .taken }]
  | none => outcomes

/-- A restart is the change of regime in the recorded state, then the loaded windows and the chord's answer. -/
theorem restarted_eq (i : Nat) (q : RestartRequest) (s : State) :
    let v := restartRecorded q.cause q.cold { s with requests := s.requests.eraseIdx i }
    restarted i q s = { changeRegime (s.restartKind q.cold).regime v with
      windows := s.settings.windows
      outcomes := answered q.chord s.outcomes } := by
  intro v
  have hloader : (changeRegime (s.restartKind q.cold).regime v).loader = s.loader := by simp [v, restartRecorded]
  have houtcomes : (changeRegime (s.restartKind q.cold).regime v).outcomes = s.outcomes := by simp [v, restartRecorded]
  have hrestart : takeRestart q.cause q.cold { s with requests := s.requests.eraseIdx i } =
      loadWindows (changeRegime (s.restartKind q.cold).regime v) := rfl
  have hwindows : (changeRegime (s.restartKind q.cold).regime v).settings = s.settings := by
    unfold State.settings
    rw [hloader]
  rw [restarted, hrestart, loadWindows, hwindows]
  cases q.chord with
  | none => exact congrArg (fun x => ({ changeRegime (s.restartKind q.cold).regime v with
      windows := s.settings.windows, outcomes := x } : State)) houtcomes
  | some tag => exact congrArg (fun x => ({ changeRegime (s.restartKind q.cold).regime v with
      windows := s.settings.windows, outcomes := x ++ [{ tag := tag, result := .taken }] } : State)) houtcomes

end Sys2Proof.Machine

/-! PROOFS. The restart requests (R144 to R148, R150, R151, R22, R126, R135, R191): the obligation. -/

namespace Sys2Proof.Machine

open Host (Outcome)

/-- Settles O35: a restart is its record, then a change of regime that leaves RUNNING. -/
theorem restartRequests : Obligations.RestartRequests := by
  refine ⟨fun s i q hq hrun hpowered => ?taken, fun s i q hq hrun => ?discarded, fun s i hnone => ?_, mem_recentRestarts,
    restartKind_spec⟩
  case taken =>
    intro kind n r older
    let s1 : State := { s with requests := s.requests.eraseIdx i }
    let v := restartRecorded q.cause q.cold s1
    let w := changeRegime kind.regime v
    have hu : restarted i q s = { w with
        windows := s.settings.windows
        outcomes := answered q.chord s.outcomes } := restarted_eq i q s
    have hv : v = { s1 with restarts := v.restarts, trace := [], watch := (tellCause q.cause s1).watch } :=
      restartRecorded_fields q.cause q.cold s1
    obtain ⟨hhistory, htotal, hescalation, hcount⟩ := restartRecorded_restarts q.cause q.cold s1
    have hvrun : v.ctl.regime = .running := by rw [hv]; exact hrun
    have hleaves : leaves kind.regime v := ⟨hvrun, restartKind_regime_ne kind⟩
    have hregime : w.ctl.regime = kind.regime := changeRegime_regime _ _
    have hpower : w.ctl.power = decide (kind = .warm) := (changeRegime_power _ _).trans (restartKind_powered kind)
    have hctl := changeRegime_ctl kind.regime v
    obtain ⟨hposting, hqueue, hmissed, hengine, hreports, hsnoops, hdog, hdogTimer, hwatch⟩ :=
      changeRegime_left kind.regime v hleaves (restartKind_regime_preparing kind)
    have hwatchEq : w.watch = (watchLeave (tellCause q.cause s1)).watch := hwatch.trans (by rw [hv]; rfl)
    have hrestarts : w.restarts = v.restarts := (changeRegime_frame _ _).2.1
    have hmem := changeRegime_mem kind.regime v
    have hlost (h : kind ≠ .warm) : loses kind.regime v :=
      ⟨by rw [hvrun]; rfl, by rw [restartKind_powered]; exact decide_eq_false h⟩
    have hsettings : v.settings = s.settings := by unfold State.settings; rw [hv]
    refine ⟨restarted i q s, finish (restarted i q s), exec_restartRequest_running s i q hq hrun, rfl, ?_⟩
    have hwarmEq (h : kind = .warm) : w = changeRegime .restarting v := by
      show changeRegime kind.regime v = _
      rw [h]
      rfl
    have hwarmFacts := changeRegime_restarting v hvrun
    have hprepSame : v.prep = s.prep ∧ v.arbiter = s.arbiter := by rw [hv]; exact ⟨rfl, rfl⟩
    rw [hu]
    simp only [finish_frame]
    refine ⟨by simp [w, v, restartRecorded, s1], ?outcomes, by rw [hrestarts]; exact hhistory,
      by rw [hrestarts]; exact htotal, ?trace, by rw [hrestarts]; exact hescalation, by rw [hrestarts]; exact hcount,
      hregime, (changeRegime_processorReset _ _).trans (restartKind_resetAsserted kind), hpower, fun hwarm => ?warm,
      fun hcold => ?cold, fun hother => ?off, trivial, by rw [hwatchEq]; rfl, by rw [hwatchEq]; rfl, fun k => ?entries,
      fun k hk => ?hits, ?stage, by simp [w, v, restartRecorded, s1], hdog, hdogTimer, ?noKeys, hreports, hsnoops,
      fun hfault => ?idle, by simp [w, v, restartRecorded, s1], by simp [w, v, restartRecorded, s1], ?clock, ?queue,
      ?missed, ?posting, ?engine, by simp [w, v, restartRecorded, s1], ?mailbox, fun hchecking => ?checking,
      fun hchecking => ?notChecking, fun hwarm => ?kept, fun hother => ?lost⟩
    case outcomes => rfl
    case trace => rw [changeRegime_trace_eq, if_neg (restartKind_regime_ne kind), hv]
    case warm =>
      have hkept : ¬ (v.ctl.regime.powered && !kind.regime.powered) = true := by
        rw [restartKind_powered, hwarm]
        simp
      have htarget : kind.regime = .restarting := by rw [hwarm]; rfl
      rw [hctl, hmem, if_neg hkept, if_neg hkept]
      refine ⟨by rw [hv], by rw [hv], ?_⟩
      show (if kind.regime = .restarting then Timer.running v.settings.restartPulse else .stopped) = _
      rw [if_pos htarget, hsettings]
    case cold =>
      have htarget : kind.regime = .offCycle := by rw [hcold]; rfl
      rw [hctl]
      show (if kind.regime = .offCycle then Timer.running v.settings.offTime else .stopped) = _
      rw [if_pos htarget, hsettings]
    case off =>
      obtain ⟨-, -, -, -, -, -, hvalid, hempty, hport, -, -⟩ := changeRegime_lost kind.regime v (hlost hother)
      refine ⟨hvalid, hempty, (finish_port_off _ ?_).trans hport⟩
      exact hpower.trans (decide_eq_false hother)
    case entries =>
      rw [hwatchEq]
      exact watchLeave_told_entries q.cause s1 k
    case hits =>
      rw [hwatchEq]
      exact watchLeave_told_hits q.cause s1 k hk
    case stage =>
      rw [hwatchEq]
      unfold tellCause
      split <;> rfl
    case noKeys =>
      intro x hx
      rw [hqueue] at hx
      simpa using (List.mem_filter.1 hx).2
    case idle => rw [hengine, hv]; exact if_neg hfault
    case clock => rw [changeRegime_clock, if_neg (restartKind_regime_ne kind), hv]
    case queue => rw [hqueue, hv]
    case missed => rw [hmissed, hv]
    case posting => exact finish_posting_none _ hposting (by rw [hregime]; exact restartKind_regime_ne kind)
    case engine => rw [hengine, hv]
    case mailbox =>
      by_cases hwarm : kind = .warm
      · obtain ⟨-, -, -, -, -, -, hmailbox, -⟩ := hwarmFacts
        rw [hwarmEq hwarm]
        exact hmailbox
      · obtain ⟨-, -, -, -, -, hmailbox, -⟩ := changeRegime_lost kind.regime v (hlost hwarm)
        exact hmailbox
    case checking =>
      obtain ⟨hprep, harbiter⟩ := changeRegime_prepAbandoned kind.regime v (restartKind_regime_preparing kind)
        (.inr ⟨hleaves, by rw [hprepSame.1]; exact hchecking⟩)
      exact ⟨harbiter, hprep⟩
    case notChecking =>
      obtain ⟨hprep, harbiter⟩ := changeRegime_prepKept kind.regime v (restartKind_regime_preparing kind)
        (by rw [hvrun]; decide) (by rw [hprepSame.1]; exact hchecking)
      exact ⟨harbiter.trans (by rw [hprepSame.2]), hprep.trans hprepSame.1⟩
    case kept =>
      have hsame : v.front = s.front ∧ v.port = s.port ∧ v.repair = s.repair ∧ v.scrub = s.scrub ∧ v.ctl = s.ctl := by
        rw [hv]
        exact ⟨rfl, rfl, rfl, rfl, rfl⟩
      obtain ⟨hfront, hport, hrepair, hscrub, hvctl⟩ := hsame
      rw [hfront, hport, hrepair, hscrub, hvctl, hprepSame.2] at hwarmFacts
      rw [hwarmEq hwarm]
      obtain ⟨hgranted, hwaiting, hempty, hmarked, hr, har, -, hs⟩ := hwarmFacts
      exact ⟨hgranted, hwaiting, hempty, hmarked, hr, har, hs⟩
    case lost =>
      obtain ⟨hscrub, hrepair, hascrub, harepair, hafront, -, -, -, hport, hfront, hheaders⟩ :=
        changeRegime_lost kind.regime v (hlost hother)
      refine ⟨hfront, hport, hafront, harepair, hascrub, hheaders, hscrub.trans (by rw [hv]), hrepair.trans (by rw [hv])⟩
  case discarded =>
    show execRestartRequest i s = _
    simp only [execRestartRequest, hq, hrun, if_false, answerChord]
    cases q.chord <;> rfl
  · show execRestartRequest i s = _
    simp only [execRestartRequest, hnone]

end Sys2Proof.Machine

/-! SUPPORT. The scrubber across changes of regime (R44), and the entry into RELEASING (R81, R177). -/

namespace Sys2Proof.Machine

open Host (Outcome)

/-! ## What an offset's policy, its location and the rings depend on -/

theorem policyAt_congr {s t : State} (h : t.windows = s.windows) (o : Nat) : t.policyAt o = s.policyAt o := by
  simp only [State.policyAt, State.windowAt, h]

theorem accessAt_congr {s t : State} (h : t.repair = s.repair) (r : Requester) (p : Purpose) (line : Bool) (o : Nat)
    (ws : List MemWord) : t.accessAt r p line o ws = s.accessAt r p line o ws := by
  simp only [State.accessAt, State.locate, State.repairEntry, h]

theorem ring_congr {s t : State} (h : t.windows = s.windows) (r : RingRole) : t.ring r = s.ring r := by
  simp only [State.ring, h]

/-! ## The choice of work and the news keep the timer (R44, R47) -/

theorem chooseWork_timer (s : State) : (chooseWork s).scrub.timer = s.scrub.timer ∧
    (chooseWork s).scrub.due = s.scrub.due := by
  unfold chooseWork scrubServe
  dsimp only
  (repeat' split) <;> simp

/-- The interval in force. -/
def State.interval (s : State) : Nat :=
  if s.scrub.cold then s.settings.scrubInterval / 4 else s.settings.scrubInterval

theorem scrubLength_eq (s : State) : s.scrubLength = s.interval := scrubLength_congr rfl rfl

section Kept

variable {new : Regime} {s : State} (hkept : ¬ loses new s)

include hkept

/-- From PAUSED the interval starts afresh, and work is chosen. -/
theorem changeRegime_scrub_resumes (hvalid : s.ctl.memValid = true) (hnew : new = .running ∨ new = .restarting)
    (hpaused : s.scrub.activity = .paused) :
    let t := changeRegime new s
    t.scrub.timer = .running s.interval ∧ t.scrub.due = false ∧ t.scrub.position = s.scrub.position ∧
    ((∀ x ∈ s.scrub.fixList, s.policyAt x.offset = .report) →
      t.scrub.activity = .idle ∧ t.scrub.fixList = [] ∧ t.scrub.inHand = none) ∧
    (∀ (dropped rest : List FixEntry) (e : FixEntry), s.scrub.fixList = dropped ++ e :: rest →
      (∀ x ∈ dropped, s.policyAt x.offset = .report) → s.policyAt e.offset = .correct →
      t.scrub.fixList = e :: rest ∧ t.scrub.inHand = some (.fix e) ∧
      (s.repair.reservation = some (groupOf e.offset) → t.scrub.activity = .groupWait) ∧
      (s.repair.reservation ≠ some (groupOf e.offset) → t.scrub.activity = .portWait ∧
        t.arbiter.scrub = some { access := s.accessAt .scrub .fixRead false e.offset [], passed := 0 })) := by
  intro t
  obtain ⟨b, hscrub, hrepair, -, hwindows, hloader, hruns, htscrub, htarbiter⟩ := changeRegime_scrub new s hkept
  let b1 : State := { b with scrub := { b.scrub with due := false, timer := .running b.scrubLength, inHand := none } }
  have hnews : scrubNews b = chooseWork b1 := scrubNews_starts b (hruns.2 ⟨hvalid, hnew⟩) (by rw [hscrub]; exact hpaused)
  rw [hnews] at htscrub htarbiter
  have hlength : b.scrubLength = s.interval := scrubLength_congr hscrub hloader
  have hpolicy (o : Nat) : b1.policyAt o = s.policyAt o := policyAt_congr hwindows o
  have hlist : b1.scrub.fixList = s.scrub.fixList := congrArg (·.fixList) hscrub
  have hposition : (chooseWork b1).scrub.position = s.scrub.position := by
    have h : b1.scrub.position = s.scrub.position := congrArg (·.position) hscrub
    rw [← h]
    simp
  have hb1repair : b1.repair = s.repair := hrepair
  have htimer : b1.scrub.timer = .running s.interval := by rw [← hlength]
  have hdue : b1.scrub.due = false := rfl
  clear_value b1
  refine ⟨?_, ?_, ?_, fun hnone => ?_, fun dropped rest e hfix hdropped he => ?_⟩
  · rw [htscrub, (chooseWork_timer b1).1, htimer]
  · rw [htscrub, (chooseWork_timer b1).2, hdue]
  · rw [htscrub, hposition]
  · have hchoice := chooseWork_noFix b1 fun x hx => (hpolicy _).trans (hnone x (by rw [← hlist]; exact hx))
    rw [hdue] at hchoice
    rw [htscrub, hchoice]
    exact ⟨rfl, rfl, rfl⟩
  · have hchoice := chooseWork_fix b1 dropped rest e (hlist.trans hfix) (fun x hx => (hpolicy _).trans (hdropped x hx))
      ((hpolicy _).trans he)
    have hreservation : b1.repair.reservation = s.repair.reservation := congrArg (·.reservation) hb1repair
    by_cases hreserved : s.repair.reservation = some (groupOf e.offset)
    · rw [htscrub, hchoice.trans (scrubServe_reserved (.fix e) _ (hreservation.trans hreserved))]
      exact ⟨rfl, rfl, fun _ => rfl, fun h => absurd hreserved h⟩
    · rw [htscrub, htarbiter,
        hchoice.trans (scrubServe_free (.fix e) _ fun h => hreserved (hreservation.symm.trans h))]
      refine ⟨rfl, rfl, fun h => absurd h hreserved, fun _ => ⟨rfl, ?_⟩⟩
      rw [← accessAt_congr (t := b1) hb1repair]
      rfl

/-- News that cancels a pause starts the timer at once. -/
theorem changeRegime_scrub_cancels (hvalid : s.ctl.memValid = true) (hnew : new = .running ∨ new = .restarting)
    (hgranted : s.scrub.activity = .fixPair ∨ s.scrub.activity = .sweepRead) (hstopped : s.scrub.timer = .stopped) :
    (changeRegime new s).scrub = { s.scrub with timer := .running s.interval } ∧
    (changeRegime new s).arbiter.scrub = s.arbiter.scrub := by
  obtain ⟨b, hscrub, -, harbiter, -, hloader, hruns, htscrub, htarbiter⟩ := changeRegime_scrub new s hkept
  have hlength : b.scrubLength = s.interval := scrubLength_congr hscrub hloader
  rw [htscrub, htarbiter, scrubNews_cancels b (hruns.2 ⟨hvalid, hnew⟩) (by rw [hscrub]; exact hgranted)
    (by rw [hscrub]; exact hstopped), ← hlength, ← hscrub]
  exact ⟨rfl, harbiter⟩

/-- Work that goes on is not touched. -/
theorem changeRegime_scrub_goesOn (hvalid : s.ctl.memValid = true) (hnew : new = .running ∨ new = .restarting)
    (hactive : s.scrub.activity ≠ .paused)
    (h : ¬ (s.scrub.activity = .fixPair ∨ s.scrub.activity = .sweepRead) ∨ s.scrub.timer ≠ .stopped) :
    (changeRegime new s).scrub = s.scrub ∧ (changeRegime new s).arbiter.scrub = s.arbiter.scrub := by
  obtain ⟨b, hscrub, -, harbiter, -, -, hruns, htscrub, htarbiter⟩ := changeRegime_scrub new s hkept
  rw [htscrub, htarbiter, scrubNews_goesOn b (hruns.2 ⟨hvalid, hnew⟩) (by rw [hscrub]; exact hactive)
    (by rw [hscrub]; exact h)]
  exact ⟨hscrub, harbiter⟩

/-- A pause: nothing from PAUSED, the timer alone under a granted access, and all the work in hand otherwise. -/
theorem changeRegime_scrub_pauses (hstops : ¬ (s.ctl.memValid = true ∧ (new = .running ∨ new = .restarting))) :
    let t := changeRegime new s
    let granted : Prop := s.scrub.activity = .fixPair ∨ s.scrub.activity = .sweepRead
    (s.scrub.activity = .paused → t.scrub = s.scrub ∧ t.arbiter.scrub = s.arbiter.scrub) ∧
    (granted → t.scrub = { s.scrub with timer := .stopped, due := false } ∧ t.arbiter.scrub = s.arbiter.scrub) ∧
    (s.scrub.activity ≠ .paused → ¬ granted → t.arbiter.scrub = none ∧
      t.scrub = { s.scrub with timer := .stopped, due := false, inHand := none, activity := .paused }) := by
  intro t granted
  obtain ⟨b, hscrub, -, harbiter, -, -, hruns, htscrub, htarbiter⟩ := changeRegime_scrub new s hkept
  have hbstops : b.scrubRuns = false := Bool.eq_false_iff.2 (mt hruns.1 hstops)
  rw [htscrub, htarbiter]
  refine ⟨fun hpaused => ?_, fun hgranted => ?_, fun hactive hwaiting => ?_⟩
  · rw [scrubNews_stays b hbstops (by rw [hscrub]; exact hpaused), ← hscrub]
    exact ⟨rfl, harbiter⟩
  · rw [scrubNews_pauses b hbstops (by rw [hscrub]; exact hgranted), ← hscrub]
    exact ⟨rfl, harbiter⟩
  · rw [scrubNews_drops b hbstops (by rw [hscrub]; exact hactive) (by rw [hscrub]; exact hwaiting), ← hscrub]
    exact ⟨rfl, rfl⟩

end Kept

/-! ## The entry into RELEASING -/

/-- A grant clears the due flag of the sweep it grants, and sets none. -/
theorem finish_due (s : State) (h : s.scrub.due = false) : (finish s).scrub.due = false := by
  have hplace : (mailboxPlace s).scrub.due = false := by simp [h]
  rw [finish, grant]
  split
  · exact hplace
  · split
    · exact hplace
    · next r w _ =>
      cases r with
      | scrub =>
        simp only [granted]
        split
        · rfl
        · exact hplace
      | repair | front | mailbox | prep => exact hplace

/-- The state after the header writes are made ready, before a release that follows at once. -/
def releasing (s : State) : State :=
  headerStart (changeRegime .releasing { s with lamp := { s.lamp with error := false } })

theorem enterReleasing_eq (s : State) : enterReleasing s =
    if (releasing s).headers = [] then releaseBoard (releasing s) else releasing s := rfl

theorem releasing_headers (s : State) : (releasing s).headers =
    (if (s.ring .commandRing).isSome then [Ring.command] else []) ++
      (if (s.ring .eventRing).isSome then [Ring.event] else []) := by
  have hring (r : RingRole) :
      (changeRegime .releasing { s with lamp := { s.lamp with error := false } }).ring r = s.ring r :=
    ring_congr (by simp) r
  simp only [releasing, headerStart, hring, List.filter_cons, List.filter_nil, Ring.role]
  repeat' split
  all_goals rfl

theorem releasing_headers_nil (s : State) : (releasing s).headers = [] ↔
    ∀ role, role ≠ RingRole.none → s.ring role = none := by
  rw [releasing_headers]
  refine ⟨fun h role hrole => ?_, fun h => ?_⟩
  · cases role with
    | none => contradiction
    | commandRing =>
      refine Classical.byContradiction fun hsome => ?_
      simp [Option.isSome_iff_ne_none, hsome] at h
    | eventRing =>
      refine Classical.byContradiction fun hsome => ?_
      simp [Option.isSome_iff_ne_none, hsome] at h
  · rw [h .commandRing (by decide), h .eventRing (by decide)]
    rfl

end Sys2Proof.Machine

/-! PROOFS. The regime timers and the ring header writes (R74, R77 to R79, R81, R85, R177). -/

namespace Sys2Proof.Machine

open Host (Outcome)

/-! ## The release -/

/-- The state in which the header writes are made ready: RELEASING, with nothing of the indexes left. -/
theorem releasing_fields (s : State) (hrestarting : s.ctl.regime = .restarting) :
    let u := releasing s
    u.ctl.regime = .releasing ∧ u.ctl.processorReset = true ∧ u.ctl.power = true ∧ u.ctl.memValid = s.ctl.memValid ∧
    u.ctl.pulse = .stopped ∧ u.mem = s.mem ∧ u.lamp.error = false ∧ u.engine.submit = 0 ∧ u.engine.done = 0 ∧
    u.events = { state := .unarmed, produce := 0, consume := 0 } ∧ u.restarts = s.restarts ∧
    u.repair.table = s.repair.table ∧ u.queue = s.queue ∧
    u.missed = satAdd s.missed (indexDistance s.settings.eventRingEntries s.events.consume s.events.produce) := by
  intro u
  let s0 : State := { s with lamp := { s.lamp with error := false } }
  have hregime : s0.ctl.regime = .restarting := hrestarting
  have hctl : u.ctl = (changeRegime .releasing s0).ctl := by simp [u, releasing, s0]
  have hloader : (changeRegime .releasing s0).settings = s.settings := by
    unfold State.settings
    rw [show (changeRegime .releasing s0).loader = s.loader by simp [s0]]
  have hmissed : (changeRegime .releasing s0).missed = s.missed := by
    rw [changeRegime_missed]
    simp [s0, hrestarting]
  have hevents : (changeRegime .releasing s0).events = s.events := by simp [s0]
  refine ⟨?_, ?_, ?_, ?_, ?_, ?_, by simp [u, releasing], rfl, rfl, rfl, by simp [u, releasing], by simp [u, releasing],
    ?_, ?_⟩
  · rw [hctl]
    exact changeRegime_regime _ _
  · rw [hctl]
    exact changeRegime_processorReset _ _
  · rw [hctl]
    exact changeRegime_power _ _
  · rw [hctl, changeRegime_ctl, hregime]
    rfl
  · rw [hctl, changeRegime_ctl]
    rfl
  · rw [show u.mem = (changeRegime .releasing s0).mem by simp [u, releasing, s0], changeRegime_mem, hregime]
    rfl
  · rw [show u.queue = (changeRegime .releasing s0).queue by simp [u, releasing, s0], changeRegime_queue, hregime]
    rfl
  · show satAdd (changeRegime .releasing s0).missed (indexDistance (changeRegime .releasing s0).settings.eventRingEntries
      (changeRegime .releasing s0).events.consume (changeRegime .releasing s0).events.produce) = _
    rw [hloader, hmissed, hevents]

/-- The scrubber in RELEASING: paused, or its timer stopped under a granted access. -/
theorem releasing_scrub (s : State) (hrestarting : s.ctl.regime = .restarting) (hactive : s.scrub.activity ≠ .paused) :
    (releasing s).scrub.timer = .stopped ∧ (releasing s).scrub.due = false ∧
    ((releasing s).scrub.activity = .paused ∨ (releasing s).scrub.activity = .fixPair ∨
      (releasing s).scrub.activity = .sweepRead) ∧
    (releasing s).scrub.cold = s.scrub.cold := by
  let s0 : State := { s with lamp := { s.lamp with error := false } }
  have hkept : ¬ loses .releasing s0 := fun h => absurd h.2 (by decide)
  have hscrub : (releasing s).scrub = (changeRegime .releasing s0).scrub := by simp [releasing, s0]
  obtain ⟨-, hgranted, hwaiting⟩ := changeRegime_scrub_pauses (s := s0) hkept (by simp)
  rw [hscrub]
  by_cases h : s.scrub.activity = .fixPair ∨ s.scrub.activity = .sweepRead
  · rw [(hgranted h).1]
    exact ⟨rfl, rfl, .inr h, rfl⟩
  · rw [(hwaiting hactive h).2]
    exact ⟨rfl, rfl, .inl rfl, rfl⟩

/-- The entry into RUNNING from RELEASING. -/
theorem releaseBoard_fields (u : State) (hreleasing : u.ctl.regime = .releasing) :
    let t := releaseBoard u
    t.ctl.regime = .running ∧ t.ctl.processorReset = false ∧ t.ctl.power = true ∧ t.ctl.memValid = u.ctl.memValid ∧
    t.ctl.pulse = .stopped ∧ t.mem = u.mem ∧ t.queue = u.queue ∧ t.missed = u.missed ∧ t.headers = u.headers := by
  refine ⟨changeRegime_regime _ _, changeRegime_processorReset _ _, changeRegime_power _ _, ?_, ?_, ?_, ?_, ?_, ?_⟩
  · rw [releaseBoard, changeRegime_ctl, hreleasing]
    rfl
  · rw [releaseBoard, changeRegime_ctl]
    rfl
  · rw [releaseBoard, changeRegime_mem, hreleasing]
    rfl
  · rw [releaseBoard, changeRegime_queue, hreleasing]
    rfl
  · rw [releaseBoard, changeRegime_missed, hreleasing]
    rfl
  · rw [releaseBoard, changeRegime_headers, hreleasing]
    rfl

/-- The scrubber at an entry into RUNNING with its timer stopped: the interval starts afresh. -/
theorem releaseBoard_scrub (u : State) (hvalid : u.ctl.memValid = true) (hdue : u.scrub.due = false)
    (htimer : u.scrub.timer = .stopped)
    (h : u.scrub.activity = .paused ∨ u.scrub.activity = .fixPair ∨ u.scrub.activity = .sweepRead) :
    (releaseBoard u).scrub.due = false ∧ (releaseBoard u).scrub.timer = .running u.interval := by
  have hkept : ¬ loses .running u := fun h => absurd h.2 (by decide)
  obtain hpaused | hgranted := h
  · obtain ⟨htimer, hdue, -⟩ := changeRegime_scrub_resumes hkept hvalid (.inl rfl) hpaused
    exact ⟨hdue, htimer⟩
  · rw [releaseBoard, (changeRegime_scrub_cancels hkept hvalid (.inl rfl) hgranted htimer).1]
    exact ⟨hdue, rfl⟩

theorem releasing_settings (s : State) : (releasing s).settings = s.settings := by
  unfold State.settings
  rw [show (releasing s).loader = s.loader by simp [releasing]]

/-- An entry into RELEASING: with no ring to write, the board runs at once. -/
theorem enterReleasing_fields (s : State) (hrestarting : s.ctl.regime = .restarting) :
    let t := enterReleasing s
    ((∃ role w, role ≠ RingRole.none ∧ s.ring role = some w) → t.ctl.regime = .releasing ∧
      t.ctl.processorReset = true) ∧
    ((∀ role, role ≠ RingRole.none → s.ring role = none) → t.ctl.regime = .running ∧ t.ctl.processorReset = false) ∧
    t.ctl.power = true ∧ t.ctl.memValid = s.ctl.memValid ∧ t.ctl.pulse = .stopped ∧ t.mem = s.mem ∧
    t.lamp.error = false ∧ t.engine.submit = 0 ∧ t.engine.done = 0 ∧
    t.events = { state := .unarmed, produce := 0, consume := 0 } ∧ t.restarts = s.restarts ∧
    t.repair.table = s.repair.table ∧ t.queue = s.queue ∧
    t.missed = satAdd s.missed (indexDistance s.settings.eventRingEntries s.events.consume s.events.produce) ∧
    t.headers = (releasing s).headers ∧
    (t.ctl.regime = .releasing → s.scrub.activity ≠ .paused → t.scrub.timer = .stopped ∧ t.scrub.due = false) ∧
    (t.ctl.regime = .running → s.ctl.memValid = true → s.scrub.activity ≠ .paused → t.scrub.due = false ∧
      t.scrub.timer = .running s.interval) := by
  obtain ⟨hregime, hreset, hpower, hvalid, hpulse, hmem, hlamp, hsubmit, hdone, hevents, hrestarts, htable, hqueue,
    hmissed⟩ := releasing_fields s hrestarting
  have hscrub := releasing_scrub s hrestarting
  have hsettings := releasing_settings s
  have hnone := releasing_headers_nil s
  rw [enterReleasing_eq]
  generalize releasing s = u at *
  by_cases hempty : u.headers = []
  · rw [if_pos hempty]
    obtain ⟨htregime, htreset, htpower, htvalid, htpulse, htmem, htqueue, htmissed, htheaders⟩ :=
      releaseBoard_fields u hregime
    refine ⟨fun ⟨role, w, hrole, hw⟩ => ?_, fun _ => ⟨htregime, htreset⟩, htpower, htvalid.trans hvalid, htpulse,
      htmem.trans hmem, by simp [hlamp], by simp [hsubmit], by simp [hdone], by simp [hevents], by simp [hrestarts],
      by simp [htable], htqueue.trans hqueue, htmissed.trans hmissed, htheaders, fun h => ?_, fun _ hv hactive => ?_⟩
    · rw [hnone.1 hempty role hrole] at hw
      contradiction
    · rw [htregime] at h
      contradiction
    · obtain ⟨htimer, hdue, hactivity, hcold⟩ := hscrub hactive
      have hinterval : u.interval = s.interval := by
        unfold State.interval
        rw [hcold, hsettings]
      rw [← hinterval]
      exact releaseBoard_scrub u (hvalid.trans hv) hdue htimer hactivity
  · rw [if_neg hempty]
    refine ⟨fun _ => ⟨hregime, hreset⟩, fun h => absurd (hnone.2 h) hempty, hpower, hvalid, hpulse, hmem, hlamp, hsubmit,
      hdone, hevents, hrestarts, htable, hqueue, hmissed, rfl, fun _ hactive => ?_, fun h => ?_⟩
    · obtain ⟨htimer, hdue, -⟩ := hscrub hactive
      exact ⟨htimer, hdue⟩
    · rw [hregime] at h
      contradiction

/-! ## The entries into the cold regimes -/

/-- The control state at an entry into SOAKING with the heat limit stopped. -/
theorem changeRegime_soaking_ctl (s : State) (hheat : s.ctl.heatLimit = .stopped)
    (hpowered : s.ctl.regime.powered = false) : (changeRegime .soaking s).ctl = { s.ctl with
      regime := .soaking, power := false, processorReset := true, heatLimit := .stopped
      soak := .running s.settings.soakTime, off := .stopped, pulse := .stopped } := by
  rw [changeRegime_ctl]
  simp only [regimeTimers, hheat, hpowered]
  rfl

/-- A pass begins at group 0 with its counts 0. -/
theorem beginPass_prep (p : Nat) (s : State) : ∃ wait, (beginPass p s).prep = {
    activity := .passing, pass := p, position := 0, step := .patternWrite, wait := wait, corrected := 0,
    uncorrectable := 0, retry := .stopped, range := none } := by
  obtain ⟨hreserved, -, hfree⟩ := prepHandle_spec { s with prep := { s.prep with
    activity := .passing, pass := p, position := 0, step := .patternWrite, corrected := 0, uncorrectable := 0,
    retry := .stopped, range := none } }
  rw [beginPass]
  by_cases h : s.repair.reservation = some (64 * 0)
  · rw [hreserved h (fun hc => nomatch hc)]
    exact ⟨_, rfl⟩
  · rw [hfree h]
    exact ⟨.portWait, by simp⟩

/-- The preparation engine at an entry into PREPARING: pass 1 begins (R105). -/
theorem changeRegime_preparing_prep (s : State) : ∃ wait, (changeRegime .preparing s).prep = {
    activity := .passing, pass := 1, position := 0, step := .patternWrite, wait := wait, corrected := 0,
    uncorrectable := 0, retry := .stopped, range := none } := by
  rw [changeRegime_eq]
  simp only [lampUpdate_frame, evalHeaters_frame, scrubNews_frame, beforeScrubNews, prepNews, if_true]
  exact beginPass_prep 1 _

/-- Settles O34: each timer's expiry is a change of regime; so is the end of the header writes. -/
theorem Settled.regimeTimers : Obligations.RegimeTimers := by
  refine ⟨fun s n hheat hregime => ?heat, fun s n hsoak hregime => ?soak, fun s n hpulse hregime => ?pulse,
    fun s h rest w hheaders hring hmailbox hport hfree => ?header, fun s n hoff hregime => ?off,
    fun s a h rest hport hp hin hregime hheaders => ?written, fun s new => ?change⟩
  case heat =>
    let s1 : State := { s with ctl := { s.ctl with pendingForced := true, heatLimit := .stopped } }
    have hctl := changeRegime_soaking_ctl s1 rfl (by rw [show s1.ctl.regime = .heating from hregime]; rfl)
    refine ⟨finish (changeRegime .soaking s1), ?_, ?_⟩
    · show execHeatLimitExpiry s = _
      exact if_pos ⟨by rw [hheat]; rfl, hregime⟩
    · rw [(finish_frame _).2.1, hctl]
      exact ⟨rfl, rfl, rfl, rfl, rfl, rfl, rfl, rfl⟩
  case soak =>
    let s1 := admitHeaters true s
    have hcold : s1.ctl.regime.powered = false := by simp [s1, hregime, Regime.powered]
    obtain ⟨wait, hprep⟩ := changeRegime_preparing_prep s1
    have hctl := changeRegime_ctl .preparing s1
    refine ⟨finish (changeRegime .preparing s1), ?_, ?_⟩
    · show execSoakTimerExpiry s = _
      exact if_pos ⟨by rw [hsoak]; rfl, hregime⟩
    · simp only [finish_frame, hprep]
      refine ⟨changeRegime_regime _ _, changeRegime_power _ _, changeRegime_processorReset _ _, ?_, ?_, trivial, trivial,
        trivial, trivial, trivial, trivial, ?_, ?_⟩
      · rw [hctl]
        rfl
      · rw [hctl]
        rfl
      · rw [hctl, hcold]
        simp [s1]
      · rw [changeRegime_mem, hcold]
        simp [s1]
  case pulse =>
    obtain ⟨hringed, hringless, hpower, hvalid, hstopped, hmem, hlamp, hsubmit, hdone, hevents, hrestarts, htable, hqueue,
      hmissed, hheaders, hpaused, hresumed⟩ := enterReleasing_fields s hregime
    refine ⟨finish (enterReleasing s), ?_, ?_⟩
    · show execPulseTimerExpiry s = _
      exact if_pos ⟨by rw [hpulse]; rfl, hregime⟩
    · simp only [finish_frame, hevents]
      refine ⟨hringed, hringless, hpower, hvalid, hstopped, hmem, hlamp, hsubmit, hdone, trivial, trivial, trivial,
        hrestarts, htable, hqueue, hmissed, hheaders.trans (releasing_headers s), fun h hactive => ?_,
        fun h hv hactive => ?_⟩
      · obtain ⟨htimer, hdue⟩ := hpaused h hactive
        exact ⟨htimer, finish_due _ hdue⟩
      · obtain ⟨hdue, htimer⟩ := hresumed h hv hactive
        exact ⟨finish_due _ hdue, htimer⟩
  case header =>
    have hidle : ¬ mailboxBusy s = true := by
      rw [mailboxBusy_iff]
      rintro (h | ⟨a, ha, h⟩)
      · simp [hmailbox] at h
      · exact hport a ha h
    have hrole : s.ring h.role = some w := by
      rw [← hring]
      cases h <;> rfl
    have haccess : headerAccess s = some
        (s.accessAt .mailbox .headerWrite true w.base (List.replicate 8 { data := 0, check := 0 })) := by
      simp only [headerAccess, hheaders, hrole, Option.map_some, made_zero]
    have hunreserved : unreserved s (headerAccess s) = headerAccess s := by
      rw [haccess, unreserved, Option.filter_eq_some_iff.2 ⟨rfl, ?_⟩]
      have hnot : s.reservedAt w.base = false := Bool.eq_false_iff.2 (mt (reservedAt_iff s w.base).1 hfree)
      show (!s.reservedAt w.base) = true
      rw [hnot]
      rfl
    rw [mailboxPlace, if_neg hidle, hunreserved, haccess]
  case off =>
    obtain ⟨hto, hforced, hdoubtful, hpower, hreset, hstopped, hheat⟩ := enterHeating_cold s (by simp [hregime])
    refine ⟨finish (enterHeating s), ?_, ?_⟩
    · show execOffTimerExpiry s = _
      exact if_pos ⟨by rw [hoff]; rfl, hregime⟩
    · simp only [finish_frame]
      refine ⟨fun h => ?_, fun h => ?_, hpower, hreset, hstopped, hforced, hdoubtful, by simp⟩
      · rw [hto, hheat, h]
        exact ⟨rfl, rfl⟩
      · rw [hto, hheat, h]
        exact ⟨rfl, rfl⟩
  case written =>
    have hexec := atWrite_inMemory .headerWrite s headerDone a hport hp hin
    generalize hs1 : clearCarried a _ = s1 at hexec
    have hctl : s1.ctl = s.ctl := by simp [← hs1]
    have hheaders1 : s1.headers = h :: rest := by simp [← hs1, hheaders]
    have hdone : headerDone a s1 = finish (if rest = [] then releaseBoard { s1 with headers := rest }
        else { s1 with headers := rest }) := by
      simp only [headerDone, hctl, hregime, if_true, hheaders1, List.tail_cons]
    refine ⟨fun hrest => ⟨_, hexec, ?_⟩, fun hrest => ⟨_, hexec, ?_⟩⟩
    · rw [hdone, if_neg hrest]
      simp [hctl]
    · rw [hdone, if_pos hrest]
      simp only [finish_frame]
      have hsame : s1.settings = s.settings ∧ s1.scrub = s.scrub ∧ s1.log.entries = s.log.entries ∧
          s1.clock.uptime = s.clock.uptime := by
        refine ⟨?_, ?_, ?_, ?_⟩
        · unfold State.settings
          rw [← hs1]
          simp
        all_goals simp [← hs1]
      obtain ⟨hsettings, hscrub, hentries, huptime⟩ := hsame
      let s2 : State := { s1 with headers := rest }
      have hs2 : s2.ctl = s.ctl := hctl
      have hsettings2 : s2.settings = s.settings := hsettings
      obtain ⟨hto, hreset, hpower, -⟩ := releaseBoard_fields s2 (by rw [hs2]; exact hregime)
      have hctlRunning := changeRegime_ctl .running s2
      have hclock := changeRegime_clock .running s2
      have hdog : (releaseBoard s2).dog = (enterRunning s2).dog := by
        rw [releaseBoard, changeRegime_dog, if_pos rfl]
      refine ⟨hto, hreset, hpower, ?_, ?_, ?_, ?_, ?_, ?_, ?_, ?_, ?_⟩
      · rw [releaseBoard, hclock]
        rfl
      · rw [releaseBoard, hclock]
        exact huptime
      · rw [releaseBoard, hctlRunning, hs2]
        rfl
      · rw [releaseBoard, hctlRunning, hs2]
        rfl
      · rw [releaseBoard, changeRegime_log]
        rfl
      · rw [releaseBoard, changeRegime_log]
        exact hentries
      · rw [releaseBoard, changeRegime_watch]
        rfl
      · rw [releaseBoard, changeRegime_trace_eq]
        rfl
      · rw [hdog]
        simp only [enterRunning, hsettings2]
        refine ⟨trivial, trivial, trivial, trivial, trivial, fun hauto => ?_, fun hauto => ?_, fun hvalid hpaused => ?_⟩
        · simp [hauto]
        · simp [hauto]
        · have hkept : ¬ loses .running s2 := fun h => absurd h.2 (by decide)
          obtain ⟨htimer, hdue, -⟩ := changeRegime_scrub_resumes (s := s2) hkept (by rw [hs2]; exact hvalid) (.inl rfl)
            (by rw [show s2.scrub = s.scrub from hscrub]; exact hpaused)
          have hinterval : s2.interval = s.interval := by
            unfold State.interval
            rw [hsettings2, show s2.scrub = s.scrub from hscrub]
          rw [hinterval] at htimer
          exact ⟨finish_due _ hdue, htimer⟩
  case change =>
    intro t lost runs length act granted
    refine ⟨fun hlost => ?_, fun hkept => ?_, fun hold hnew => ?_⟩
    · obtain ⟨hscrub, hrepair, hascrub, harepair, hafront, hamailbox, hvalid, hmem, hport, hfront, hheaders⟩ :=
        changeRegime_lost new s hlost
      exact ⟨hvalid, hmem, hport, hfront, hheaders, hafront, hamailbox, harepair, hascrub, hscrub, hrepair⟩
    · obtain ⟨hrepair, harepair⟩ := changeRegime_repairKept new s hkept
      refine ⟨hrepair, harepair, fun hruns hpaused => ?_, fun hruns hgranted hstopped => ?_,
        fun hruns hactive h => ?_, fun hstops hpaused => ?_, fun hstops hgranted => ?_,
        fun hstops hactive hwaiting => ?_⟩
      · obtain ⟨htimer, hdue, hposition, hnoFix, hfix⟩ :=
          changeRegime_scrub_resumes hkept hruns.1 hruns.2 hpaused
        exact ⟨htimer, hdue, hposition, by simp [t], by simp [t], hnoFix, hfix⟩
      · exact changeRegime_scrub_cancels hkept hruns.1 hruns.2 hgranted hstopped
      · exact changeRegime_scrub_goesOn hkept hruns.1 hruns.2 hactive h
      · exact (changeRegime_scrub_pauses hkept hstops).1 hpaused
      · exact (changeRegime_scrub_pauses hkept hstops).2.1 hgranted
      · exact (changeRegime_scrub_pauses hkept hstops).2.2 hactive hwaiting
    · obtain ⟨hprep, harbiter⟩ := changeRegime_prepAbandoned new s hnew (.inl hold)
      exact ⟨harbiter, hprep⟩

end Sys2Proof.Machine

/-! PROOFS. The watchdog's timer, the lamp and the two time bases (R81, R82, R101, R136 to R138, R140). -/

namespace Sys2Proof.Machine

open Host (Outcome)

/-! ## The lamp (R101) -/

theorem lampPattern_eq (r : Regime) (error doubtful defaults : Bool) : lampPattern r error doubtful defaults =
    if r = .running then (if error = true ∨ doubtful = true ∨ defaults = true then .steady else .off)
    else if r = .overheat ∨ r = .halted ∨ r = .offCycle then .fast else .slow := by
  cases r <;> simp [lampPattern, or_assoc]

theorem lampUpdate_pattern (s : State) : (lampUpdate s).lamp.pattern =
    lampPattern s.ctl.regime s.lamp.error s.ctl.sessionDoubtful s.loader.defaultsFlag := by
  unfold lampUpdate
  dsimp only
  split
  · next h => exact h.symm
  · rfl

theorem changeRegime_pattern (new : Regime) (s : State) : (changeRegime new s).lamp.pattern = lampPattern new s.lamp.error
    (if new = .running then s.ctl.pendingDoubtful else s.ctl.sessionDoubtful) s.loader.defaultsFlag := by
  have hctl := changeRegime_ctl new s
  have herror : (changeRegime new s).lamp.error = s.lamp.error := by simp
  have hloader : (changeRegime new s).loader = s.loader := by simp
  rw [changeRegime_eq] at hctl herror hloader ⊢
  rw [lampUpdate_pattern]
  simp only [lampUpdate_frame, lampUpdate_error] at hctl herror hloader
  rw [hctl, herror, hloader]

/-- An uncorrectable detection in RUNNING lights the lamp. -/
theorem detect_lamp (d : Detection) (s : State) (hd : d.severity = .uncorrectable) (hrun : s.ctl.regime = .running) :
    (detect d s).lamp.error = true ∧ (detect d s).lamp.pattern = .steady := by
  have hcounted : (countDetection d s).lamp.error = true ∧ (countDetection d s).lamp.pattern = .steady := by
    simp [countDetection, hd, lampUpdate_error, lampUpdate_pattern, hrun, lampPattern]
  have hkept : (detect d s).lamp = (countDetection d s).lamp := by
    unfold detect
    dsimp only
    repeat' split
    all_goals simp
  rw [hkept]
  exact hcounted

/-! ## Saturating counts -/

theorem satInc_word32 (x : BitVec 32) : satInc x = if x = 0xFFFFFFFF#32 then 0xFFFFFFFF#32 else x + 1 := by
  unfold satInc
  split <;> split <;> simp_all

/-- Settles O37: each expiry by its state and timer; the lamp through its update; the time bases. -/
theorem timersAndTicks : Obligations.TimersAndTicks := by
  refine ⟨fun s n hstate htimer => ?boot, fun s n hstate htimer => ?period, fun s n hstate htimer => ?warn,
    fun s => ⟨fun h => ?noBoot, fun h => ?noPeriod, fun h => ?noWarn⟩, fun s => ⟨fun h => ?blinks, fun h => ?still⟩,
    lampPattern_eq, fun s => ⟨fun h => if_pos h, fun h => if_neg h⟩,
    fun new s => ⟨by simp, changeRegime_pattern new s⟩, detect_lamp, fun s => ?release,
    fun s => ⟨?uptime, fun h => ?session, fun h => ?unbegun⟩⟩
  case boot =>
    show execBootLimitExpiry s = .next (dogRequest .bootLimit s)
    simp only [execBootLimitExpiry, hstate, htimer]
  case period =>
    show execPeriodExpiry s = _
    simp only [execPeriodExpiry, hstate, htimer]
    rfl
  case warn =>
    show execWarnWindowExpiry s = .next (dogRequest .kickExpiry s)
    simp only [execWarnWindowExpiry, hstate, htimer]
  case noBoot =>
    show execBootLimitExpiry s = _
    unfold execBootLimitExpiry
    split
    · next n _ htimer => exact absurd htimer (h n)
    · rfl
  case noPeriod =>
    show execPeriodExpiry s = _
    unfold execPeriodExpiry
    split
    · next n _ htimer => exact absurd htimer (h n)
    · rfl
  case noWarn =>
    show execWarnWindowExpiry s = _
    unfold execWarnWindowExpiry
    split
    · next n _ htimer => exact absurd htimer (h n)
    · rfl
  case blinks =>
    show execLampBlinkToggle s = _
    obtain h | h := h <;> simp [execLampBlinkToggle, h, LampPattern.blinks]
  case still =>
    show execLampBlinkToggle s = _
    obtain h | h := h <;> simp [execLampBlinkToggle, h, LampPattern.blinks]
  case release =>
    unfold enterReleasing
    dsimp only
    split <;> simp
  case uptime =>
    show execUptimeTick s = _
    rw [execUptimeTick, satInc_word32]
  case session =>
    show execSessionTimeTick s = _
    rw [execSessionTimeTick, if_pos h, satInc_word32]
  case unbegun =>
    show execSessionTimeTick s = _
    simp [execSessionTimeTick, h]

end Sys2Proof.Machine

/-! PROOFS. The samples of the keypad (R156 to R158, R160 to R166, R173). -/

namespace Sys2Proof.Machine

open Host (Outcome)

/-! ## Where events are produced -/

theorem produces_iff (s : State) (p : Nat) : s.produces p = true ↔ s.reportable p = true ∧ s.ctl.regime = .running := by
  simp [State.produces]

theorem reportable_iff (s : State) (p : Nat) : s.reportable p = true ↔
    p / 8 < s.settings.rows ∧ p % 8 < s.settings.cols ∧ (s.keyMap p).code ≠ 255 ∧ (s.keyMap p).chordOnly = false := by
  simp [State.reportable, State.inMatrix, and_assoc]

theorem isGhost_iff (s : State) (p : Nat) : s.isGhost p = true ↔
    ∃ r < s.settings.rows, ∃ c < s.settings.cols, r ≠ p / 8 ∧ c ≠ p % 8 ∧
      (s.key (p / 8 * 8 + c)).state.held = true ∧ (s.key (r * 8 + p % 8)).state.held = true ∧
      (s.key (r * 8 + c)).state.held = true := by
  simp only [State.isGhost, List.any_eq_true, List.mem_range, Bool.and_eq_true, decide_eq_true_eq]
  constructor
  · rintro ⟨r, hr, hrow, c, hc, ⟨⟨hcol, hright⟩, hbelow⟩, hdiagonal⟩
    exact ⟨r, hr, c, hc, hrow, hcol, hright, hbelow, hdiagonal⟩
  · rintro ⟨r, hr, c, hc, hrow, hcol, hright, hbelow, hdiagonal⟩
    exact ⟨r, hr, hrow, c, hc, ⟨⟨hcol, hright⟩, hbelow⟩, hdiagonal⟩

/-! ## A position that comes to rest -/

/-- The record of a position at rest in a state: its times are 0, and it is not announced. -/
def State.rested (s : State) (p : Nat) (state : KeyState) : KeyPosition :=
  { s.key p with state := state, countdown := 0, held := 0, repeatTime := 0, repeats := 0, announced := false }

theorem becomeDown_loud (s : State) (p : Nat) (h : s.produces p = true) : becomeDown p s =
    queueNotice (.key .press p (s.keyMap p).code none none) (setKeyPos p { s.rested p .down with announced := true } s) := by
  simp only [becomeDown, h, if_true]
  rfl

theorem becomeDown_quiet (s : State) (p : Nat) (h : s.produces p = false) :
    becomeDown p s = setKeyPos p (s.rested p .down) s := by
  simp only [becomeDown, h, Bool.false_eq_true, if_false]
  rfl

theorem pressCompletes_ghost (s : State) (p : Nat) (h : s.isGhost p = true) :
    pressCompletes p s = setKeyPos p (s.rested p .blocked) s := if_pos h

theorem pressCompletes_free (s : State) (p : Nat) (h : s.isGhost p = false) : pressCompletes p s = becomeDown p s := by
  simp [pressCompletes, h]

theorem releaseCompletes_announced (s : State) (p : Nat) (h : (s.key p).announced = true) : releaseCompletes p .down s =
    queueNotice (.key .release p (s.keyMap p).code none none) (setKeyPos p (s.rested p .up) s) := by
  simp only [releaseCompletes, h, if_true]
  rfl

theorem releaseCompletes_unstuck (s : State) (p : Nat) (h : s.produces p = true) : releaseCompletes p .stuck s =
    queueNotice (.key .unstuck p (s.keyMap p).code none none) (setKeyPos p (s.rested p .up) s) := by
  simp only [releaseCompletes, h, if_true]
  rfl

theorem releaseCompletes_silent (s : State) (p : Nat) (l : Leaving)
    (h : l = .blocked ∨ (l = .down ∧ (s.key p).announced = false) ∨ (l = .stuck ∧ s.produces p = false)) :
    releaseCompletes p l s = setKeyPos p (s.rested p .up) s := by
  obtain rfl | ⟨rfl, hannounced⟩ | ⟨rfl, hquiet⟩ := h
  · rfl
  · simp only [releaseCompletes, hannounced, Bool.false_eq_true, if_false]
    rfl
  · simp only [releaseCompletes, hquiet, Bool.false_eq_true, if_false]
    rfl

/-! ## The time of a position in DOWN (R162, R163, R166) -/

theorem repeatDue_iff (delay interval : Nat) (repeats : Byte) (t0 t1 : Nat) (h : repeats ≠ 255) :
    repeatDue delay interval repeats t0 t1 = true ↔ delay + repeats.toNat * interval ≤ t1 := by
  rw [repeatDue, if_neg h, decide_eq_true_eq]

theorem setKeyPos_setKeyPos (s : State) (p : Nat) (k k' : KeyPosition) :
    setKeyPos p k' (setKeyPos p k s) = setKeyPos p k' s := by
  simp [setKeyPos]

/-- The state in which auto-repeat is considered: the held time has advanced. -/
def State.heldOn (s : State) (p : Nat) : KeyPosition :=
  { s.key p with held := (s.key p).held + s.settings.scanPeriod }

theorem advanceKey_holds (s : State) (p : Nat)
    (h : (s.key p).held + s.settings.scanPeriod < s.settings.stuckTime * 1000) :
    advanceKey s p = autoRepeat p (setKeyPos p (s.heldOn p) s) := if_neg (by omega)

theorem advanceKey_sticks (s : State) (p : Nat)
    (h : s.settings.stuckTime * 1000 ≤ (s.key p).held + s.settings.scanPeriod) : advanceKey s p =
    let stuck : KeyPosition := { s.key p with
      state := .stuck, held := (s.key p).held + s.settings.scanPeriod, announced := false,
      stuckCount := satInc (s.key p).stuckCount, repeatTime := 0, repeats := 0 }
    if s.produces p then
      queueNotice (.key .stuck p (s.keyMap p).code none (some (satInc (s.key p).stuckCount))) (setKeyPos p stuck s)
    else setKeyPos p stuck s := if_pos h

/-- Auto-repeat in the state in which the held time has advanced. -/
theorem autoRepeat_heldOn (s : State) (p : Nat) (hp : p < s.keypad.positions.length) :
    autoRepeat p (setKeyPos p (s.heldOn p) s) =
      if (s.key p).announced then
        let t := (s.key p).repeatTime + s.settings.scanPeriod
        if repeatDue s.settings.repeatDelay s.settings.repeatInterval (s.key p).repeats (s.key p).repeatTime t then
          let s' := setKeyPos p { s.heldOn p with repeatTime := t, repeats := satInc (s.key p).repeats } s
          if (s.keyMap p).repeats then
            queueNotice (.key .repeats p (s.keyMap p).code (some (satInc (s.key p).repeats)) none) s'
          else s'
        else setKeyPos p { s.heldOn p with repeatTime := t } s
      else setKeyPos p (s.heldOn p) s := by
  have hkey : (setKeyPos p (s.heldOn p) s).key p = s.heldOn p := key_setKeyPos_same p _ s hp
  simp only [autoRepeat, hkey, setKeyPos_setKeyPos]
  rfl

/-! ## The debounce of one position (R158) -/

section Debounce

variable (contacts : BitVec 64) (s : State) (p : Nat)

theorem debounceKey_closed (h : contacts.getLsbD p = true) : debounceKey contacts s p =
    match (s.key p).state with
    | .up => setKeyPos p { s.key p with state := .pressing, countdown := s.debounceLength } s
    | .pressing =>
      if (s.key p).countdown ≤ 1 then pressCompletes p s
      else setKeyPos p { s.key p with countdown := (s.key p).countdown - 1 } s
    | .releasing l => setKeyPos p { s.key p with state := l.state, countdown := 0 } s
    | _ => s := by
  simp only [debounceKey, h, if_true] <;> rfl

theorem debounceKey_open (h : contacts.getLsbD p = false) : debounceKey contacts s p =
    match (s.key p).state with
    | .up => s
    | .pressing => setKeyPos p { s.key p with state := .up, countdown := 0 } s
    | .down => setKeyPos p { s.key p with state := .releasing .down, countdown := s.debounceLength } s
    | .blocked => setKeyPos p { s.key p with state := .releasing .blocked, countdown := s.debounceLength } s
    | .stuck => setKeyPos p { s.key p with state := .releasing .stuck, countdown := s.debounceLength } s
    | .releasing l =>
      if (s.key p).countdown ≤ 1 then releaseCompletes p l s
      else setKeyPos p { s.key p with countdown := (s.key p).countdown - 1 } s := by
  simp only [debounceKey, h, Bool.false_eq_true, if_false] <;> rfl

end Debounce

theorem matrix_congr {s t : State} (h : t.loader = s.loader) : t.matrix = s.matrix := by
  have hin (p : Nat) : t.inMatrix p = s.inMatrix p := by
    unfold State.inMatrix State.settings
    rw [h]
  simp only [State.matrix, funext hin]

theorem foldl_loader {α : Type} (f : State → α → State) (hf : ∀ s x, (f s x).loader = s.loader) (xs : List α) (s : State) :
    (xs.foldl f s).loader = s.loader := by
  induction xs generalizing s with
  | nil => rfl
  | cons x xs ih => exact (ih _).trans (hf s x)

/-- The positions whose time advances: those in DOWN before the debounce and after it. -/
theorem takeSample_eq (contacts : BitVec 64) (s : State) : takeSample contacts s =
    let s1 := s.matrix.foldl (debounceKey contacts) s
    let s2 := (s.matrix.filter fun p => decide ((s.key p).state = .down) && decide ((s1.key p).state = .down)).foldl
      advanceKey s1
    (List.range 4).foldl judgeChord (s.matrix.foldl retestKey s2) := by
  have hmatrix (ps : List Nat) : (ps.foldl advanceKey (s.matrix.foldl (debounceKey contacts) s)).matrix = s.matrix :=
    matrix_congr ((foldl_loader advanceKey (fun s p => by simp) _ _).trans (foldl_loader _ (fun s p => by simp) _ s))
  simp only [takeSample, List.filter_filter, Bool.and_comm, hmatrix]

/-- Settles O38: the sample as its steps, and each step by the state of the position. -/
theorem scanSamples : Obligations.ScanSamples := by
  refine ⟨fun s n contacts htimer => ?sample, fun s contacts h => ?stopped, fun s p contacts => ?debounce,
    fun s p => ?advance, fun s p h => ?blocked, fun s p hblocked hfree => ?retest, reportable_iff, isGhost_iff⟩
  case sample =>
    intro s0 matrix s1 s2 s3
    have hexec : exec (.scanSample contacts) s = .next (finish (takeSample contacts s0)) := by
      show execScanSample contacts s = _
      simp only [execScanSample, htimer, s0]
    rw [hexec, takeSample_eq]
    rfl
  case stopped =>
    show execScanSample contacts s = _
    unfold execScanSample
    split
    · next n htimer => exact absurd htimer (h n)
    · rfl
  case debounce =>
    intro k set loud rest length t
    have hloud : s.produces p = true ↔ loud := produces_iff s p
    refine ⟨fun hclosed => ?_, fun hopen => ?_⟩
    · have ht : t = _ := debounceKey_closed contacts s p hclosed
      refine ⟨fun h => ?_, fun h hlong => ?_, fun h hshort hghost => ?_, fun h hshort hfree hquiet => ?_,
        fun h hshort hfree hproduced => ?_, fun l h => ?_, fun h => ?_⟩
      · rw [ht, h]
        rfl
      · conv => lhs; rw [ht, h]
        exact (if_neg (Nat.not_le.2 hlong)).trans rfl
      · rw [ht, h]
        exact (if_pos hshort).trans (pressCompletes_ghost s p hghost)
      · rw [ht, h]
        exact (if_pos hshort).trans ((pressCompletes_free s p hfree).trans
          (becomeDown_quiet s p (Bool.eq_false_iff.2 (mt hloud.1 hquiet))))
      · rw [ht, h]
        exact (if_pos hshort).trans ((pressCompletes_free s p hfree).trans (becomeDown_loud s p (hloud.2 hproduced)))
      · rw [ht, h]
        rfl
      · rw [ht]
        obtain h | h | h := h <;> rw [h]
    · have ht : t = _ := debounceKey_open contacts s p hopen
      refine ⟨fun h => ?_, fun h => ?_, fun h => ?_, fun h => ?_, fun h => ?_, fun l h hlong => ?_,
        fun l h hshort => ⟨fun hl hannounced => ?_, fun hl hproduced => ?_, fun hl => ?_⟩⟩
      · rw [ht, h]
      · rw [ht, h]
        rfl
      · rw [ht, h]
        rfl
      · rw [ht, h]
        rfl
      · rw [ht, h]
        rfl
      · conv => lhs; rw [ht, h]
        exact (if_neg (Nat.not_le.2 hlong)).trans rfl
      · rw [ht, h, hl]
        exact (if_pos hshort).trans (releaseCompletes_announced s p hannounced)
      · rw [ht, h, hl]
        exact (if_pos hshort).trans (releaseCompletes_unstuck s p (hloud.2 hproduced))
      · rw [ht, h]
        exact (if_pos hshort).trans (releaseCompletes_silent s p l
          (hl.imp_right (Or.imp_right fun ⟨hstuck, hquiet⟩ => ⟨hstuck, Bool.eq_false_iff.2 (mt hloud.1 hquiet)⟩)))
  case advance =>
    intro k set held stuck loud
    have hloud : s.produces p = true ↔ loud := produces_iff s p
    refine ⟨fun hlong hquiet => ?_, fun hlong hproduced => ?_, fun hshort hsilent hp => ?_,
      fun hshort hannounced hp hcount => ?_⟩
    · rw [advanceKey_sticks s p hlong]
      exact if_neg (mt hloud.1 hquiet)
    · rw [advanceKey_sticks s p hlong]
      exact if_pos (hloud.2 hproduced)
    · rw [advanceKey_holds s p hshort, autoRepeat_heldOn s p hp]
      exact if_neg (Bool.eq_false_iff.1 hsilent)
    · intro time due made
      have hdue := repeatDue_iff s.settings.repeatDelay s.settings.repeatInterval k.repeats k.repeatTime time hcount
      rw [advanceKey_holds s p hshort, autoRepeat_heldOn s p hp]
      refine ⟨fun hnot => ?_, fun hat hrepeats => ?_, fun hat hrepeats => ?_⟩
      · exact (if_pos hannounced).trans (if_neg (mt hdue.1 hnot))
      · exact (if_pos hannounced).trans ((if_pos (hdue.2 hat)).trans (if_neg (Bool.eq_false_iff.1 hrepeats)))
      · exact (if_pos hannounced).trans ((if_pos (hdue.2 hat)).trans (if_pos hrepeats))
  case blocked =>
    refine if_neg fun ⟨hblocked, hfree⟩ => ?_
    obtain h | h := h
    · exact h hblocked
    · rw [h] at hfree
      contradiction
  case retest =>
    intro set loud down
    have ht : retestKey s p = becomeDown p s := if_pos ⟨hblocked, hfree⟩
    have hloud : s.produces p = true ↔ loud := produces_iff s p
    rw [ht]
    exact ⟨fun hquiet => becomeDown_quiet s p (Bool.eq_false_iff.2 (mt hloud.1 hquiet)),
      fun hproduced => becomeDown_loud s p (hloud.2 hproduced)⟩

end Sys2Proof.Machine

/-! PROOFS. The chords of the keypad (R170 to R172) and SET-KEY (R174). -/

namespace Sys2Proof.Machine

open Host (Outcome)

/-! ## A chord's condition (R170) -/

theorem downForChords_iff (k : KeyState) : k.downForChords = true ↔ k = .down ∨ k = .releasing .down := by
  cases k with
  | releasing l => cases l <;> simp [KeyState.downForChords]
  | up | pressing | down | blocked | stuck => simp [KeyState.downForChords]

theorem heldSet_iff (k : KeyState) : k.held = true ↔
    k = .down ∨ k = .blocked ∨ k = .releasing .down ∨ k = .releasing .blocked := by
  cases k with
  | releasing l => cases l <;> simp [KeyState.held]
  | up | pressing | down | blocked | stuck => simp [KeyState.held]

theorem chordHolds_iff (s : State) (c : ChordRecord) : s.chordHolds c = true ↔ c.chord.enabled = true ∧ c.spent = false ∧
    (∀ p ∈ c.chord.members, (s.key p).state = .down ∨ (s.key p).state = .releasing .down) ∧
    (∀ p < 64, p ∉ c.chord.members → (s.keyMap p).code ≠ 255 →
      (s.key p).state ≠ .down ∧ (s.key p).state ≠ .releasing .down) := by
  have hother (p : Nat) :
      (c.chord.members.contains p || decide ((s.keyMap p).code = 255) || !(s.key p).state.downForChords) = true ↔
        (p ∉ c.chord.members → (s.keyMap p).code ≠ 255 →
          (s.key p).state ≠ .down ∧ (s.key p).state ≠ .releasing .down) := by
    rw [← not_or, ← downForChords_iff]
    simp only [Bool.or_eq_true, List.contains_iff_mem, decide_eq_true_eq, Bool.not_eq_true', Bool.not_eq_true, or_assoc]
    by_cases hmember : p ∈ c.chord.members
    · simp [hmember]
    · simp only [hmember, false_or, not_false_eq_true, true_imp_iff, Classical.or_iff_not_imp_left, ne_eq]
  simp only [State.chordHolds, Bool.and_eq_true, List.all_eq_true, downForChords_iff, List.mem_range, hother,
    Bool.not_eq_true', and_assoc]

/-! ## What recognising a chord changes (R171) -/

theorem chord_setChord_same (s : State) (i : Nat) (c : ChordRecord) (hi : i < s.keypad.chords.length) :
    (setChord i c s).chord i = c := by
  simp [setChord, State.chord, List.getD_eq_getElem?_getD, hi]

theorem chord_setChord_other (s : State) (i j : Nat) (c : ChordRecord) (hj : j ≠ i) :
    (setChord i c s).chord j = s.chord j := by
  simp [setChord, State.chord, List.getD_eq_getElem?_getD, List.getElem?_set_ne hj.symm]

theorem setChord_setChord (s : State) (i : Nat) (c c' : ChordRecord) :
    setChord i c' (setChord i c s) = setChord i c' s := by
  simp [setChord]

theorem key_setKeyPos_silent (s : State) (p q : Nat) :
    (setKeyPos p { s.key p with announced := false } s).key q =
      if q = p then { s.key q with announced := false } else s.key q := by
  by_cases h : q = p
  · subst h
    rw [if_pos rfl]
    by_cases hq : q < s.keypad.positions.length
    · exact key_setKeyPos_same q _ s hq
    · have hinitial : s.key q = KeyPosition.initial := by
        simp [State.key, List.getD_eq_getElem?_getD, List.getElem?_eq_none (Nat.not_lt.1 hq)]
      have hset : setKeyPos q { s.key q with announced := false } s = s := by
        unfold setKeyPos
        rw [List.set_eq_of_length_le (Nat.not_lt.1 hq)]
      rw [hset, hinitial]
      rfl
  · rw [if_neg h]
    exact key_setKeyPos_other p q _ s h

theorem key_clearAnnounced (ps : List Nat) (s : State) (q : Nat) : (clearAnnounced ps s).key q =
    if q ∈ ps then { s.key q with announced := false } else s.key q := by
  induction ps generalizing s with
  | nil => simp [clearAnnounced]
  | cons p ps ih =>
    show (clearAnnounced ps (setKeyPos p { s.key p with announced := false } s)).key q = _
    rw [ih, key_setKeyPos_silent]
    by_cases hq : q = p <;> by_cases hmem : q ∈ ps <;> simp [hq, hmem]

/-! ## One chord at the end of a sample -/

/-- The chord record that a sample's end judges: spent clears when no member is held (R172). -/
def State.judged (s : State) (i : Nat) : ChordRecord :=
  if (s.chord i).chord.members.any fun p => (s.key p).state.held then s.chord i else { s.chord i with spent := false }

theorem judgeChord_eq (s : State) (i : Nat) : judgeChord s i =
    if s.chordHolds (s.judged i) then
      if (s.judged i).counting then
        let n := (s.judged i).counter + s.settings.scanPeriod
        if (s.judged i).chord.hold ≤ n then recognise i (setChord i { s.judged i with counter := n } s)
        else setChord i { s.judged i with counter := n } s
      else setChord i { s.judged i with counting := true, counter := 0 } s
    else setChord i { s.judged i with counting := false, counter := 0 } s := rfl

/-- A recognised chord's record, before its outcome is awaited. -/
def ChordRecord.fired (c : ChordRecord) : ChordRecord := { c with spent := true, counting := false, counter := 0 }

/-- The state once a chord's record is replaced and its members are no longer announced. -/
def silenced (i : Nat) (c : ChordRecord) (s : State) : State := clearAnnounced c.chord.members (setChord i c s)

theorem recognise_eq (i : Nat) (c : ChordRecord) (s : State) (hi : i < s.keypad.chords.length) :
    recognise i (setChord i c s) =
      let tag : ChordTag := { chord := i, regime := s.ctl.regime }
      let sent := silenced i { c.fired with awaited := true } s
      match c.chord.action with
      | .warmRestart => sendRequest .chord false (some tag) sent
      | .coldRestart => sendRequest .chord true (some tag) sent
      | .releaseHold => { sent with holdReleases := sent.holdReleases ++ [tag] }
      | .serviceNote => chordNotice i .noted s.ctl.regime (silenced i c.fired s) := by
  simp only [recognise, chord_setChord_same s i c hi, setChord_setChord]
  rfl

section Silenced

variable (i : Nat) (c : ChordRecord) (s : State)

theorem silenced_chord (hi : i < s.keypad.chords.length) : (silenced i c s).chord i = c ∧
    ∀ j, j ≠ i → (silenced i c s).chord j = s.chord j := by
  have hchords (j : Nat) : (silenced i c s).chord j = (setChord i c s).chord j := by
    unfold State.chord silenced
    simp
  exact ⟨(hchords i).trans (chord_setChord_same s i c hi), fun j hj => (hchords j).trans (chord_setChord_other s i j c hj)⟩

theorem silenced_key (p : Nat) : ((silenced i c s).key p).state = (s.key p).state ∧
    (p ∈ c.chord.members → ((silenced i c s).key p).announced = false) := by
  have hkey : (setChord i c s).key p = s.key p := rfl
  rw [silenced, key_clearAnnounced, hkey]
  split
  · exact ⟨rfl, fun _ => rfl⟩
  · next h => exact ⟨rfl, fun hmember => absurd hmember h⟩

theorem silenced_sent : (silenced i c s).requests = s.requests ∧ (silenced i c s).holdReleases = s.holdReleases ∧
    (silenced i c s).queue = s.queue ∧ (silenced i c s).clock = s.clock := by
  simp [silenced, setChord]

end Silenced

/-- What every recognised chord changes of the keypad. -/
def Recognised (i : Nat) (c : ChordRecord) (s t : State) : Prop :=
  ∃ c', c'.spent = true ∧ c'.counting = false ∧ c'.counter = 0 ∧ c'.chord = c.chord ∧ t.keypad = (silenced i c' s).keypad

theorem Recognised.fields {i : Nat} {c : ChordRecord} {s t : State} (h : Recognised i c s t)
    (hi : i < s.keypad.chords.length) :
    (t.chord i).spent = true ∧ (t.chord i).counting = false ∧ (t.chord i).counter = 0 ∧
    (∀ p ∈ c.chord.members, (t.key p).announced = false) ∧ (∀ p, (t.key p).state = (s.key p).state) ∧
    (∀ j, j ≠ i → t.chord j = s.chord j) := by
  obtain ⟨c', hspent, hcounting, hcounter, hchord, hkeypad⟩ := h
  have hsameChord (j : Nat) : t.chord j = (silenced i c' s).chord j := by unfold State.chord; rw [hkeypad]
  have hsameKey (p : Nat) : t.key p = (silenced i c' s).key p := by unfold State.key; rw [hkeypad]
  obtain ⟨hthis, hother⟩ := silenced_chord i c' s hi
  simp only [hsameChord, hsameKey, hthis]
  exact ⟨hspent, hcounting, hcounter, fun p hp => (silenced_key i c' s p).2 (by rw [hchord]; exact hp),
    fun p => (silenced_key i c' s p).1, hother⟩

/-- Settles O39: the condition; and each branch of the judgement, the last of them by the chord's action. -/
theorem chords : Obligations.Chords := by
  refine ⟨chordHolds_iff, fun s i hi => ?_⟩
  intro held old t c hkept hcleared put n tag fires
  have hc : s.judged i = c := by
    unfold State.judged
    split
    · next h =>
      obtain ⟨p, hp, hheld⟩ := List.any_eq_true.1 h
      exact (hkept ⟨p, hp, (heldSet_iff _).1 hheld⟩).symm
    · next h => exact (hcleared fun p hp hheld => h (List.any_eq_true.2 ⟨p, hp, (heldSet_iff _).2 hheld⟩)).symm
  have ht : t = _ := judgeChord_eq s i
  rw [hc] at ht
  refine ⟨fun hfails => ?_, fun hholds hstopped => ?_, fun hholds hcounts hshort => ?_, fun ⟨hholds, hcounts, hlong⟩ => ?_⟩
  · rw [ht]
    exact if_neg (Bool.eq_false_iff.1 hfails)
  · rw [ht]
    exact (if_pos hholds).trans (if_neg (Bool.eq_false_iff.1 hstopped))
  · rw [ht]
    exact (if_pos hholds).trans ((if_pos hcounts).trans (if_neg (Nat.not_le.2 hshort)))
  · have hfired := ht.trans ((if_pos hholds).trans ((if_pos hcounts).trans ((if_pos hlong).trans
      (recognise_eq i { c with counter := n } s hi))))
    let awaiting : ChordRecord := { c.fired with awaited := true }
    obtain ⟨hrequests, hreleases, hqueue, -⟩ := silenced_sent i awaiting s
    have hawaited : (silenced i awaiting s).chord i = awaiting := (silenced_chord i awaiting s hi).1
    cases haction : c.chord.action with
    | warmRestart =>
      have hsent : t = sendRequest .chord false (some tag) (silenced i awaiting s) := by
        rw [hfired]
        simp only [haction]
        rfl
      have hkeypad : t.keypad = (silenced i awaiting s).keypad := (congrArg State.keypad hsent).trans rfl
      have hthis : (t.chord i).awaited = true := by
        rw [State.chord, hkeypad]
        exact congrArg (·.awaited) hawaited
      obtain ⟨hspent, hcounting, hcounter, hkeys, hstates, hothers⟩ :=
        Recognised.fields (t := t) ⟨awaiting, rfl, rfl, rfl, rfl, hkeypad⟩ hi
      refine ⟨hspent, hcounting, hcounter, hkeys, hstates, hothers, fun _ => ⟨hthis, ?_, ?_, ?_⟩, nofun, nofun, nofun⟩
      all_goals rw [hsent]
      · exact hreleases
      · exact hqueue
      · exact congrArg (· ++ _) hrequests
    | coldRestart =>
      have hsent : t = sendRequest .chord true (some tag) (silenced i awaiting s) := by
        rw [hfired]
        simp only [haction]
        rfl
      have hkeypad : t.keypad = (silenced i awaiting s).keypad := (congrArg State.keypad hsent).trans rfl
      have hthis : (t.chord i).awaited = true := by
        rw [State.chord, hkeypad]
        exact congrArg (·.awaited) hawaited
      obtain ⟨hspent, hcounting, hcounter, hkeys, hstates, hothers⟩ :=
        Recognised.fields (t := t) ⟨awaiting, rfl, rfl, rfl, rfl, hkeypad⟩ hi
      refine ⟨hspent, hcounting, hcounter, hkeys, hstates, hothers, nofun, fun _ => ⟨hthis, ?_, ?_, ?_⟩, nofun, nofun⟩
      all_goals rw [hsent]
      · exact hreleases
      · exact hqueue
      · exact congrArg (· ++ _) hrequests
    | releaseHold =>
      have hsent : t = { silenced i awaiting s with holdReleases := (silenced i awaiting s).holdReleases ++ [tag] } := by
        rw [hfired]
        simp only [haction]
        rfl
      have hkeypad : t.keypad = (silenced i awaiting s).keypad := (congrArg State.keypad hsent).trans rfl
      have hthis : (t.chord i).awaited = true := by
        rw [State.chord, hkeypad]
        exact congrArg (·.awaited) hawaited
      obtain ⟨hspent, hcounting, hcounter, hkeys, hstates, hothers⟩ :=
        Recognised.fields (t := t) ⟨awaiting, rfl, rfl, rfl, rfl, hkeypad⟩ hi
      refine ⟨hspent, hcounting, hcounter, hkeys, hstates, hothers, nofun, nofun, fun _ => ⟨hthis, ?_, ?_, ?_⟩, nofun⟩
      all_goals rw [hsent]
      · exact hrequests
      · exact hqueue
      · exact congrArg (· ++ _) hreleases
    | serviceNote =>
      have hnoted : t = chordNotice i .noted s.ctl.regime (silenced i c.fired s) := by
        rw [hfired]
        simp only [haction]
        rfl
      obtain ⟨hrequests, hreleases, hqueue, hclock⟩ := silenced_sent i c.fired s
      have hrecord : (silenced i c.fired s).chord i = c.fired := (silenced_chord i c.fired s hi).1
      have hbody : t = queueNotice (.chord i .serviceNote c.chord.members .noted s.ctl.regime)
          (silenced i c.fired s) := by
        rw [hnoted, chordNotice, hrecord, ← haction]
        rfl
      obtain ⟨hspent, hcounting, hcounter, hkeys, hstates, hothers⟩ :=
        Recognised.fields (t := t) ⟨c.fired, rfl, rfl, rfl, rfl, by rw [hbody]; simp⟩ hi
      refine ⟨hspent, hcounting, hcounter, hkeys, hstates, hothers, nofun, nofun, nofun, fun _ => ⟨?_, ?_, fun hroom => ?_⟩⟩
      all_goals rw [hbody]
      · simp [hrequests]
      · simp [hreleases]
      · rw [queueNotice_room _ _ rfl (by rw [hqueue]; exact hroom), hqueue, hclock]

/-! ## SET-KEY (R174) -/

theorem boolOfCode_spec (n : Nat) : (n ≤ 1 → boolOfCode n = some (decide (n = 1))) ∧ (¬ n ≤ 1 → boolOfCode n = none) := by
  match n with
  | 0 => exact ⟨fun _ => rfl, fun h => absurd (by omega) h⟩
  | 1 => exact ⟨fun _ => rfl, fun h => absurd (by omega) h⟩
  | n + 2 => exact ⟨fun h => absurd h (by omega), fun _ => rfl⟩

theorem keyArgs_spec (s : State) :
    let legal : Prop := s.arg 2 < 64 ∧ s.arg 3 ≤ 255 ∧ s.arg 4 ≤ 1 ∧ s.arg 5 ≤ 1
    (legal → s.keyArgs = some
      { code := BitVec.ofNat 8 (s.arg 3), repeats := decide (s.arg 4 = 1), chordOnly := decide (s.arg 5 = 1) }) ∧
    (¬ legal → s.keyArgs = none) := by
  intro legal
  refine ⟨fun ⟨hposition, hcode, hrepeats, hchord⟩ => ?_, fun h => ?_⟩
  · simp [State.keyArgs, (boolOfCode_spec _).1 hrepeats, (boolOfCode_spec _).1 hchord, hposition, hcode]
  · by_cases hrepeats : s.arg 4 ≤ 1
    · by_cases hchord : s.arg 5 ≤ 1
      · have hbad : ¬ (s.arg 2 < 64 ∧ s.arg 3 ≤ 255) := fun ⟨hp, hc⟩ => h ⟨hp, hc, hrepeats, hchord⟩
        simp [State.keyArgs, (boolOfCode_spec _).1 hrepeats, (boolOfCode_spec _).1 hchord, hbad]
      · simp [State.keyArgs, (boolOfCode_spec _).1 hrepeats, (boolOfCode_spec _).2 hchord]
    · simp [State.keyArgs, (boolOfCode_spec _).2 hrepeats]

/-- Settles O40: SET-KEY by its arguments and the position's reportability with the new entry. -/
theorem setKey : Obligations.SetKey := by
  intro s hhanded p legal e s1
  have hexec : exec .setKey s = .next (finish (takeSetKey s)) := taking_handed .setKey takeSetKey s hhanded
  obtain ⟨hlegal, hillegal⟩ := keyArgs_spec s
  refine ⟨fun h => ?_, fun h hreportable => ?_, fun h hsilent => ?_⟩
  · rw [hexec, takeSetKey, hillegal h]
    rfl
  · have hplaced : placeKey p e s = s1 := if_pos hreportable
    rw [hexec, takeSetKey, hlegal h]
    exact congrArg (fun x => Outcome.next (finish (completeCommand .done [] x))) hplaced
  · have hplaced : placeKey p e s = setKeyPos p { s1.key p with announced := false } s1 :=
      if_neg (Bool.eq_false_iff.1 hsilent)
    rw [hexec, takeSetKey, hlegal h]
    exact congrArg (fun x => Outcome.next (finish (completeCommand .done [] x))) hplaced

end Sys2Proof.Machine

/-! PROOFS. The notice queue (R189, R190), and the bytes of the words that the mailbox unit writes (R182, R187). -/

namespace Sys2Proof.Machine

open Host (Outcome)

/-! ## The bytes of words -/

theorem wordByte_getLsbD (w : Word) (k j : Nat) (hj : j < 8) : (wordByte w k).getLsbD j = w.getLsbD (8 * k + j) := by
  simp [wordByte, hj]

/-- A word is decided by its 8 bytes. -/
theorem word_ext {v w : Word} (h : ∀ k < 8, wordByte v k = wordByte w k) : v = w := by
  apply BitVec.eq_of_getLsbD_eq
  intro i hi
  have hbyte := congrArg (·.getLsbD (i % 8)) (h (i / 8) (by omega))
  simp only [wordByte_getLsbD _ _ _ (Nat.mod_lt _ (by decide : 0 < 8)), Nat.div_add_mod] at hbyte
  exact hbyte

/-- Byte `k` of the word that a longer list of bytes begins with. -/
theorem wordByte_wordOf_long (bs : List Byte) (k : Nat) (hlen : 8 ≤ bs.length) (hk : k < 8) :
    wordByte (wordOf bs) k = bs.getD k 0 := by
  have htake : wordOf bs = wordOf (bs.take 8) := by simp [wordOf, List.take_take]
  rw [htake, wordByte_wordOf (bs.take 8) k (by simp [hlen]) hk, List.getD_eq_getElem?_getD,
    List.getElem?_eq_getElem (by omega), List.getElem_take]
  rfl

theorem wordsOf_getD (count k : Nat) (bs : List Byte) (hk : k < count) :
    (wordsOf count bs).getD k 0 = wordOf (bs.drop (8 * k)) := by
  simp [wordsOf, List.getD_eq_getElem?_getD, hk]

/-- Byte `i` of the words that bytes are laid out in. -/
theorem wordsOf_byte (count i : Nat) (bs : List Byte) (hi : i < 8 * count) (hlen : 8 * count ≤ bs.length) :
    wordByte ((wordsOf count bs).getD (i / 8) 0) (i % 8) = bs.getD i 0 := by
  have hmod : i % 8 < 8 := Nat.mod_lt _ (by decide)
  rw [wordsOf_getD count (i / 8) bs (by omega),
    wordByte_wordOf_long _ _ (by rw [List.length_drop]; omega) hmod, List.getD_eq_getElem?_getD, List.getElem?_drop,
    List.getD_eq_getElem?_getD, Nat.div_add_mod]

/-! ## The completion record (R182) -/

/-- Byte `i` of the result words: a result, a free value beside one, or the byte fetched. -/
def bodyByte (s : State) (results : List Byte) (i : Nat) : Byte :=
  if i < results.length then results.getD i 0
  else if i < (results.length + 7) / 8 * 8 then Config.resultPad s.freeCount i
  else wordByte (s.recordWord (2 + i / 8)) (i % 8)

theorem completionWords_eq (s : State) (status : Status) (results : List Byte) : completionWords s status results =
    s.recordWord 0 :: BitVec.ofNat 64 status.code :: wordsOf 6 ((List.range 48).map (bodyByte s results)) := rfl

theorem getD_cons_cons (v w : Word) (ws : List Word) (k : Nat) : (v :: w :: ws).getD (2 + k) 0 = ws.getD k 0 := by
  rw [Nat.add_comm]
  rfl

theorem completionWords_byte (s : State) (status : Status) (results : List Byte) (i : Nat) (hi : i < 48) :
    wordByte ((completionWords s status results).getD (2 + i / 8) 0) (i % 8) = bodyByte s results i := by
  have hword : (completionWords s status results).getD (2 + i / 8) 0 =
      (wordsOf 6 ((List.range 48).map (bodyByte s results))).getD (i / 8) 0 := by
    rw [completionWords_eq, getD_cons_cons]
  rw [hword, wordsOf_byte 6 i _ (by omega) (by simp)]
  simp [List.getD_eq_getElem?_getD, hi]

/-- A word that no result reaches stays as fetched. -/
theorem completionWords_unreached (s : State) (status : Status) (results : List Byte) (k : Nat) (hk : k < 6)
    (h : results.length ≤ 8 * k) : (completionWords s status results).getD (2 + k) 0 = s.recordWord (2 + k) := by
  refine word_ext fun j hj => ?_
  have hbyte := completionWords_byte s status results (8 * k + j) (by omega)
  have hdiv : (8 * k + j) / 8 = k := by omega
  have hmod : (8 * k + j) % 8 = j := by omega
  rw [hdiv, hmod] at hbyte
  rw [hbyte, bodyByte, if_neg (by omega), if_neg (by omega), hdiv, hmod]

/-! ## The notice queue (R189, R190) -/

theorem dropOldestKey_first (older newer : List Notice) (x : Notice) (hx : x.body.isKey = true)
    (h : ∀ y ∈ older, y.body.isKey = false) : dropOldestKey (older ++ x :: newer) = some (older ++ newer) := by
  induction older with
  | nil => simp [dropOldestKey, hx]
  | cons y older ih =>
    simp [dropOldestKey, h y (by simp), ih fun z hz => h z (List.mem_cons_of_mem _ hz)]

theorem dropOldestKey_none (q : List Notice) (h : ∀ y ∈ q, y.body.isKey = false) : dropOldestKey q = none := by
  induction q with
  | nil => rfl
  | cons y q ih => simp [dropOldestKey, h y (by simp), ih fun z hz => h z (List.mem_cons_of_mem _ hz)]

/-- The KEY entry displaced is the oldest that is not being posted. -/
theorem displaceKey_first (posting : Option Posting) (older newer : List Notice) (x : Notice)
    (hx : x.body.isKey = true) (hdisplaceable : posting = none ∨ older ≠ [])
    (h : ∀ (o' n' : List Notice) (y : Notice), older = o' ++ y :: n' →
      y.body.isKey = false ∨ ¬ (posting = none ∨ o' ≠ [])) :
    displaceKey posting.isSome (older ++ x :: newer) = some (older ++ newer) := by
  cases posting with
  | none =>
    refine dropOldestKey_first older newer x hx fun y hy => ?_
    obtain ⟨o', n', hsplit⟩ := List.append_of_mem hy
    exact (h o' n' y hsplit).resolve_right fun hnot => hnot (.inl rfl)
  | some p =>
    cases older with
    | nil => simp at hdisplaceable
    | cons n older =>
      have hrest : dropOldestKey (older ++ x :: newer) = some (older ++ newer) := by
        refine dropOldestKey_first older newer x hx fun y hy => ?_
        obtain ⟨o', n', hsplit⟩ := List.append_of_mem hy
        exact (h (n :: o') n' y (by rw [hsplit]; rfl)).resolve_right fun hnot => hnot (.inr (by simp))
      simp [displaceKey, hrest]

theorem displaceKey_none (posting : Option Posting) (q : List Notice)
    (h : ∀ (older newer : List Notice) (x : Notice), q = older ++ x :: newer →
      x.body.isKey = false ∨ ¬ (posting = none ∨ older ≠ [])) : displaceKey posting.isSome q = none := by
  cases posting with
  | none =>
    refine dropOldestKey_none q fun y hy => ?_
    obtain ⟨o', n', hsplit⟩ := List.append_of_mem hy
    exact (h o' n' y hsplit).resolve_right fun hnot => hnot (.inl rfl)
  | some p =>
    cases q with
    | nil => rfl
    | cons n rest =>
      have hrest : dropOldestKey rest = none := by
        refine dropOldestKey_none rest fun y hy => ?_
        obtain ⟨o', n', hsplit⟩ := List.append_of_mem hy
        exact (h (n :: o') n' y (by rw [hsplit]; rfl)).resolve_right fun hnot => hnot (.inr (by simp))
      simp [displaceKey, hrest]

/-- Settles O44: a notice by its kind, the regime and the room in the queue. -/
theorem noticeQueue : Obligations.NoticeQueue := by
  intro b s n dropped displaceable
  have heq : queueNotice b s = if b.isKey && decide (s.ctl.regime ≠ .running) then dropped
      else if s.queue.length < 32 then { s with queue := s.queue ++ [n] }
      else if b.isKey then dropped
      else
        match displaceKey s.posting.isSome s.queue with
        | some q => { s with queue := q ++ [n], missed := satAdd s.missed 1 }
        | none => dropped := by
    unfold queueNotice
    rfl
  refine ⟨fun hkey hregime => ?_, fun h => ?_⟩
  · rw [heq]
    exact if_pos (by simp [hkey, hregime])
  · have hqueued : ¬ (b.isKey && decide (s.ctl.regime ≠ .running)) = true := by
      obtain h | h := h <;> simp [h]
    rw [if_neg hqueued] at heq
    refine ⟨fun hroom => ?_, fun hfull hkey => ?_, fun hfull hother => ⟨fun older newer x hsplit hx hd hfirst => ?_,
      fun hnone => ?_⟩⟩
    · rw [heq, if_pos hroom]
    · rw [heq, if_neg (Nat.not_lt.2 hfull), if_pos hkey]
    · rw [heq, if_neg (Nat.not_lt.2 hfull), if_neg (Bool.eq_false_iff.1 hother), hsplit,
        displaceKey_first s.posting older newer x hx hd hfirst]
    · rw [heq, if_neg (Nat.not_lt.2 hfull), if_neg (Bool.eq_false_iff.1 hother),
        displaceKey_none s.posting s.queue hnone]

end Sys2Proof.Machine

/-! PROOFS. The fetch, the decision and the completion of a command (R179, R180, R182, R198), the wait limit (R181) and
the DIAG accesses (R40 to R42). -/

namespace Sys2Proof.Machine

open Host (Outcome)

/-! ## The command codes (R198) -/

/-- The command that a code number names. -/
def commandOfCode (n : Nat) : Option CommandCode := CommandCode.ofWord (BitVec.ofNat 64 n)

theorem ofWord_eq (w : Word) : CommandCode.ofWord w = commandOfCode w.toNat := by
  rw [commandOfCode, BitVec.ofNat_toNat, BitVec.setWidth_eq]

/-! ## What the mailbox unit looks at outlasts the end of an access -/

theorem clearCarried_engine (a : Access) (s : State) (m : Memory) :
    (clearCarried a { s with port := none, mem := m }).engine = s.engine ∧
    (clearCarried a { s with port := none, mem := m }).settings = s.settings ∧
    (clearCarried a { s with port := none, mem := m }).ctl = s.ctl ∧
    (clearCarried a { s with port := none, mem := m }).events = s.events ∧
    (clearCarried a { s with port := none, mem := m }).queue = s.queue ∧
    (clearCarried a { s with port := none, mem := m }).missed = s.missed ∧
    (clearCarried a { s with port := none, mem := m }).posting = s.posting := by
  refine ⟨by simp, ?_, by simp, by simp, by simp, by simp, by simp⟩
  unfold State.settings
  simp

/-! ## The decision (R180) -/

/-- The state in which a fetched record is decided on. -/
def executing (words : List (Word × Bool)) (s : State) : State :=
  { s with engine := { s.engine with state := .executing, record := words.map (·.1) } }

section Decide

variable (words : List (Word × Bool)) (s : State)

theorem decideRecord_poisoned (h : ∃ x ∈ words, x.2 = true) :
    decideRecord words s = completeCommand .refusedArgument [] (executing words s) :=
  if_pos (List.any_eq_true.2 h)

variable (hclean : ∀ x ∈ words, x.2 = false)

include hclean

theorem decideRecord_unknown (hcode : CommandCode.ofWord ((words.map (·.1)).getD 0 0) = none) :
    decideRecord words s = completeCommand .unknown [] (executing words s) := by
  have hany : ¬ words.any (·.2) = true := by simpa using hclean
  unfold decideRecord
  rw [if_neg hany]
  simp only [State.recordWord, hcode, executing]

theorem decideRecord_known (c : CommandCode) (hcode : CommandCode.ofWord ((words.map (·.1)).getD 0 0) = some c) :
    decideRecord words s = { executing words s with
      engine := { (executing words s).engine with work := .handed c } } := by
  have hany : ¬ words.any (·.2) = true := by simpa using hclean
  unfold decideRecord
  rw [if_neg hany]
  simp only [State.recordWord, hcode, executing]

end Decide

/-! ## The end of a command (R182) -/

theorem commandEnds_faults (s : State) (h : s.engine.faultPending = true) : commandEnds s = { s with
    engine := { s.engine with
      done := nextIndex s.settings.cmdRingSlots s.engine.done, work := .none, faultPending := false, state := .faulted } } :=
  if_pos h

theorem commandEnds_fetches (s : State) (h : s.engine.faultPending = false) (hrun : s.ctl.regime = .running)
    (hmore : nextIndex s.settings.cmdRingSlots s.engine.done ≠ s.engine.submit) : commandEnds s = { s with
      engine := { s.engine with
        done := nextIndex s.settings.cmdRingSlots s.engine.done, work := .none, state := .fetching, record := [] } } := by
  rw [commandEnds, if_neg (Bool.eq_false_iff.1 h), beginFetch]
  exact if_pos ⟨rfl, hrun, hmore⟩

theorem commandEnds_idles (s : State) (h : s.engine.faultPending = false)
    (hlast : nextIndex s.settings.cmdRingSlots s.engine.done = s.engine.submit) : commandEnds s = { s with
      engine := { s.engine with
        done := nextIndex s.settings.cmdRingSlots s.engine.done, work := .none, state := .idle } } := by
  rw [commandEnds, if_neg (Bool.eq_false_iff.1 h), beginFetch]
  exact if_neg fun hidle => hidle.2.2 hlast

/-- Settles O41: the completions of the engine's accesses, the completion record, the accesses and the codes. -/
theorem fetchAndCompletion : Obligations.FetchAndCompletion := by
  refine ⟨fun s flips a hport hp hin => ?fetch, fun s a hport hin => ?writes, fun s status results hlen => ?completion,
    fun c code s hc hhanded => ?other, fun s w hring => ?accesses, ⟨rfl, fun x hx w hw => ?known, fun w hw => ?unknown⟩,
    rfl⟩
  case fetch =>
    intro r s1 ws s2 code
    have hexec : exec (.commandFetchComplete flips) s = .next (fetchDone a r.1 s1) :=
      atRead_inMemory .fetch flips s fetchDone a hport hp hin
    rw [hexec]
    refine ⟨fun h => ?_, fun h hpoison => ?_, fun h hclean => ⟨fun hcode => ?_, fun c hcode => ?_⟩⟩
    · simp only [fetchDone, h, if_true]
    all_goals
      have hdone : fetchDone a r.1 s1 = finish (decideRecord ws s1) := by
        simp only [fetchDone, h, Bool.false_eq_true, if_false]
        rfl
      rw [hdone]
    · rw [decideRecord_poisoned ws s1 hpoison]
      rfl
    · rw [decideRecord_unknown ws s1 hclean hcode]
      rfl
    · rw [decideRecord_known ws s1 hclean c hcode]
      rfl
  case writes =>
    intro s1 next
    obtain ⟨hengine, hsettings, hctl, -⟩ := clearCarried_engine a s (writeWords a.words (s.accessAddress a) s.mem)
    have hnext : nextIndex s1.settings.cmdRingSlots s1.engine.done = next := by rw [hsettings, hengine]; rfl
    have hcompletion (hp : a.purpose = .completionWrite) :
        exec .completionWriteComplete s = .next (completionWriteDone a s1) :=
      atWrite_inMemory .completionWrite s completionWriteDone a hport hp hin
    have hdone (hp : a.purpose = .doneWrite) : exec .doneWriteComplete s = .next (doneWriteDone a s1) :=
      atWrite_inMemory .doneWrite s doneWriteDone a hport hp hin
    refine ⟨fun hp h => ?_, fun hp h => ?_, fun hp h => ?_, fun hp h hrun => ⟨fun hfault => ?_, fun hfault hmore => ?_,
      fun hfault hlast => ?_⟩⟩
    · rw [hcompletion hp]
      simp only [completionWriteDone, h, Bool.false_eq_true, if_false]
      rw [hengine]
    · rw [hcompletion hp]
      simp only [completionWriteDone, h, if_true]
    · rw [hdone hp]
      simp only [doneWriteDone, h, if_true]
    all_goals
      rw [hdone hp]
      simp only [doneWriteDone, h, Bool.false_eq_true, if_false]
    · rw [commandEnds_faults s1 (by rw [hengine]; exact hfault), hnext, hengine]
    · rw [commandEnds_fetches s1 (by rw [hengine]; exact hfault) (by rw [hctl]; exact hrun)
        (by rw [hnext, hengine]; exact hmore), hnext, hengine]
    · rw [commandEnds_idles s1 (by rw [hengine]; exact hfault) (by rw [hnext, hengine]; exact hlast), hnext, hengine]
  case completion =>
    intro t
    refine ⟨completionWords s status results, rfl, ?_, rfl, rfl, fun i hi => ?_, fun k hk hle => ?_, rfl⟩
    · simp [completionWords, wordsOf]
    · rw [completionWords_byte s status results i (by omega), bodyByte, if_pos hi]
    · have hlength : (completionWords s status results).length = 8 := by simp [completionWords, wordsOf]
      have hword := completionWords_unreached s status results k hk hle
      rw [List.getD_eq_getElem?_getD, List.getElem?_eq_getElem (by omega)] at hword
      rw [List.getElem?_eq_getElem (by omega)]
      exact congrArg some hword
  case other =>
    rw [exec_command hc, taking_not_handed _ _ _ hhanded]
  case accesses =>
    intro n slot
    refine ⟨fun hstate => ?_, fun hstate => ⟨fun ws hwork => ?_, fun hwork => ?_⟩⟩
    · simp only [engineAccess, hstate, hring, Option.map_some]
      rfl
    · simp only [engineAccess, hstate, hwork, hring, Option.map_some]
      rfl
    · simp only [engineAccess, hstate, hwork, hring, Option.map_some]
      rfl
  case known =>
    rw [ofWord_eq, hw]
    clear hw
    revert x
    decide
  case unknown =>
    simp only [List.cons_append, List.nil_append, List.forall_mem_cons] at hw
    unfold CommandCode.ofWord
    split
    all_goals simp_all

end Sys2Proof.Machine

/-! PROOFS. The wait limit (R181) and the DIAG accesses (R40 to R42); the postings and the mailbox unit's one request
(R183, R187, R199). -/

namespace Sys2Proof.Machine

open Host (Outcome)

/-! ## The wait limit and the DIAG accesses -/

/-- A write whose check bits the check unit did not make leaves the carried places. -/
theorem clearCarried_notMade (a : Access) (s : State) (h : a.purpose.madeChecks = false) : clearCarried a s = s := by
  unfold clearCarried
  split
  · rfl
  · exact if_neg (Bool.eq_false_iff.1 h)

theorem waitEnds_other (s : State) (h : s.engine.work ≠ .checkRange) : waitEnds s = completeCommand .timeout [] s := by
  unfold waitEnds
  split
  · next hwork _ => exact absurd hwork h
  · rfl

/-- Settles O42: the limit by the work in hand, and the completions of the DIAG accesses. -/
theorem waitsAndDiagAccess : Obligations.WaitsAndDiagAccess := by
  refine ⟨fun s n hstate htimer => ⟨fun hwork => ?limit, fun g hwork hrange => ?check⟩, fun s h => ?idle,
    fun s flips a hport hp hline hin => ?read, fun s a hport hp hin => ?write⟩
  case limit =>
    show execCmdWaitExpiry s = _
    simp only [execCmdWaitExpiry, hstate, htimer, waitEnds_other s hwork]
  case check =>
    show execCmdWaitExpiry s = _
    simp only [execCmdWaitExpiry, hstate, htimer, waitEnds, hwork, hrange]
    rfl
  case idle =>
    show execCmdWaitExpiry s = _
    unfold execCmdWaitExpiry
    split
    · next n hstate htimer =>
      obtain h | h := h
      · exact absurd hstate h
      · exact absurd htimer (h n)
    · rfl
  case read =>
    intro r s1
    have hexec : exec (.diagWordReadComplete flips) s = .next (diagReadDone a [r.1] s1) :=
      (exec_diagWordReadComplete flips s).trans (atRead_word .diagRead flips s diagReadDone a hport hp hline hin)
    refine ⟨fun h => ?_, fun h => ?_⟩
    · rw [hexec]
      simp only [diagReadDone, h, Bool.false_eq_true, if_false, List.headD_cons, diagResults, syndrome, locField] <;> rfl
    · rw [hexec]
      simp only [diagReadDone, h, if_true]
  case write =>
    intro s1
    have hkept : clearCarried a s1 = s1 := clearCarried_notMade a s1 (by rw [hp]; rfl)
    have hexec : exec .diagWordWriteComplete s = .next (diagWriteDone a s1) :=
      (atWrite_inMemory .diagWrite s diagWriteDone a hport hp hin).trans (by rw [hkept])
    refine ⟨fun h => ?_, fun h => ?_⟩
    · rw [hexec]
      simp only [diagWriteDone, h, Bool.false_eq_true, if_false]
    · rw [hexec]
      simp only [diagWriteDone, h, if_true]

/-! ## What the mailbox unit has to place (R183) -/

section Place

variable (s : State)

/-- The posting's access, where it may be placed. -/
def postingOffer : Option (Posting × Access) :=
  (postingInHand s).bind fun p => (unreserved s (postingAccess s p)).map fun a => (p, a)

theorem mailboxPlace_busy (h : s.arbiter.mailbox.isSome = true ∨ ∃ x, s.port = some x ∧ x.requester = .mailbox) :
    mailboxPlace s = s := if_pos ((mailboxBusy_iff s).2 h)

/-- Where no header write comes first, the engine's access and the posting's decide. -/
theorem mailboxPlace_users (hmailbox : s.arbiter.mailbox = none) (hport : ∀ x, s.port = some x → x.requester ≠ .mailbox)
    (hheaders : unreserved s (headerAccess s) = none) : mailboxPlace s =
      match unreserved s (engineAccess s), postingOffer s with
      | some e, some (p, a) => if s.lastUser = some .engine then placePosting p a s else place e s
      | some e, none => place e s
      | none, some (p, a) => placePosting p a s
      | none, none => s := by
  have hidle : ¬ mailboxBusy s = true := by
    rw [mailboxBusy_iff]
    rintro (h | ⟨x, hx, h⟩)
    · simp [hmailbox] at h
    · exact hport x hx h
  rw [mailboxPlace, if_neg hidle, hheaders]
  rfl

theorem headerAccess_none (h : s.headers = []) : unreserved s (headerAccess s) = none := by
  simp [headerAccess, h, unreserved]

/-- No header write may be placed while the next one's group is reserved. -/
theorem headerAccess_held (h : ∀ (r : Ring) (rest : List Ring) (w : Window), s.headers = r :: rest →
    s.ring r.role = some w → s.repair.reservation = some (groupOf w.base)) : unreserved s (headerAccess s) = none := by
  unfold headerAccess
  split
  · rfl
  · next r rest hheaders =>
    cases hring : s.ring r.role with
    | none => rfl
    | some w => exact unreserved_reserved s _ (h r rest w hheaders hring)

theorem postingReady_iff : postingReady s = true ↔ s.ctl.regime = .running ∧ s.events.state = .armed ∧ s.queue ≠ [] ∧
    indexDistance s.settings.eventRingEntries s.events.consume s.events.produce < s.settings.eventRingEntries := by
  simp [postingReady, and_assoc]

theorem postingInHand_started (p : Posting) (h : s.posting = some p) : postingInHand s = some p := by
  simp [postingInHand, h]

theorem postingInHand_starts (hnone : s.posting = none) (hready : postingReady s = true) (n : Notice) (rest : List Notice)
    (hqueue : s.queue = n :: rest) :
    postingInHand s = some { step := 0, missed := s.missed, words := n.entryWords s.missed } := by
  simp [postingInHand, hnone, hready, hqueue]

theorem postingInHand_none (hnone : s.posting = none) (hready : postingReady s = false) : postingInHand s = none := by
  simp [postingInHand, hnone, hready]

/-- The posting's access that is offered: none while its group is reserved. -/
theorem postingOffer_some (p : Posting) (a : Access) (hp : postingInHand s = some p) (ha : postingAccess s p = some a) :
    (s.repair.reservation ≠ some (groupOf a.offset) → postingOffer s = some (p, a)) ∧
    (s.repair.reservation = some (groupOf a.offset) → postingOffer s = none) := by
  refine ⟨fun h => ?_, fun h => ?_⟩
  · simp [postingOffer, hp, ha, unreserved_free s a h]
  · simp [postingOffer, hp, ha, unreserved_reserved s a h]

theorem postingOffer_none (h : s.ring .eventRing = none ∨ postingInHand s = none) : postingOffer s = none := by
  obtain h | h := h
  · unfold postingOffer
    cases postingInHand s with
    | none => rfl
    | some p => simp [postingAccess, h, unreserved]
  · simp [postingOffer, h]

end Place

/-! ## The bytes of an event entry (R199) -/

/-- Zeros after bytes read as the zeros beyond them. -/
theorem getD_append_zeros (bs : List Byte) (n i : Nat) : (bs ++ List.replicate n 0).getD i 0 = bs.getD i 0 := by
  by_cases h : i < bs.length
  · simp [List.getD_eq_getElem?_getD, List.getElem?_append_left h]
  · have hnone : bs[i]? = none := List.getElem?_eq_none (Nat.not_lt.1 h)
    rw [List.getD_eq_getElem?_getD, List.getElem?_append_right (Nat.not_lt.1 h), List.getElem?_replicate,
      List.getD_eq_getElem?_getD, hnone]
    split <;> rfl

theorem entryWords_byte (n : Notice) (missed : Byte) (i : Nat) (hi : i < 32) :
    wordByte ((n.entryWords missed).getD (i / 8) 0) (i % 8) =
      (byteField n.body.kind ++ [missed, 0, 0] ++ bitsField 4 n.session ++ n.body.bytes).getD i 0 := by
  have hlen : 8 * 4 ≤ (n.entryBytes missed).length := by
    simp only [Notice.entryBytes, List.length_append, List.length_replicate]
    omega
  rw [Notice.entryWords, wordsOf_byte 4 i _ hi hlen]
  exact getD_append_zeros _ _ i

end Sys2Proof.Machine

/-! PROOFS. The posting of the oldest notice and the mailbox unit's one request (R183, R187, R199): the obligation. -/

namespace Sys2Proof.Machine

open Host (Outcome)

/-! ## The completions of the posting's writes (R187) -/

theorem removePosted_some (s : State) (p : Posting) (h : s.posting = some p) : removePosted s = { s with
    events := { s.events with produce := nextIndex s.settings.eventRingEntries s.events.produce }
    queue := s.queue.tail
    missed := satSub s.missed p.missed
    posting := none } := by
  simp only [removePosted, h]

theorem exec_entryWrite (s : State) (a : Access) (hport : s.port = some a) (hp : a.purpose = .entryWrite)
    (hin : s.inMemory a = true) : exec .eventEntryWordWriteComplete s = .next (entryWriteDone a
      (clearCarried a { s with port := none, mem := writeWords a.words (s.accessAddress a) s.mem })) :=
  atWrite_inMemory .entryWrite s entryWriteDone a hport hp hin

theorem exec_produceWrite (s : State) (a : Access) (hport : s.port = some a) (hp : a.purpose = .produceWrite)
    (hin : s.inMemory a = true) : exec .produceWriteComplete s = .next (produceWriteDone a
      (clearCarried a { s with port := none, mem := writeWords a.words (s.accessAddress a) s.mem })) :=
  atWrite_inMemory .produceWrite s produceWriteDone a hport hp hin

/-! ## The user of the last grant (R183) -/

theorem grant_pick (s : State) (r : Requester) (w : Waiting) (hport : s.port = none) (hpower : s.ctl.power = true)
    (hpick : s.arbiter.pick = some (r, w)) :
    grant s = granted r w.access { s with arbiter := s.arbiter.afterGrant r, port := some w.access } := by
  simp [grant, hport, hpower, hpick]

theorem granted_lastUser (r : Requester) (a : Access) (s : State) :
    (granted r a s).lastUser = if r = .mailbox then a.purpose.user else s.lastUser := by
  cases r with
  | scrub =>
    simp only [granted]
    split <;> rfl
  | repair | front | mailbox | prep => rfl

/-- Settles O43: the offers of the two users, the completions, and the bytes of an entry by its kind. -/
theorem postings : Obligations.Postings := by
  refine ⟨fun s w n rest hmailbox hport hheaders hidle hnone hrun harmed hqueue hring hroom => ?starts,
    fun s p w hring => ⟨fun hstep => ?entry, fun hstep => ?produce⟩, fun s a p hport hin hposting => ?completions,
    fun s a hport hin => ?abandoned, fun n missed i hi => ?bytes, mailboxPlace_busy,
    fun s hmailbox hport hheaders => ?request, fun s r w hport hpower hpick => ?user⟩
  case starts =>
    intro o words
    let p : Posting := { step := 0, missed := s.missed, words := words }
    have husers := mailboxPlace_users s hmailbox (by simp [hport]) (headerAccess_none s hheaders)
    have hengine : unreserved s (engineAccess s) = none := by simp [engineAccess, hidle, unreserved]
    have hhand : postingInHand s = some p :=
      postingInHand_starts s hnone ((postingReady_iff s).2 ⟨hrun, harmed, by simp [hqueue], hroom⟩) n rest hqueue
    have haccess : postingAccess s p = some (s.accessAt .mailbox .entryWrite false o [made (words.getD 0 0)]) := by
      simp only [postingAccess, hring, Option.map_some]
      rfl
    obtain ⟨hoffered, hheld⟩ := postingOffer_some s p _ hhand haccess
    refine ⟨fun h => ?_, fun h => ?_⟩
    · rw [husers, hengine, hheld h]
    · rw [husers, hengine, hoffered h]
      rfl
  case entry =>
    simp only [postingAccess, hring, Option.map_some, if_pos hstep]
  case produce =>
    simp only [postingAccess, hring, Option.map_some, if_neg (Nat.not_lt.2 hstep)]
    rfl
  case completions =>
    intro s1
    obtain ⟨-, hsettings, hctl, hevents, hqueue, hmissed, hpostingKept⟩ :=
      clearCarried_engine a s (writeWords a.words (s.accessAddress a) s.mem)
    have hposting1 : s1.posting = some p := hpostingKept.trans hposting
    refine ⟨fun hp h => ?_, fun hp h hrun => ?_⟩
    · rw [exec_entryWrite s a hport hp hin]
      simp only [entryWriteDone, h, Bool.false_eq_true, if_false]
      rw [show (clearCarried a _).posting = some p from hposting1]
      rfl
    · rw [exec_produceWrite s a hport hp hin]
      have hremoves : (!a.discarded && decide (s1.ctl.regime = .running)) = true := by simp [h, s1, hrun]
      have hdone : produceWriteDone a s1 = finish (removePosted s1) := congrArg finish (if_pos hremoves)
      rw [hdone, removePosted_some s1 p hposting1, hsettings, hevents, hqueue, hmissed]
      rfl
  case abandoned =>
    intro s1
    refine ⟨fun hp h => ?_, fun hp h => ?_⟩
    · rw [exec_entryWrite s a hport hp hin]
      simp only [entryWriteDone, h, if_true]
      rfl
    · rw [exec_produceWrite s a hport hp hin]
      have hkeeps : ¬ (!a.discarded && decide (s1.ctl.regime = .running)) = true := by
        obtain h | h := h <;> simp [h, s1]
      exact congrArg (fun x => Outcome.next (finish x)) (if_neg hkeeps)
  case bytes =>
    intro byte part kind body
    have hkind : byteField n.body.kind = [kind] := by
      simp only [byteField_eq, kind]
      cases n.body <;> rfl
    have hbody : n.body.bytes = body := by
      simp only [body, part, byte]
      cases n.body with
      | error o loc syn severity source requested =>
        simp only [NoticeBody.bytes, byteField_eq, locField, flagField, List.append_assoc, List.cons_append,
          List.nil_append] <;> cases loc <;> rfl
      | repair r =>
        simp only [NoticeBody.bytes, byteField_eq, optField_one, optField_two, List.append_assoc, List.cons_append,
          List.nil_append] <;> rfl
      | thermal event channel role reading regime =>
        simp only [NoticeBody.bytes, byteField_eq, tempField, List.cons_append, List.nil_append] <;> rfl
      | warning warnings period window sinceKick =>
        simp only [NoticeBody.bytes, bitsField]
      | key event p code repeats stuckCount =>
        simp only [NoticeBody.bytes, byteField_eq, List.cons_append, List.nil_append]
      | chord which action members result regime =>
        simp only [NoticeBody.bytes, byteField_eq, optField_one, List.cons_append, List.nil_append, ascending] <;> rfl
    rw [entryWords_byte n missed i hi, hkind, hbody]
    rfl
  case request =>
    intro free ready starts
    have husers := mailboxPlace_users s hmailbox hport (headerAccess_held s fun r rest w hr hw =>
      hheaders r rest w hr (by rw [← hw]; cases r <;> rfl))
    have hready : postingReady s = true ↔ ready ∧ s.queue ≠ [] := by
      rw [postingReady_iff]
      exact ⟨fun ⟨hrun, harmed, hqueue, hroom⟩ => ⟨⟨hrun, harmed, hroom⟩, hqueue⟩,
        fun ⟨⟨hrun, harmed, hroom⟩, hqueue⟩ => ⟨hrun, harmed, hqueue, hroom⟩⟩
    refine ⟨fun p a hp ha => ?_, fun h => ?_⟩
    · intro placed
      have hhand : postingInHand s = some p := by
        obtain hp | ⟨hnone, hr, n, rest, hqueue, rfl⟩ := hp
        · exact postingInHand_started s p hp
        · exact postingInHand_starts s hnone (hready.2 ⟨hr, by simp [hqueue]⟩) n rest hqueue
      obtain ⟨hoffered, hheld⟩ := postingOffer_some s p a hhand ha
      refine ⟨fun e he => ⟨fun hfa hfe huser => ?_, fun hfa hfe huser => ?_, fun hfa hfe => ?_, fun hfa hfe => ?_,
        fun hfa hfe => ?_⟩, fun he => ⟨fun hfa => ?_, fun hfa => ?_⟩⟩
      · rw [husers, he, unreserved_free s e hfe, hoffered hfa]
        exact if_pos huser
      · rw [husers, he, unreserved_free s e hfe, hoffered hfa]
        exact if_neg huser
      · rw [husers, he, unreserved_reserved s e (Classical.not_not.1 hfe), hoffered hfa]
        rfl
      · rw [husers, he, unreserved_free s e hfe, hheld (Classical.not_not.1 hfa)]
      · rw [husers, he, unreserved_reserved s e (Classical.not_not.1 hfe), hheld (Classical.not_not.1 hfa)]
      · rw [husers, he, hoffered hfa]
        rfl
      · rw [husers, he, hheld (Classical.not_not.1 hfa)]
        rfl
    · have hoffer : postingOffer s = none := by
        refine postingOffer_none s (h.imp_right fun ⟨hnone, hnot⟩ => postingInHand_none s hnone ?_)
        refine Bool.eq_false_iff.2 fun hstarts => ?_
        obtain ⟨hr, hqueue⟩ := hready.1 hstarts
        exact hnot.elim (fun hn => hn hr) hqueue
      refine ⟨fun e he => ⟨fun hfe => ?_, fun hfe => ?_⟩, fun he => ?_⟩
      · rw [husers, he, unreserved_free s e hfe, hoffer]
      · rw [husers, he, unreserved_reserved s e (Classical.not_not.1 hfe), hoffer]
      · rw [husers, he, hoffer]
        rfl
  case user =>
    rw [grant_pick s r w hport hpower hpick, granted_lastUser]
    refine ⟨fun hr => if_neg hr, fun hr => ⟨fun hp => ?_, fun hp => ?_, fun hp => ?_⟩⟩
    · rw [if_pos hr]
      simp only [List.mem_cons, List.not_mem_nil, or_false] at hp
      obtain hp | hp | hp | hp | hp := hp <;> rw [hp] <;> rfl
    · rw [if_pos hr]
      simp only [List.mem_cons, List.not_mem_nil, or_false] at hp
      obtain hp | hp := hp <;> rw [hp] <;> rfl
    · rw [if_pos hr, hp]
      rfl

end Sys2Proof.Machine

/-! PROOFS. SET-WINDOW (R18), the DIAG commands as they are taken (R38, R39), ARM-WATCHDOG and RESTART (R141, R152). -/

namespace Sys2Proof.Machine

open Host (Outcome)

/-! ## Codes and their values (R197) -/

theorem writePolicyOfCode_spec (c : Nat) :
    (c ≤ 2 → ∃ p, WritePolicy.ofCode c = some p ∧ p.code = c) ∧ (¬ c ≤ 2 → WritePolicy.ofCode c = none) := by
  match c with
  | 0 => exact ⟨fun _ => ⟨.allow, rfl, rfl⟩, fun h => absurd (by omega) h⟩
  | 1 => exact ⟨fun _ => ⟨.refuse, rfl, rfl⟩, fun h => absurd (by omega) h⟩
  | 2 => exact ⟨fun _ => ⟨.refuseTrip, rfl, rfl⟩, fun h => absurd (by omega) h⟩
  | c + 3 => exact ⟨fun h => absurd h (by omega), fun _ => rfl⟩

theorem checkPolicyOfCode_spec (c : Nat) :
    (c ≤ 1 → ∃ p, CheckPolicy.ofCode c = some p ∧ p.code = c) ∧ (¬ c ≤ 1 → CheckPolicy.ofCode c = none) := by
  match c with
  | 0 => exact ⟨fun _ => ⟨.correct, rfl, rfl⟩, fun h => absurd (by omega) h⟩
  | 1 => exact ⟨fun _ => ⟨.report, rfl, rfl⟩, fun h => absurd (by omega) h⟩
  | c + 2 => exact ⟨fun h => absurd h (by omega), fun _ => rfl⟩

/-! ## SET-WINDOW (R18) -/

/-- The window of legal arguments; no other arguments give one. -/
theorem windowArgs_spec (s : State) :
    let legal : Prop := (∃ k, s.arg 4 = 2 ^ k) ∧ 4096 ≤ s.arg 4 ∧ s.arg 4 ≤ s.usable ∧ s.arg 3 % s.arg 4 = 0 ∧
      s.arg 3 + s.arg 4 ≤ s.usable ∧ s.arg 5 ≤ 2 ∧ s.arg 6 ≤ 1 ∧ s.arg 7 ≤ 1
    (legal → ∃ w : Window, s.windowArgs = some w ∧ w.base = s.arg 3 ∧ w.size = s.arg 4 ∧ w.writePolicy.code = s.arg 5 ∧
      w.checkPolicy.code = s.arg 6 ∧ (w.poisonRestart = true ↔ s.arg 7 = 1) ∧ w.shielded = false ∧
      w.ringRole = .none) ∧
    (¬ legal → s.windowArgs = none) := by
  intro legal
  by_cases hwrite : s.arg 5 ≤ 2
  · by_cases hcheck : s.arg 6 ≤ 1
    · by_cases hpoison : s.arg 7 ≤ 1
      · obtain ⟨wp, hwp, hwpCode⟩ := (writePolicyOfCode_spec _).1 hwrite
        obtain ⟨cp, hcp, hcpCode⟩ := (checkPolicyOfCode_spec _).1 hcheck
        have hbool := (boolOfCode_spec _).1 hpoison
        by_cases hfits : windowFits s.usable (s.arg 3) (s.arg 4) = true
        · let w : Window :=
            { base := s.arg 3, size := s.arg 4, writePolicy := wp, checkPolicy := cp, ringRole := .none
              poisonRestart := decide (s.arg 7 = 1), shielded := false }
          refine ⟨fun _ => ⟨w, ?_, rfl, rfl, hwpCode, hcpCode, decide_eq_true_iff, rfl, rfl⟩, fun h => absurd ?_ h⟩
          · simp [State.windowArgs, hwp, hcp, hbool, hfits, w]
          · obtain ⟨hpow, hsize, haligned, hend⟩ := (windowFits_iff _ _ _).1 hfits
            exact ⟨hpow, hsize, by omega, haligned, hend, hwrite, hcheck, hpoison⟩
        · refine ⟨fun ⟨hpow, hsize, _, haligned, hend, _⟩ => absurd ((windowFits_iff _ _ _).2 ⟨hpow, hsize, haligned, hend⟩)
            hfits, fun _ => ?_⟩
          simp [State.windowArgs, hwp, hcp, hbool, hfits]
      · refine ⟨fun ⟨_, _, _, _, _, _, _, h⟩ => absurd h hpoison, fun _ => ?_⟩
        simp [State.windowArgs, (boolOfCode_spec _).2 hpoison]
    · refine ⟨fun ⟨_, _, _, _, _, _, h, _⟩ => absurd h hcheck, fun _ => ?_⟩
      simp [State.windowArgs, (checkPolicyOfCode_spec _).2 hcheck]
  · refine ⟨fun ⟨_, _, _, _, _, h, _, _⟩ => absurd h hwrite, fun _ => ?_⟩
    simp [State.windowArgs, (writePolicyOfCode_spec _).2 hwrite]

/-- A window overlaps another entry where it does so with one that stands elsewhere in the table. -/
theorem overlapsOther_iff (w : Window) (i : Nat) (ws : List (Option Window)) (k : Nat) :
    overlapsOther w i ws k = true ↔
      ∃ j v, k + j ≠ i ∧ ws[j]? = some (some v) ∧ w.base < v.base + v.size ∧ v.base < w.base + w.size := by
  refine ⟨fun h => ?_, fun ⟨j, v, hj, hv, hbelow, habove⟩ => ?_⟩
  · induction ws generalizing k with
    | nil => simp [overlapsOther] at h
    | cons x xs ih =>
      simp only [overlapsOther, Bool.or_eq_true] at h
      obtain h | h := h
      · cases x with
        | none => simp at h
        | some v =>
          simp only [Bool.and_eq_true, decide_eq_true_eq, overlaps] at h
          obtain ⟨hk, hleft, hright⟩ := h
          exact ⟨0, v, by simpa using hk, rfl, hright, hleft⟩
      · obtain ⟨j, v, hj, hv, hoverlap⟩ := ih (k + 1) h
        exact ⟨j + 1, v, by omega, by simpa using hv, hoverlap⟩
  · refine Classical.byContradiction fun hnone => ?_
    have hapart := apart_of_overlapsOther w i ws k (Bool.eq_false_iff.2 hnone) j v hj hv
    unfold Window.apart at hapart
    omega

theorem takeSetWindow_open (s : State) (h : s.arg 2 < 16) (hguard : windowGuard (s.window (s.arg 2)) = none) :
    takeSetWindow s = match s.windowArgs with
      | none => completeCommand .refusedArgument [] s
      | some w =>
        if overlapsOther w (s.arg 2) s.windows 0 then completeCommand .refusedArgument [] s
        else completeCommand .done [] { s with windows := s.windows.set (s.arg 2) (some w) } := by
  simp only [takeSetWindow, if_neg (Nat.not_le.2 h), hguard, answer] <;> rfl

theorem takeSetWindow_guarded (s : State) (status : Status) (h : s.arg 2 < 16)
    (hguard : windowGuard (s.window (s.arg 2)) = some status) : takeSetWindow s = completeCommand status [] s := by
  simp only [takeSetWindow, if_neg (Nat.not_le.2 h), hguard, answer]

/-- Settles O46: the checks of R18 in their order. -/
theorem setWindow : Obligations.SetWindow := by
  intro s hhanded i base size answers legal collides
  have hexec : exec .setWindow s = .next (finish (takeSetWindow s)) := taking_handed .setWindow takeSetWindow s hhanded
  have refuses (status : Status) (h : takeSetWindow s = completeCommand status [] s) : answers status :=
    hexec.trans (by rw [h])
  obtain ⟨hlegal, hillegal⟩ := windowArgs_spec s
  refine ⟨fun hi => refuses _ (if_pos hi), fun w hi hw => ?guarded, fun hi hfree => ?changes⟩
  case guarded =>
    have hwindow : s.window i = some w := window_of_getElem? s i _ hw
    refine ⟨fun hshield => ?_, fun hshield hrole => ?_⟩
    · exact refuses _ (takeSetWindow_guarded s _ hi (by rw [hwindow, windowGuard_shielded w hshield]))
    · exact refuses _ (takeSetWindow_guarded s _ hi (by rw [hwindow, windowGuard_ring w hshield hrole]))
  case changes =>
    have hopen := takeSetWindow_open s hi (windowGuard_window_eq_none s i hfree)
    have hcollides (w : Window) (hbase : w.base = base) (hsize : w.size = size) :
        overlapsOther w i s.windows 0 = true ↔ collides := by
      rw [overlapsOther_iff, hbase, hsize]
      simp only [Nat.zero_add, collides]
    refine ⟨fun h => ?_, fun h hc => ?_, fun h hc => ?_⟩
    · exact refuses _ (by rw [hopen, hillegal h])
    · obtain ⟨w, hw, hbase, hsize, -⟩ := hlegal h
      exact refuses _ (by rw [hopen, hw]; exact if_pos ((hcollides w hbase hsize).2 hc))
    · obtain ⟨w, hw, hbase, hsize, hwp, hcp, hpoison, hshield, hrole⟩ := hlegal h
      refine ⟨w, hbase, hsize, hwp, hcp, hpoison, hshield, hrole, hexec.trans ?_⟩
      rw [hopen, hw]
      exact congrArg (fun x => Outcome.next (finish x)) (if_neg (mt (hcollides w hbase hsize).1 hc))

/-! ## The DIAG commands (R38, R39) -/

section Diag

variable (s : State) (o : Nat) (argumentOk : Bool)

theorem diagGuard_argument (h : o % 8 ≠ 0 ∨ s.usable ≤ o ∨ argumentOk = false) :
    s.diagGuard o argumentOk = some .refusedArgument := if_pos h

theorem diagGuard_legal (haligned : o % 8 = 0) (hin : o < s.usable) (hok : argumentOk = true) :
    s.diagGuard o argumentOk = match s.windowAt o with
      | some (_, w) => windowGuard (some w)
      | none => none := by
  refine (if_neg ?_).trans rfl
  simp [haligned, hin, hok]

theorem diagGuard_free (haligned : o % 8 = 0) (hin : o < s.usable) (hok : argumentOk = true)
    (h : ∀ k w, s.windowAt o = some (k, w) → w.shielded = false ∧ w.ringRole = .none) :
    s.diagGuard o argumentOk = none := by
  rw [diagGuard_legal s o argumentOk haligned hin hok]
  cases hwindow : s.windowAt o with
  | none => rfl
  | some x =>
    obtain ⟨k, w⟩ := x
    obtain ⟨hshield, hrole⟩ := h k w hwindow
    simp [windowGuard, hshield, hrole]

theorem beginDiag_held (work : EngineWork) (h : s.repair.reservation = some (groupOf o)) : beginDiag o work s =
    { s with engine := { s.engine with
      state := .waiting, work := work, waitTimer := .running s.settings.cmdWaitLimit } } :=
  if_pos ((reservedAt_iff s o).2 h)

theorem beginDiag_free (work : EngineWork) (h : s.repair.reservation ≠ some (groupOf o)) : beginDiag o work s =
    { s with engine := { s.engine with work := work } } :=
  if_neg (mt (reservedAt_iff s o).1 h)

end Diag

/-- A DIAG command as it is taken: its guard, else its work. -/
theorem exec_diag (s : State) (c : Instr) (code : CommandCode) (work : EngineWork) (legal : Prop)
    (hcommand : (c = .diagRead ∧ code = .diagRead ∧ work = .diagRead (s.arg 2) ∧ legal = True) ∨
      (c = .diagWrite ∧ code = .diagWrite ∧ legal = (s.arg 4 ≤ 0xFF) ∧
        work = .diagWrite (s.arg 2) { data := s.recordWord 3, check := BitVec.ofNat 8 (s.arg 4) }))
    (hhanded : s.handed code) : ∃ ok : Bool, (ok = true ↔ legal) ∧
      exec c s = .next (finish (match s.diagGuard (s.arg 2) ok with
        | some status => completeCommand status [] s
        | none => beginDiag (s.arg 2) work s)) := by
  obtain ⟨rfl, rfl, rfl, rfl⟩ | ⟨rfl, rfl, rfl, rfl⟩ := hcommand
  · exact ⟨true, by simp, taking_handed .diagRead takeDiagRead s hhanded⟩
  · exact ⟨decide (s.arg 4 ≤ 0xFF), decide_eq_true_iff, taking_handed .diagWrite takeDiagWrite s hhanded⟩

/-- Settles O51: the guards of R38 in their order, then the work, and the access it has to make. -/
theorem diagCommands : Obligations.DiagCommands := by
  refine ⟨fun s c code work legal hcommand hhanded => ?taken, fun s o hstate => ⟨fun hwork => ?_, fun w hwork => ?_⟩⟩
  case taken =>
    intro o answers
    obtain ⟨ok, hok, hexec⟩ := exec_diag s c code work legal hcommand hhanded
    refine ⟨fun h => ?_, fun haligned hin hlegal => ⟨fun k w hwindow hshield => ?_, fun k w hwindow hshield hrole => ?_,
      fun hfree => ⟨fun hheld => ?_, fun hnot => ?_⟩⟩⟩
    · have hbad : o % 8 ≠ 0 ∨ s.usable ≤ o ∨ ok = false :=
        h.imp_right (Or.imp_right fun hillegal => Bool.eq_false_iff.2 (mt hok.1 hillegal))
      exact hexec.trans (by rw [diagGuard_argument s _ ok hbad])
    · refine hexec.trans ?_
      rw [diagGuard_legal s _ ok haligned hin (hok.2 hlegal), hwindow]
      simp only [windowGuard_shielded w hshield]
    · refine hexec.trans ?_
      rw [diagGuard_legal s _ ok haligned hin (hok.2 hlegal), hwindow]
      simp only [windowGuard_ring w hshield hrole]
    · rw [hexec, diagGuard_free s _ ok haligned hin (hok.2 hlegal) hfree]
      exact congrArg (fun x => Outcome.next (finish x)) (beginDiag_held s o work hheld)
    · rw [hexec, diagGuard_free s _ ok haligned hin (hok.2 hlegal) hfree]
      exact congrArg (fun x => Outcome.next (finish x)) (beginDiag_free s o work hnot)
  · simp only [engineAccess, hstate, hwork]
  · simp only [engineAccess, hstate, hwork]

/-! ## ARM-WATCHDOG (R141) and RESTART (R152) -/

theorem armArgsOk_iff (period warn minimum : Nat) : armArgsOk period warn minimum = true ↔
    10 ≤ period ∧ period ≤ 65535 ∧ 10 ≤ warn ∧ warn ≤ 65535 ∧ minimum ≤ period / 2 := by
  simp [armArgsOk, and_assoc]

/-- The watchdog that ARM-WATCHDOG leaves. -/
def armed (s : State) : Watchdog :=
  (dogArm { s with dog := { s.dog with
    period := BitVec.ofNat 16 (s.arg 2), warnWindow := BitVec.ofNat 16 (s.arg 3)
    minInterval := BitVec.ofNat 16 (s.arg 4) } }).dog

theorem takeArmWatchdog_open (s : State) (hlock : s.watch.lock = false) : takeArmWatchdog s =
    if !armArgsOk (s.arg 2) (s.arg 3) (s.arg 4) then completeCommand .refusedArgument [] s
    else if (s.dog.state = .disarmed ∨ s.dog.state = .armed) ∧ s.dog.requestOut = false then
      completeCommand .done [] { s with dog := armed s }
    else completeCommand .refusedState [] s := by
  rw [takeArmWatchdog, underLock_unlocked _ s hlock]
  rfl

theorem ofNat16_toNat (n : Nat) (h : n ≤ 65535) : (BitVec.ofNat 16 n).toNat = n := by
  rw [BitVec.toNat_ofNat, Nat.mod_eq_of_lt (by omega)]

/-- Settles O53: the checks of R141 in their order, and RESTART by its argument. -/
theorem armAndRestart : Obligations.ArmAndRestart := by
  refine ⟨fun s hhanded hlock => ?arm, fun s hhanded => ?restart⟩
  case arm =>
    intro legal able
    have hexec : exec .armWatchdog s = .next (finish (takeArmWatchdog s)) :=
      taking_handed .armWatchdog takeArmWatchdog s hhanded
    have hok : armArgsOk (s.arg 2) (s.arg 3) (s.arg 4) = true ↔ legal := armArgsOk_iff _ _ _
    rw [hexec, takeArmWatchdog_open s hlock]
    refine ⟨fun h => ?_, fun h hnot => ?_, fun h hable => ⟨armed s, ?_⟩⟩
    · rw [if_pos (by simpa using mt hok.1 h)]
    · rw [if_neg (by simpa using hok.2 h)]
      exact congrArg (fun x => Outcome.next (finish x)) (if_neg hnot)
    · obtain ⟨hperiod, hperiodMax, hwarn, hwarnMax, hminimum⟩ := h
      refine ⟨ofNat16_toNat _ hperiodMax, ofNat16_toNat _ hwarnMax, ofNat16_toNat _ (by omega), rfl, ?_, rfl, rfl, ?_, ?_⟩
      · show DogTimer.period (BitVec.ofNat 16 (s.arg 2)).toNat = _
        rw [ofNat16_toNat _ hperiodMax]
      · exact hable.2
      · rw [if_neg (by simpa using hok.2 ⟨hperiod, hperiodMax, hwarn, hwarnMax, hminimum⟩)]
        exact congrArg (fun x => Outcome.next (finish x)) (if_pos hable)
  case restart =>
    intro sent
    have hexec : exec .restart s = .next (finish (takeRestartCommand s)) :=
      taking_handed .restart takeRestartCommand s hhanded
    rw [hexec, takeRestartCommand]
    refine ⟨fun h => ?_, fun h => ?_, fun h => ?_⟩
    · rw [h]
      rfl
    · rw [h]
      rfl
    · split
      · omega
      · omega
      · rfl

end Sys2Proof.Machine

/-! PROOFS. The commands of the watch table (R127, R128, R131, R132). -/

namespace Sys2Proof.Machine

open Host (Outcome)

/-! ## Codes and their values (R197) -/

theorem watchAccessOfCode_spec (c : Nat) :
    (c ≤ 2 → ∃ p, WatchAccess.ofCode c = some p ∧ p.code = c) ∧ (¬ c ≤ 2 → WatchAccess.ofCode c = none) := by
  match c with
  | 0 => exact ⟨fun _ => ⟨.write, rfl, rfl⟩, fun h => absurd (by omega) h⟩
  | 1 => exact ⟨fun _ => ⟨.read, rfl, rfl⟩, fun h => absurd (by omega) h⟩
  | 2 => exact ⟨fun _ => ⟨.either, rfl, rfl⟩, fun h => absurd (by omega) h⟩
  | c + 3 => exact ⟨fun h => absurd h (by omega), fun _ => rfl⟩

theorem persistenceOfCode_spec (c : Nat) :
    (c ≤ 1 → ∃ p, Persistence.ofCode c = some p ∧ p.code = c) ∧ (¬ c ≤ 1 → Persistence.ofCode c = none) := by
  match c with
  | 0 => exact ⟨fun _ => ⟨.standing, rfl, rfl⟩, fun h => absurd (by omega) h⟩
  | 1 => exact ⟨fun _ => ⟨.session, rfl, rfl⟩, fun h => absurd (by omega) h⟩
  | c + 2 => exact ⟨fun h => absurd h (by omega), fun _ => rfl⟩

theorem watchRoleOfCode_spec (c stage : Nat) :
    let legal : Prop := c ≤ 3 ∧ (c = 1 → 1 ≤ stage ∧ stage ≤ 15)
    (legal → ∃ r, WatchRole.ofCode c stage = some r ∧ r.code = c ∧ (c = 1 → r = .stage stage)) ∧
    (¬ legal → WatchRole.ofCode c stage = none) := by
  match c with
  | 0 => exact ⟨fun _ => ⟨.kick, rfl, rfl, fun h => nomatch h⟩, fun h => absurd ⟨by omega, fun h => nomatch h⟩ h⟩
  | 1 =>
    refine ⟨fun h => ⟨.stage stage, if_pos (h.2 rfl), rfl, fun _ => rfl⟩, fun h => if_neg fun hstage => h ⟨by omega, fun _ => hstage⟩⟩
  | 2 => exact ⟨fun _ => ⟨.trip, rfl, rfl, fun h => by omega⟩, fun h => absurd ⟨by omega, fun h => by omega⟩ h⟩
  | 3 => exact ⟨fun _ => ⟨.note, rfl, rfl, fun h => by omega⟩, fun h => absurd ⟨by omega, fun h => by omega⟩ h⟩
  | c + 4 => exact ⟨fun h => absurd h.1 (by omega), fun _ => rfl⟩

theorem watchAccess_write_iff (a : WatchAccess) : a = .write ↔ a.code = 0 := by
  cases a <;> simp [WatchAccess.code]

theorem watchFits_iff (usable base length : Nat) : watchFits usable base length = true ↔
    length ∈ [1, 2, 4, 8, 16, 32, 64] ∧ base % length = 0 ∧ base + length ≤ usable := by
  simp only [watchFits, Bool.and_eq_true, List.contains_iff_mem, decide_eq_true_eq, and_assoc]

/-- The bytes of a watch value or mask beyond the entry's length are 0. -/
theorem lowBytes_byte (n : Nat) (w : Word) (k : Nat) (hk : k < 8) :
    wordByte (lowBytes n w) k = if k < n then wordByte w k else 0 := by
  apply BitVec.eq_of_getLsbD_eq
  intro j hj
  have hpow : (256 : Nat) ^ n = 2 ^ (8 * n) := by rw [Nat.pow_mul]
  have hbit : (lowBytes n w).getLsbD (8 * k + j) = (decide (8 * k + j < 8 * n) && w.getLsbD (8 * k + j)) := by
    rw [lowBytes, hpow, BitVec.getLsbD_ofNat, Nat.testBit_mod_two_pow, BitVec.testBit_toNat]
    simp
    omega
  rw [wordByte_getLsbD _ _ _ hj, hbit]
  by_cases h : k < n
  · rw [if_pos h, wordByte_getLsbD _ _ _ hj]
    simp
    omega
  · rw [if_neg h]
    simp
    omega

/-! ## The arguments of SET-WATCH (R127) -/

/-- The arguments that R127 allows. -/
def State.watchLegal (s : State) : Prop :=
  s.argByte 4 0 ∈ [1, 2, 4, 8, 16, 32, 64] ∧ s.arg 3 % s.argByte 4 0 = 0 ∧ s.arg 3 + s.argByte 4 0 ≤ s.usable ∧
  s.argByte 4 1 ≤ 2 ∧ s.argByte 4 2 ≤ 1 ∧ s.argByte 4 3 ≤ 3 ∧
  (s.argByte 4 3 = 1 → 1 ≤ s.argByte 4 4 ∧ s.argByte 4 4 ≤ 15) ∧ s.argByte 4 5 ≤ 1 ∧ s.argByte 4 6 ≤ 1 ∧
  (s.argByte 4 2 = 1 → s.argByte 4 0 ≤ 8 ∧ s.argByte 4 1 = 0)

/-- What is asked of a data match: at most 8 bytes, and writes alone. -/
theorem dataMatchOk_iff (length present : Nat) (access : WatchAccess) :
    (!decide (present = 1) || (decide (length ≤ 8) && decide (access = .write))) = true ↔
      (present = 1 → length ≤ 8 ∧ access.code = 0) := by
  rw [← watchAccess_write_iff]
  by_cases h : present = 1 <;> simp [h]

/-- The entry that legal arguments name. -/
def State.watchOf (s : State) (access : WatchAccess) (role : WatchRole) (persistence : Persistence) : WatchEntry :=
  { base := s.arg 3, length := s.argByte 4 0, access := access
    dataMatch := if decide (s.argByte 4 2 = 1) then
        some { value := lowBytes (s.argByte 4 0) (s.recordWord 5), mask := lowBytes (s.argByte 4 0) (s.recordWord 6) }
      else none
    role := role, persistence := persistence, enabled := decide (s.argByte 4 6 = 1), suppressed := false }

theorem watchArgs_some (s : State) (h : s.watchLegal) : ∃ access role persistence,
    s.watchArgs = some (s.watchOf access role persistence) ∧ access.code = s.argByte 4 1 ∧ role.code = s.argByte 4 3 ∧
    (s.argByte 4 3 = 1 → role = .stage (s.argByte 4 4)) ∧ persistence.code = s.argByte 4 5 := by
  obtain ⟨hlength, haligned, hend, haccess, hpresent, hrole, hstage, hpersistence, henabled, hmatch⟩ := h
  obtain ⟨access, ha, haCode⟩ := (watchAccessOfCode_spec _).1 haccess
  obtain ⟨role, hr, hrCode, hrStage⟩ := (watchRoleOfCode_spec _ (s.argByte 4 4)).1 ⟨hrole, hstage⟩
  obtain ⟨persistence, hp, hpCode⟩ := (persistenceOfCode_spec _).1 hpersistence
  refine ⟨access, role, persistence, ?_, haCode, hrCode, hrStage, hpCode⟩
  have hfits := (watchFits_iff _ _ _).2 ⟨hlength, haligned, hend⟩
  have hok := (dataMatchOk_iff (s.argByte 4 0) (s.argByte 4 2) access).2 fun hp => by
    obtain ⟨hshort, hwrite⟩ := hmatch hp
    exact ⟨hshort, haCode.trans hwrite⟩
  simp only [State.watchArgs, ha, (boolOfCode_spec _).1 hpresent, hr, hp, (boolOfCode_spec _).1 henabled,
    Option.bind_eq_bind, Option.bind_some]
  exact if_pos (by rw [hfits, hok]; rfl)

theorem boolOfCode_some {n : Nat} {b : Bool} (h : boolOfCode n = some b) : n ≤ 1 ∧ b = decide (n = 1) := by
  by_cases hn : n ≤ 1
  · exact ⟨hn, Option.some.inj (h.symm.trans ((boolOfCode_spec n).1 hn))⟩
  · rw [(boolOfCode_spec n).2 hn] at h
    contradiction

theorem watchArgs_legal {s : State} {e : WatchEntry} (h : s.watchArgs = some e) : s.watchLegal := by
  simp only [State.watchArgs, Option.bind_eq_bind, Option.bind_eq_some_iff] at h
  obtain ⟨access, ha, present, hpresent, role, hr, persistence, hp, enabled, henabled, h⟩ := h
  obtain ⟨hpresentLe, rfl⟩ := boolOfCode_some hpresent
  obtain ⟨henabledLe, -⟩ := boolOfCode_some henabled
  have haLe : s.argByte 4 1 ≤ 2 := by
    refine Classical.byContradiction fun hn => ?_
    rw [(watchAccessOfCode_spec _).2 hn] at ha
    contradiction
  have hpLe : s.argByte 4 5 ≤ 1 := by
    refine Classical.byContradiction fun hn => ?_
    rw [(persistenceOfCode_spec _).2 hn] at hp
    contradiction
  have hrole : s.argByte 4 3 ≤ 3 ∧ (s.argByte 4 3 = 1 → 1 ≤ s.argByte 4 4 ∧ s.argByte 4 4 ≤ 15) := by
    refine Classical.byContradiction fun hn => ?_
    rw [(watchRoleOfCode_spec _ _).2 hn] at hr
    contradiction
  split at h
  · next hok =>
    rw [Bool.and_eq_true] at hok
    obtain ⟨hfits, hmatch⟩ := hok
    obtain ⟨hlength, haligned, hend⟩ := (watchFits_iff _ _ _).1 hfits
    have hcode : access.code = s.argByte 4 1 := by
      obtain ⟨a, ha', hcode⟩ := (watchAccessOfCode_spec _).1 haLe
      obtain rfl := Option.some.inj (ha.symm.trans ha')
      exact hcode
    refine ⟨hlength, haligned, hend, haLe, hpresentLe, hrole.1, hrole.2, hpLe, henabledLe, ?_⟩
    rw [← hcode]
    exact (dataMatchOk_iff _ _ access).1 hmatch
  · contradiction

/-- Settles O50: the lock before all, then the index, then the arguments. -/
theorem watchTableCommands : Obligations.WatchTableCommands := by
  intro s i refused locked placed base length legal
  refine ⟨fun hlock => ?locked, fun hlock hhanded => ?set, fun hlock hhanded => ?clear, fun hhanded => ?lock⟩
  case locked =>
    have hunder (k : State → State) : Outcome.next (finish (underLock k s)) = (locked : Outcome State Fault Refusal) := by
      rw [underLock_locked k s hlock, lockViolation_eq]
    exact ⟨fun h => (taking_handed .setWatch takeSetWatch s h).trans (hunder _),
      fun h => (taking_handed .clearWatch takeClearWatch s h).trans (hunder _),
      fun h => (taking_handed .armWatchdog takeArmWatchdog s h).trans (hunder _),
      fun h => (taking_handed .disarmWatchdog takeDisarmWatchdog s h).trans (hunder _)⟩
  case set =>
    have hexec : exec .setWatch s = .next (finish (if 8 ≤ i then answer .refusedArgument s
        else match s.watchArgs with
          | none => answer .refusedArgument s
          | some e => answer .done (placeWatch i (some e) s))) :=
      (taking_handed .setWatch takeSetWatch s hhanded).trans
        (congrArg (fun x => Outcome.next (finish x)) (underLock_unlocked _ s hlock))
    refine ⟨fun hi => ?_, fun hi h => ?_, fun hi h => ?_⟩
    · rw [hexec, if_pos hi]
      rfl
    · have hnone : s.watchArgs = none := Option.eq_none_iff_forall_ne_some.2 fun e he => h (watchArgs_legal he)
      rw [hexec, if_neg (Nat.not_le.2 hi), hnone]
      rfl
    · obtain ⟨access, role, persistence, hargs, haccess, hrole, hstage, hpersistence⟩ := watchArgs_some s h
      refine ⟨s.watchOf access role persistence, rfl, rfl, haccess, hrole, hstage, hpersistence, decide_eq_true_iff, rfl,
        fun hp => if_neg (by simp [hp]), fun hp => ⟨_, if_pos (by simp [hp]), fun k hk => ⟨?_, ?_⟩⟩, ?_⟩
      · exact lowBytes_byte length (s.recordWord 5) k hk
      · exact lowBytes_byte length (s.recordWord 6) k hk
      · rw [hexec, if_neg (Nat.not_le.2 hi), hargs]
        rfl
  case clear =>
    have hexec : exec .clearWatch s = .next (finish (if 8 ≤ i then answer .refusedArgument s
        else answer .done (placeWatch i none s))) :=
      (taking_handed .clearWatch takeClearWatch s hhanded).trans
        (congrArg (fun x => Outcome.next (finish x)) (underLock_unlocked _ s hlock))
    refine ⟨fun hi => ?_, fun hi => ?_⟩
    · rw [hexec, if_pos hi]
      rfl
    · rw [hexec, if_neg (Nat.not_le.2 hi)]
      rfl
  case lock => exact taking_handed .lockWatch takeLockWatch s hhanded

end Sys2Proof.Machine

/-! PROOFS. REPAIR-GROUP and CHECK-RANGE as they are taken, and the start of migrations (R58, R59, R68, R113, R115). -/

namespace Sys2Proof.Machine

open Host (Outcome)

/-! ## The offer made again (R68) -/

/-- A REPAIR-GROUP waits with its request unplaced. -/
def State.unplaced (s : State) : Bool :=
  match s.engine.work with
  | .repairGroup _ false => decide (s.engine.state = .waiting)
  | _ => false

theorem unplaced_iff (s : State) : s.unplaced = true ↔
    s.engine.state = .waiting ∧ ∃ g, s.engine.work = .repairGroup g false := by
  unfold State.unplaced
  split
  · next g hwork => simp [hwork]
  · next hother =>
    refine ⟨fun h => (nomatch h), fun ⟨_, g, hwork⟩ => absurd hwork (hother g)⟩

theorem reoffer_waiting (s : State) (g : Nat) (hwork : s.engine.work = .repairGroup g false)
    (hstate : s.engine.state = .waiting) : reoffer s =
      if s.repair.isPending g then { s with engine := { s.engine with work := .repairGroup g true } }
      else if s.repair.requests.length < 4 then { s with
        engine := { s.engine with work := .repairGroup g true }
        repair := { s.repair with requests := s.repair.requests ++ [g] } }
      else s := by
  simp only [reoffer, hwork, hstate, ne_eq, not_true_eq_false, if_false]

theorem reoffer_other (s : State) (h : s.unplaced = false) : reoffer s = s := by
  have hnot : ¬ (s.engine.state = .waiting ∧ ∃ g, s.engine.work = .repairGroup g false) := by
    rw [← unplaced_iff, h]
    exact Bool.false_ne_true
  unfold reoffer
  split
  · next g hwork => exact if_pos fun hstate => hnot ⟨hstate, g, hwork⟩
  · rfl

/-! ## The bound on the groups taken (R59) -/

/-- The groups that may still be taken: the listed ones, and one that waits to be offered. -/
def State.toTake (s : State) : Nat := s.repair.requests.length + if s.unplaced then 1 else 0

theorem toTake_reoffer (s : State) : (reoffer s).toTake ≤ s.toTake := by
  cases h : s.unplaced with
  | false => exact Nat.le_of_eq (congrArg State.toTake (reoffer_other s h))
  | true =>
    obtain ⟨hstate, g, hwork⟩ := (unplaced_iff s).1 h
    rw [reoffer_waiting s g hwork hstate]
    split
    · simp [State.toTake, State.unplaced]
    · split
      · have hbefore : s.toTake = s.repair.requests.length + 1 := by simp [State.toTake, h]
        rw [hbefore]
        simp [State.toTake, State.unplaced]
      · exact Nat.le_refl _

theorem toTake_reportOutcome (n : RepairNotice) (s : State) : (reportOutcome n s).toTake ≤ s.toTake := by
  have hrequests : (reportOutcome n s).repair.requests = s.repair.requests := by rw [reportOutcome_repair]
  have hunplaced : (reportOutcome n s).unplaced = true → s.unplaced = true := by
    cases hwaits : waitsForRepair n.group s.engine with
    | false =>
      rw [reportOutcome_quiet n s hwaits]
      simp [State.unplaced]
    | true =>
      rw [reportOutcome_completes n s hwaits]
      simp [State.unplaced, completeCommand]
  unfold State.toTake
  rw [hrequests]
  cases h : (reportOutcome n s).unplaced with
  | false => simp
  | true => simp [hunplaced h]

section Start

variable (fuel : Nat) (s : State) (g : Nat) (rest : List Nat)

theorem startMigrations_rests (h : s.repair.migration.isSome = true ∨ s.ctl.power = false ∨ s.repair.requests = []) :
    startMigrations fuel s = s := by
  cases fuel with
  | zero => rfl
  | succ fuel =>
    unfold startMigrations
    split
    · rfl
    · next hactive =>
      obtain h | h | h := h
      · simp [h] at hactive
      · simp [h] at hactive
      · rw [h]

variable (hrequests : s.repair.requests = g :: rest) (hpower : s.ctl.power = true) (hidle : s.repair.migration = none)

include hrequests hpower hidle

theorem startMigrations_starts (n : Nat) (more : List Nat) (hfree : s.repair.free = n :: more) :
    startMigrations (fuel + 1) s =
      reoffer (startMigration g n { s with repair := { s.repair with requests := rest } }) := by
  have hactive : ¬ (s.repair.migration.isSome || !s.ctl.power) = true := by simp [hidle, hpower]
  rw [startMigrations, if_neg hactive, hrequests]
  dsimp only
  split
  · next hnone => cases hnone.symm.trans hfree
  · next k ks hsome =>
    obtain ⟨rfl, -⟩ := List.cons.inj (hsome.symm.trans hfree)
    rfl

theorem startMigrations_refuses (hfree : s.repair.free = []) : startMigrations (fuel + 1) s =
    startMigrations fuel (reoffer (refuseFull g { s with repair := { s.repair with requests := rest } })) := by
  have hactive : ¬ (s.repair.migration.isSome || !s.ctl.power) = true := by simp [hidle, hpower]
  rw [startMigrations, if_neg hactive, hrequests]
  dsimp only
  split
  · rfl
  · next k ks hsome => cases hsome.symm.trans hfree

end Start

theorem toTake_refuseFull (s : State) (g : Nat) (rest : List Nat) (hrequests : s.repair.requests = g :: rest) :
    (reoffer (refuseFull g { s with repair := { s.repair with requests := rest } })).toTake + 1 ≤ s.toTake := by
  have hreport := Nat.le_trans (toTake_reoffer _) (toTake_reportOutcome
    { outcome := .full, group := g, newSlot := none, oldSlot := (s.repairEntry g).map (·.slot), carried := none,
      reRepairs := (s.repairEntry g).map (·.reRepairs), free := 0 }
    { s with repair := { s.repair with requests := rest, refused := satInc s.repair.refused } })
  have hlisted : State.toTake
      { s with repair := { s.repair with requests := rest, refused := satInc s.repair.refused } } + 1 = s.toTake := by
    simp only [State.toTake, hrequests, List.length_cons]
    have hsame : State.unplaced
        { s with repair := { s.repair with requests := rest, refused := satInc s.repair.refused } } = s.unplaced := rfl
    rw [hsame]
    omega
  have hrefuse : refuseFull g { s with repair := { s.repair with requests := rest } } = _ := rfl
  rw [refuseFull] at hrefuse
  rw [← hlisted]
  exact Nat.succ_le_succ hreport

/-- Fuel beyond the groups that may be taken changes nothing. -/
theorem startMigrations_fuel (m n : Nat) (s : State) (hm : s.toTake ≤ m) (hn : s.toTake ≤ n) :
    startMigrations m s = startMigrations n s := by
  induction m generalizing n s with
  | zero =>
    have hempty : s.repair.requests = [] := List.eq_nil_of_length_eq_zero (by unfold State.toTake at hm; omega)
    rw [startMigrations_rests 0 s (.inr (.inr hempty)), startMigrations_rests n s (.inr (.inr hempty))]
  | succ m ih =>
    by_cases hrests : s.repair.migration.isSome = true ∨ s.ctl.power = false ∨ s.repair.requests = []
    · rw [startMigrations_rests _ s hrests, startMigrations_rests _ s hrests]
    · simp only [not_or] at hrests
      obtain ⟨hidle, hpower, hlisted⟩ := hrests
      replace hidle : s.repair.migration = none := by simpa using hidle
      replace hpower : s.ctl.power = true := by simpa using hpower
      obtain ⟨g, rest, hrequests⟩ := List.exists_cons_of_ne_nil hlisted
      obtain ⟨n, rfl⟩ : ∃ n', n = n' + 1 := ⟨n - 1, by
        have : 0 < s.toTake := by
          rw [State.toTake, hrequests, List.length_cons]
          omega
        omega⟩
      cases hfree : s.repair.free with
      | nil =>
        have hfewer := toTake_refuseFull s g rest hrequests
        rw [startMigrations_refuses m s g rest hrequests hpower hidle hfree,
          startMigrations_refuses n s g rest hrequests hpower hidle hfree]
        exact ih n _ (by omega) (by omega)
      | cons k more =>
        rw [startMigrations_starts m s g rest hrequests hpower hidle k more hfree,
          startMigrations_starts n s g rest hrequests hpower hidle k more hfree]

theorem toTake_le (s : State) : s.toTake ≤ s.repair.requests.length + 1 := by
  unfold State.toTake
  split <;> omega

end Sys2Proof.Machine

/-! PROOFS. REPAIR-GROUP and CHECK-RANGE as they are taken (R58, R59, R68, R113, R115): the obligation. -/

namespace Sys2Proof.Machine

open Host (Outcome)

/-! ## REPAIR-GROUP (R68) -/

/-- The state in which a REPAIR-GROUP waits. -/
def waitingOn (g : Nat) (placed : Bool) (s : State) : State :=
  { s with engine := { s.engine with
    state := .waiting, work := .repairGroup g placed, waitTimer := .running s.settings.cmdWaitLimit } }

theorem offerAndWait_eq (g : Nat) (s : State) : offerAndWait g s =
    let placed := s.repair.isPending g || decide (s.repair.requests.length < 4)
    if placed then offerRepair g (waitingOn g placed s) else waitingOn g placed s := rfl

theorem offerAndWait_pending (g : Nat) (s : State) (hpower : s.ctl.power = true) (h : s.repair.isPending g = true) :
    offerAndWait g s = waitingOn g true s := by
  have hpending : (waitingOn g true s).repair.isPending g = true := h
  have hpowered : (waitingOn g true s).ctl.power = true := hpower
  rw [offerAndWait_eq, h, Bool.true_or]
  simp only [if_true, offerRepair, hpowered, hpending, Bool.not_true, Bool.false_eq_true, if_false]

theorem offerAndWait_room (g : Nat) (s : State) (hpower : s.ctl.power = true) (h : s.repair.isPending g = false)
    (hroom : s.repair.requests.length < 4) : offerAndWait g s = nextMigration { waitingOn g true s with
      repair := { s.repair with requests := s.repair.requests ++ [g] } } := by
  have hpending : (waitingOn g true s).repair.isPending g = false := h
  have hpowered : (waitingOn g true s).ctl.power = true := hpower
  have hroomed : ¬ 4 ≤ (waitingOn g true s).repair.requests.length := Nat.not_le.2 hroom
  rw [offerAndWait_eq, h, decide_eq_true hroom, Bool.false_or]
  simp only [if_true, offerRepair, hpowered, hpending, Bool.not_true, Bool.false_eq_true, if_false, hroomed]
  rfl

theorem offerAndWait_full (g : Nat) (s : State) (h : s.repair.isPending g = false)
    (hfull : 4 ≤ s.repair.requests.length) : offerAndWait g s = waitingOn g false s := by
  rw [offerAndWait_eq, h, decide_eq_false (Nat.not_lt.2 hfull)]
  simp

/-! ## The next migration (R59) -/

theorem nextMigration_starts (s : State) (g : Nat) (rest : List Nat) (hrequests : s.repair.requests = g :: rest)
    (hpower : s.ctl.power = true) (hidle : s.repair.migration = none) (n : Nat) (more : List Nat)
    (hfree : s.repair.free = n :: more) : nextMigration s =
      reoffer (startMigration g n { s with repair := { s.repair with requests := rest } }) :=
  startMigrations_starts _ s g rest hrequests hpower hidle n more hfree

/-- A group refused makes way for the next one, with fuel enough for whatever is offered again. -/
theorem nextMigration_refuses (s : State) (g : Nat) (rest : List Nat) (hrequests : s.repair.requests = g :: rest)
    (hpower : s.ctl.power = true) (hidle : s.repair.migration = none) (hfree : s.repair.free = []) :
    nextMigration s = nextMigration (reoffer (refuseFull g { s with repair := { s.repair with requests := rest } })) := by
  have hfewer := toTake_refuseFull s g rest hrequests
  have hbound := toTake_le s
  have hafter := toTake_le (reoffer (refuseFull g { s with repair := { s.repair with requests := rest } }))
  refine (startMigrations_refuses (s.repair.requests.length + 1) s g rest hrequests hpower hidle hfree).trans ?_
  exact startMigrations_fuel _ _ _ (by omega) (by omega)

theorem free_spec (s : State) : (∀ n, n ∈ s.repair.free ↔ n < 32 ∧ n ∉ s.repair.spent ∧ ∀ e ∈ s.repair.table, e.slot ≠ n) ∧
    s.repair.free.Pairwise (· < ·) := by
  refine ⟨fun n => ?_, List.Pairwise.filter _ List.pairwise_lt_range⟩
  rw [mem_free_iff]
  refine and_congr_right fun _ => ?_
  rw [and_comm]
  refine and_congr_right fun _ => ?_
  simp

/-! ## CHECK-RANGE (R113, R115) -/

theorem rangeOk_iff (s : State) (base length : Nat) : s.rangeOk base length = true ↔
    base % 64 = 0 ∧ length % 64 = 0 ∧ 0 < length ∧ length ≤ 1048576 ∧ base + length ≤ s.usable := by
  simp [State.rangeOk, and_assoc]

/-- Settles O52: the offer of REPAIR-GROUP, the start of a migration, the offer made again, and CHECK-RANGE. -/
theorem repairAndCheckCommands : Obligations.RepairAndCheckCommands := by
  refine ⟨fun s hhanded => ?repair, fun s g rest hrequests hpower hidle => ⟨fun n more hfree => ?_, fun hfree => ?_⟩,
    fun s g hwork hstate => ?again, fun s h => ?quiet, fun s h => startMigrations_rests _ s h, free_spec,
    fun s hhanded => ?check⟩
  case repair =>
    intro g waiting pending
    have hexec : exec .repairGroup s = .next (finish (takeRepairGroup s)) :=
      taking_handed .repairGroup takeRepairGroup s hhanded
    have hpending : s.repair.isPending g = true ↔ pending := isPending_iff s.repair g
    refine ⟨fun h => ?_, fun haligned hin => ?_⟩
    · rw [hexec]
      exact congrArg (fun x => Outcome.next (finish x)) (if_pos h)
    have hoffer : exec .repairGroup s = .next (finish (offerAndWait g s)) := by
      rw [hexec]
      exact congrArg (fun x => Outcome.next (finish x)) (if_neg (by simp only [g] at haligned hin; omega))
    rw [hoffer]
    refine ⟨fun hpower hp => ?_, fun hpower hp hroom => ?_, fun hp hfull => ?_⟩
    · rw [offerAndWait_pending g s hpower (hpending.2 hp)]
      rfl
    · rw [offerAndWait_room g s hpower (Bool.eq_false_iff.2 (mt hpending.1 hp)) hroom]
      rfl
    · rw [offerAndWait_full g s (Bool.eq_false_iff.2 (mt hpending.1 hp)) hfull]
      rfl
  · rw [nextMigration_starts s g rest hrequests hpower hidle n more hfree]
    rfl
  · rw [nextMigration_refuses s g rest hrequests hpower hidle hfree]
    rfl
  case again =>
    intro placed pending
    have hpending : s.repair.isPending g = true ↔ pending := isPending_iff s.repair g
    rw [reoffer_waiting s g hwork hstate]
    refine ⟨fun hp => if_pos (hpending.2 hp), fun hp hroom => ?_, fun hp hfull => ?_⟩
    · exact (if_neg (mt hpending.1 hp)).trans (if_pos hroom)
    · exact (if_neg (mt hpending.1 hp)).trans (if_neg (Nat.not_lt.2 hfull))
  case quiet =>
    refine reoffer_other s (Bool.eq_false_iff.2 fun hunplaced => ?_)
    obtain ⟨hstate, g, hwork⟩ := (unplaced_iff s).1 hunplaced
    obtain h | h := h
    · exact h hstate
    · exact h g hwork
  case check =>
    intro base length legal begun
    have hexec : exec .checkRange s = .next (finish (takeCheckRange s)) :=
      taking_handed .checkRange takeCheckRange s hhanded
    have hok : s.rangeOk base length = true ↔ legal := rangeOk_iff s base length
    have hbegin (h : legal) : exec .checkRange s = .next (finish (prepHandle begun)) := by
      rw [hexec]
      exact congrArg (fun x => Outcome.next (finish x)) (if_pos (hok.2 h))
    have hgroup (h : legal) : 64 * begun.prep.position = base := by
      have haligned : base % 64 = 0 := h.1
      show 64 * (base / 64) = base
      omega
    obtain ⟨-, hheld, hfree⟩ := prepHandle_spec begun
    refine ⟨fun h => ?_, fun h hreserved => ?_, fun h hnot => ?_⟩
    · rw [hexec]
      exact congrArg (fun x => Outcome.next (finish x)) (if_neg (mt hok.1 h))
    · rw [hbegin h, hheld (by rw [hgroup h]; exact hreserved) rfl]
      rfl
    · rw [hbegin h, hfree (by rw [hgroup h]; exact hnot)]
      have haccess : begun.prepAccess = s.accessAt .prep .checkRead true base [] := by
        have hchecking : begun.prep.activity = .checking := rfl
        rw [State.prepAccess, if_pos hchecking, State.prepGroup, hgroup h]
        rfl
      rw [haccess]

end Sys2Proof.Machine

/-! PROOFS. The commands that report (R37, R70, R102, R129, R130, R153, R154, R175, R185). -/

namespace Sys2Proof.Machine

open Host (Outcome)

/-! ## The stuck mask (R163) -/

theorem masked_iff (k : KeyState) : k.masked = true ↔ k = .stuck ∨ k = .releasing .stuck := by
  cases k with
  | releasing l => cases l <;> simp [KeyState.masked]
  | up | pressing | down | blocked | stuck => simp [KeyState.masked]

/-- The byte whose bit `j` is a predicate's, for `j` below `n`. -/
def bitByte (f : Nat → Bool) (n : Nat) : Byte :=
  (List.range n).foldl (fun b j => if f j then b ||| (1#8 <<< j) else b) 0

theorem bitByte_getLsbD (f : Nat → Bool) (n j : Nat) (hj : j < 8) : (bitByte f n).getLsbD j = (decide (j < n) && f j) := by
  induction n with
  | zero => simp [bitByte]
  | succ n ih =>
    have hstep : bitByte f (n + 1) = if f n then bitByte f n ||| (1#8 <<< n) else bitByte f n := by
      rw [bitByte, List.range_succ, List.foldl_append]
      rfl
    rw [hstep]
    by_cases hjn : j = n
    · subst hjn
      cases hf : f j with
      | false => simp [ih, hf]
      | true => simp [shifted_getLsbD j j hj]
    · have hlt : decide (j < n + 1) = decide (j < n) := by simp; omega
      rw [hlt, ← ih]
      split
      · rw [BitVec.getLsbD_or, shifted_getLsbD n j hj]
        simp [hjn]
      · rfl

theorem stuckMask_bit (s : State) (p : Nat) (hp : p < 64) : ((stuckMask s).getD (p / 8) 0).getLsbD (p % 8) = true ↔
    (s.key p).state = .stuck ∨ (s.key p).state = .releasing .stuck := by
  have hmod : p % 8 < 8 := Nat.mod_lt _ (by decide)
  have hbyte : (stuckMask s).getD (p / 8) 0 = bitByte (fun j => (s.key (8 * (p / 8) + j)).state.masked) 8 := by
    have hrow : p / 8 < 8 := by omega
    simp [stuckMask, List.getD_eq_getElem?_getD, hrow, bitByte]
  rw [hbyte, bitByte_getLsbD _ _ _ hmod, Nat.div_add_mod, ← masked_iff]
  simp [hmod]

end Sys2Proof.Machine

/-! PROOFS. The commands that report (R37, R70, R102, R129, R130, R153, R154, R175, R185): the obligation. -/

namespace Sys2Proof.Machine

open Host (Outcome)

/-! ## Each command with its results -/

section Exec

variable (s : State)

theorem exec_readRepairs (h : s.handed .readRepairs) : exec .readRepairs s = .next (finish (if 32 ≤ s.arg 2 then
    completeCommand .refusedArgument [] s else completeCommand .done (repairsResults s.repair (s.arg 2)) s)) :=
  taking_handed .readRepairs takeReadRepairs s h

theorem exec_readRestart (h : s.handed .readRestart) : exec .readRestart s = .next (finish (if 8 ≤ s.arg 2 then
    completeCommand .refusedArgument [] s
    else completeCommand .done
      (recordField s.restarts.history[s.arg 2]? ++ byteField s.restarts.history.length ++
        bitsField 2 s.restarts.total ++ byteField s.restarts.coldCount ++
        byteField s.restarts.escalation.length) s)) :=
  taking_handed .readRestart takeReadRestart s h

theorem exec_readTrace (h : s.handed .readTrace) : exec .readTrace s = .next (finish (if 16 ≤ s.arg 2 then
    completeCommand .refusedArgument [] s else completeCommand .done (traceResults s.restarts (s.arg 2)) s)) :=
  taking_handed .readTrace takeReadTrace s h

theorem exec_readWatch (h : s.handed .readWatch) : exec .readWatch s = .next (finish (if 8 ≤ s.arg 2 then
    completeCommand .refusedArgument [] s
    else completeCommand .done
      (watchField (s.watchAt (s.arg 2)) ++ flagField (s.watch.hits.getLsbD (s.arg 2)) ++ flagField s.watch.lock ++
        bitsField 2 s.watch.violations) s)) :=
  taking_handed .readWatch takeReadWatch s h

theorem exec_takeError (h : s.handed .takeError) : exec .takeError s = .next (finish (completeCommand .done
    (errorResults s.log.entries.head? s.log.entries.tail.length)
    { s with log := { s.log with entries := s.log.entries.tail } })) :=
  taking_handed .takeError takeTakeError s h

theorem takeReadKeys_zero (h : s.arg 2 = 0) : takeReadKeys s = completeCommand .done
    (stateBytes s ++ stuckMask s ++ flagField s.keypad.coldDebounce ++
      (List.range 4).map fun i => chordByte (s.chord i)) s := by
  simp only [takeReadKeys, h]

theorem takeReadKeys_one (h : s.arg 2 = 1) : takeReadKeys s = completeCommand .done (stuckCounts s 0) s := by
  simp only [takeReadKeys, h]

theorem takeReadKeys_two (h : s.arg 2 = 2) : takeReadKeys s = completeCommand .done (stuckCounts s 32) s := by
  simp only [takeReadKeys, h]

theorem takeReadKeys_beyond (h : 2 < s.arg 2) : takeReadKeys s = completeCommand .refusedArgument [] s := by
  unfold takeReadKeys
  split
  · omega
  · omega
  · omega
  · rfl

end Exec

theorem take_drop_length {α : Type} (n i : Nat) (xs : List α) : ((xs.drop i).take n).length = min n (xs.length - i) := by
  rw [List.length_take, List.length_drop]

/-- Settles O49: each command's results, field by field. -/
theorem reportingCommands : Obligations.ReportingCommands := by
  refine ⟨fun s => ?_, fun n v => rfl, ?codes, ?moreCodes⟩
  case codes => exact ⟨rfl, rfl, rfl, rfl, rfl, rfl, rfl, rfl, rfl, rfl, fun _ => rfl, rfl, rfl, rfl⟩
  case moreCodes => exact ⟨rfl, rfl, rfl, fun _ => rfl, rfl, rfl, rfl, rfl, rfl⟩
  intro done refused byte bit absent part temp place i
  have hpart (v : Option Nat) : optField 1 v = [part v] := (optField_one v).trans (by cases v <;> rfl)
  have htemp (v : Option Int) : tempField v = temp v := by cases v <;> rfl
  have hplace (l : Location) : locField l = place l := by cases l <;> rfl
  refine ⟨fun h => ?status, fun h => ?thermal, fun h => ?repairs, fun h => ?watch, fun h => ?restart, fun h => ?trace,
    fun h => ?keys, fun h => ⟨fun hempty => ?noError, fun e rest hentries => ?error⟩, fun h => ?hits⟩
  case status =>
    intro results
    refine ⟨?_, ?_⟩
    · simp only [results, List.length_append, le_length, List.length_cons, List.length_nil]
    · exact (taking_handed .status takeStatus s h).trans (by rw [takeStatus, statusResults_fields])
  case thermal =>
    intro draw
    refine (taking_handed .readThermal takeReadThermal s h).trans ?_
    have hchannel (x : ChannelSettings × Channel) : channelField x =
        [byte x.1.role.code, byte x.2.state.code] ++ temp x.2.reading ++ [byte x.2.timeouts, bit x.2.hotArmed] := by
      simp only [channelField, byteField_eq, htemp, flagField, byte, bit, List.append_assoc, List.cons_append,
        List.nil_append]
    rw [takeReadThermal, thermalResults, funext hchannel]
    simp only [byteField_eq, flagField, List.append_assoc, List.cons_append, List.nil_append, done] <;> rfl
  case repairs =>
    intro r entry
    rw [exec_readRepairs s h]
    refine ⟨fun hi => ?_, fun hi => ?_⟩
    · rw [if_pos hi]
    · rw [if_neg (Nat.not_le.2 hi)]
      have hentry (k : Nat) : repairEntryField r.table[k]? = entry k := by
        simp only [entry, repairEntryField, byteField_eq, bitsField]
        cases r.table[k]? <;> rfl
      have hmigration : flagField r.migration.isSome ++ optField 4 (r.migration.map (·.group)) ++
          optField 1 (r.migration.map (·.slot)) = (match r.migration with
            | some m => [(1 : Byte)] ++ le 4 m.group ++ [byte m.slot]
            | none => [0] ++ absent 5) := by
        rw [optField_one]
        cases r.migration <;> rfl
      have hresults : repairsResults r i = [byte (min 2 (r.table.length - i))] ++ entry i ++ entry (i + 1) ++
          [byte r.table.length, byte r.free.length, byte r.spent.length] ++
          le 2 r.completed.toNat ++ le 2 r.reRepaired.toNat ++ le 2 r.refused.toNat ++ le 2 r.declined.toNat ++
          le 2 r.dropped.toNat ++ le 2 r.abandoned.toNat ++ (flagField r.migration.isSome ++
            optField 4 (r.migration.map (·.group)) ++ optField 1 (r.migration.map (·.slot))) := by
        simp only [repairsResults, take_drop_length, hentry, byteField_eq, bitsField, byte, List.append_assoc,
          List.cons_append, List.nil_append]
      rw [hmigration] at hresults
      exact congrArg (fun x => Outcome.next (finish (completeCommand .done x s))) hresults
  case watch =>
    intro data stage fields
    rw [exec_readWatch s h]
    refine ⟨fun hi => ?_, fun hi => ?_⟩
    · rw [if_pos hi]
    · rw [if_neg (Nat.not_le.2 hi)]
      have hfields : watchField (s.watchAt i) = fields := by
        simp only [fields, State.watchAt, watchField]
        cases s.watch.entries.getD i none with
        | none => rfl
        | some e =>
          have hstage : part e.role.stageNumber = stage e := by
            simp only [stage]
            cases e.role <;> rfl
          cases hmatch : e.dataMatch with
          | none =>
            simp only [byteField_eq, flagField, hpart, hstage, data, hmatch, List.append_assoc, List.cons_append,
              List.nil_append] <;> rfl
          | some d =>
            simp only [byteField_eq, flagField, hpart, hstage, data, hmatch, wordBytes, List.append_assoc,
              List.cons_append, List.nil_append] <;> rfl
      have hresults : watchField (s.watchAt i) ++ flagField (s.watch.hits.getLsbD i) ++ flagField s.watch.lock ++
          bitsField 2 s.watch.violations =
          fields ++ [bit (s.watch.hits.getLsbD i), bit s.watch.lock] ++ le 2 s.watch.violations.toNat := by
        rw [hfields]
        simp only [flagField, bitsField, bit, List.append_assoc, List.cons_append, List.nil_append]
      exact congrArg (fun x => Outcome.next (finish (completeCommand .done x s))) hresults
  case restart =>
    intro record
    rw [exec_readRestart s h]
    refine ⟨fun hi => ?_, fun hi => ?_⟩
    · rw [if_pos hi]
    · rw [if_neg (Nat.not_le.2 hi)]
      have hrecord : recordField s.restarts.history[i]? = record := by
        simp only [record, recordField]
        cases s.restarts.history[i]? with
        | none => rfl
        | some r =>
          simp only [byteField_eq, flagField, bitsField, hpart, List.append_assoc, List.cons_append, List.nil_append]
          cases r.trace <;> rfl
      have hresults : recordField s.restarts.history[i]? ++ byteField s.restarts.history.length ++
          bitsField 2 s.restarts.total ++ byteField s.restarts.coldCount ++ byteField s.restarts.escalation.length =
          record ++ [byte s.restarts.history.length] ++ le 2 s.restarts.total.toNat ++
            [byte s.restarts.coldCount, byte s.restarts.escalation.length] := by
        rw [hrecord]
        simp only [byteField_eq, bitsField, byte, List.append_assoc, List.cons_append, List.nil_append]
      exact congrArg (fun x => Outcome.next (finish (completeCommand .done x s))) hresults
  case trace =>
    intro newest frozen entry
    rw [exec_readTrace s h]
    refine ⟨fun hi => ?_, fun hi => ?_⟩
    · rw [if_pos hi]
    · rw [if_neg (Nat.not_le.2 hi)]
      have hfrozen : s.restarts.frozen = frozen := by
        simp only [frozen, newest, Restarts.frozen]
        cases s.restarts.history.getLast? <;> rfl
      have hentry (k : Nat) : traceField frozen[k]? = entry k := by
        simp only [entry, traceField, byteField_eq, hpart]
        cases frozen[k]? <;> rfl
      have hresults : traceResults s.restarts i = optField 2 (s.restarts.history.getLast?.map (·.number.toNat)) ++
          [byte frozen.length, byte (min 4 (frozen.length - i))] ++
          entry i ++ entry (i + 1) ++ entry (i + 2) ++ entry (i + 3) := by
        have hrange : List.range 4 = [0, 1, 2, 3] := rfl
        rw [traceResults, hfrozen, take_drop_length, hrange]
        simp only [List.flatMap_cons, List.flatMap_nil, hentry, byteField_eq, byte, List.append_assoc, List.cons_append,
          List.nil_append, List.append_nil, Nat.add_zero]
      have hnumber : optField 2 (s.restarts.history.getLast?.map (·.number.toNat)) = (match newest with
          | some r => le 2 r.number.toNat
          | none => absent 2) := by
        simp only [newest]
        cases s.restarts.history.getLast? <;> rfl
      refine (congrArg (fun x => Outcome.next (finish (completeCommand .done x s))) hresults).trans ?_
      exact congrArg (fun x => Outcome.next (finish (completeCommand .done
        (x ++ [byte frozen.length, byte (min 4 (frozen.length - i))] ++
          entry i ++ entry (i + 1) ++ entry (i + 2) ++ entry (i + 3)) s))) hnumber
  case keys =>
    intro state chord
    have hexec : exec .readKeys s = .next (finish (takeReadKeys s)) := taking_handed .readKeys takeReadKeys s h
    rw [hexec]
    refine ⟨fun hi => ⟨stuckMask s, by simp [stuckMask], stuckMask_bit s, ?_⟩, fun hi => ?_, fun hi => ?_, fun hi => ?_⟩
    · have hresults : stateBytes s ++ stuckMask s ++ flagField s.keypad.coldDebounce ++
          ((List.range 4).map fun i => chordByte (s.chord i)) =
          ((List.range 32).map fun k => byte (state (2 * k) + 16 * state (2 * k + 1))) ++ stuckMask s ++
            [bit s.keypad.coldDebounce, chord 0, chord 1, chord 2, chord 3] := by
        rw [List.append_assoc (stateBytes s ++ stuckMask s)]
        rfl
      rw [takeReadKeys_zero s hi, hresults]
    · rw [takeReadKeys_one s hi, stuckCounts]
      simp only [Nat.zero_add, done]
    · rw [takeReadKeys_two s hi]
      rfl
    · rw [takeReadKeys_beyond s hi]
  case noError =>
    have hsame : ({ s with log := { s.log with entries := s.log.entries.tail } } : State) = s := by
      have htail : s.log.entries.tail = s.log.entries := by rw [hempty]; rfl
      rw [htail]
    rw [exec_takeError s h, hsame, hempty]
    rfl
  case error =>
    rw [exec_takeError s h, hentries]
    have hresults : errorResults (some e) rest.length =
        le 4 e.offset ++ place e.loc ++ [e.syndrome, byte e.severity.code, byte e.source.code, e.repeats,
          bit e.rewritten, bit e.repairRequested] ++ le 4 e.uptime.toNat ++ temp e.temperature ++
          [byte e.regime.code, byte rest.length] := by
      simp only [errorResults, byteField_eq, flagField, bitsField, hplace, htemp, byte, bit, List.append_assoc,
        List.cons_append, List.nil_append]
    exact congrArg (fun x => Outcome.next (finish (completeCommand .done x
      { s with log := { s.log with entries := rest } }))) hresults
  case hits =>
    refine (taking_handed .takeWatchHits takeTakeWatchHits s h).trans ?_
    rw [takeTakeWatchHits, hpart]
    rfl

end Sys2Proof.Machine

/-! PROOFS. The end of LOADING (R75, R22, R90, R118, R156, R164, R169, R196): the obligation. -/

namespace Sys2Proof.Machine

/-- A round begins with the first channel that the settings poll (R90). -/
theorem pollFrom_zero (s : State) : s.pollFrom 0 = (List.range 4).find? fun k =>
    match s.settings.channels[k]? with
    | some c => decide (c.role ≠ .disabled)
    | none => false := by
  simp only [State.pollFrom, Nat.zero_le, decide_true, Bool.true_and] <;> rfl

/-- The regime and the units it moves when LOADING ends without release readiness (R75, R76). -/
theorem loadComplete_ctl (loaded : Settings) (defaults isPartial : Bool) (s : State) (hregime : s.ctl.regime = .loading)
    (hready : s.thermal.readiness = false) :
    let t := loadComplete loaded defaults isPartial s
    t.ctl.regime = .heating ∧ t.ctl.processorReset = true ∧ t.ctl.power = false ∧
    t.ctl.heatLimit = .running loaded.heatLimit ∧ t.ctl.pendingForced = false ∧ t.ctl.pendingDoubtful = false := by
  have hsoak : (loadedState loaded defaults isPartial s).ctl.regime ≠ .soaking := by
    show s.ctl.regime ≠ .soaking
    simp [hregime]
  obtain ⟨hto, hforced, hdoubtful, hpower, hreset, -, hheat⟩ := enterHeating_cold _ hsoak
  have hready' : (loadedState loaded defaults isPartial s).thermal.readiness = false := hready
  rw [hready'] at hto hheat
  exact ⟨hto, hreset, hpower, hheat, hforced, hdoubtful⟩

/-- The entry into HEATING at the end of LOADING leaves the watchpoints that were loaded. -/
theorem loadComplete_watch (loaded : Settings) (defaults isPartial : Bool) (s : State) (hregime : s.ctl.regime = .loading) :
    (loadComplete loaded defaults isPartial s).watch = { s.watch with entries := loaded.watches, hits := 0 } := by
  have hrunning : (loadedState loaded defaults isPartial s).ctl.regime ≠ .running := by
    show s.ctl.regime ≠ .running
    simp [hregime]
  exact (enterHeating_watch_dog _ hrunning).1

theorem enterHeating_polling (s : State) : (enterHeating s).thermal.polling = s.thermal.polling := by simp

theorem enterHeating_chords (s : State) : (enterHeating s).keypad.chords = s.keypad.chords := by simp

/-- Settles O8: what stands at the entry into HEATING is kept by it, and the regime is entered as from LOADING. -/
theorem loadingEnds : Obligations.LoadingEnds := by
  intro s loaded defaults isPartial hregime hready
  have hctl := loadComplete_ctl loaded defaults isPartial s hregime hready
  have hwatch := loadComplete_watch loaded defaults isPartial s hregime
  simp only [loadComplete_eq] at hctl hwatch ⊢
  have hpolling : (loadedState loaded defaults isPartial s).thermal.polling =
      (List.range 4).find? fun k =>
        match loaded.channels[k]? with
        | some c => decide (c.role ≠ .disabled)
        | none => false := pollFrom_zero _
  refine ⟨?state, ?loaded, ?defaults, ?isPartial, ?windows, by rw [hwatch], by rw [hwatch], ?map, ?chords, ?scan, ?poll,
    ?polling, hctl⟩
  case polling => exact (enterHeating_polling _).trans hpolling
  case chords =>
    refine (congrArg (List.map (·.chord)) (enterHeating_chords _)).trans ?_
    show (loaded.chords.map fun c => { ChordRecord.initial with chord := c }).map (·.chord) = _
    rw [List.map_map]
    exact List.map_id loaded.chords
  all_goals simp [loadedState, beginRound]

end Sys2Proof.Machine

/-! PROOFS. The config link (R192, R193, R194, R200): the header, the sum and the built-in defaults, and the obligation. -/

namespace Sys2Proof.Machine

open Host (Outcome)

/-! ## The header and the sum of an image (R193) -/

theorem img8_lt (b : List Byte) (o : Nat) : img8 b o < 256 := (b.getD o 0).isLt

theorem headerOk_iff (b : List Byte) : headerOk b = true ↔
    imageLength b % 2 = 0 ∧ 808 ≤ imageLength b ∧ imageLength b ≤ 2048 ∧ img8 b 2 = 2 ∧ img8 b 3 = 0 := by
  have hversion : img16 b 2 = 2 ↔ img8 b 2 = 2 ∧ img8 b 3 = 0 := by
    have := img8_lt b 2
    show img8 b 2 + 256 * img8 b 3 = 2 ↔ _
    omega
  simp only [headerOk, Bool.and_eq_true, decide_eq_true_eq, hversion, and_assoc]

/-- One step of the ones'-complement sum: a carry out of bit 15 is added back into bit 0. -/
def onesStep (acc u : Nat) : Nat := if 65536 ≤ acc + u then acc + u - 65535 else acc + u

/-- The sum over the first `2 * n` bytes is that over the first `n` 16-bit units. -/
theorem onesSum_take (n : Nat) : ∀ (b : List Byte) (acc : Nat), 2 * n ≤ b.length → onesSum (b.take (2 * n)) acc =
    ((List.range n).map fun k => img8 b (2 * k) + 256 * img8 b (2 * k + 1)).foldl onesStep acc := by
  induction n with
  | zero => intro b acc _; rfl
  | succ n ih =>
    intro b acc hlength
    match b with
    | [] => simp at hlength
    | [_] => simp at hlength; omega
    | lo :: hi :: rest =>
      have hrest : 2 * n ≤ rest.length := by simpa [Nat.mul_succ] using hlength
      rw [List.range_succ_eq_map, List.map_cons, List.map_map, List.foldl_cons]
      have hunits : ((fun k => img8 (lo :: hi :: rest) (2 * k) + 256 * img8 (lo :: hi :: rest) (2 * k + 1)) ∘ Nat.succ) =
          fun k => img8 rest (2 * k) + 256 * img8 rest (2 * k + 1) := rfl
      rw [hunits, ← ih rest _ hrest]
      show onesSum (rest.take (2 * n)) _ = _
      simp only [onesStep, img8, Nat.add_assoc]
      rfl

theorem checksumOk_iff (b : List Byte) (heven : imageLength b % 2 = 0) (hlength : imageLength b ≤ b.length) :
    checksumOk b = true ↔ ((List.range (imageLength b / 2)).map fun k =>
      img8 b (2 * k) + 256 * img8 b (2 * k + 1)).foldl onesStep 0 = 0xFFFF := by
  have htwice : imageLength b = 2 * (imageLength b / 2) := by omega
  rw [checksumOk, decide_eq_true_eq, ← onesSum_take _ _ _ (by omega), ← htwice]

/-! ## The events of the config link (R192) -/

/-- The state once a reply's bytes have joined the buffer. -/
def replyJoined (b : List Byte) (s : State) : State := { s with loader := { s.loader with buffer := b } }

theorem exec_configReadReply {s : State} (data : List Byte) (straps : BitVec 3) (h : s.loader.state = .reading) :
    exec (.configReadReply data straps) s =
      .next (finish (examineImage straps (replyJoined ((s.loader.buffer ++ data).take 2048) s))) := if_pos h

section Examine

variable (b : List Byte) (straps : BitVec 3) (s : State)

theorem examineImage_waits (h : b.length < 8 ∨ (headerOk b = true ∧ b.length < imageLength b)) :
    examineImage straps (replyJoined b s) = replyJoined b s := by
  show (if b.length < 8 then _ else _) = _
  split
  · rfl
  · next hlong =>
    obtain ⟨hheader, hshort⟩ := h.resolve_left hlong
    exact (if_neg (by simp [replyJoined, hheader])).trans (if_pos hshort)

theorem examineImage_fails (hlong : 8 ≤ b.length)
    (h : headerOk b = false ∨ (imageLength b ≤ b.length ∧ checksumOk b = false)) :
    examineImage straps (replyJoined b s) = loadComplete (builtIn straps.toNat) true false (replyJoined b s) := by
  refine (if_neg (Nat.not_lt.2 hlong)).trans ?_
  show (if (!headerOk b) = true then _ else _) = _
  split
  · rfl
  · next hheader =>
    obtain ⟨hwhole, hsum⟩ := h.resolve_left (by simpa using hheader)
    exact (if_neg (Nat.not_lt.2 hwhole)).trans (if_pos (by simp [replyJoined, hsum]))

theorem examineImage_accepts (hlong : 8 ≤ b.length) (hheader : headerOk b = true) (hwhole : imageLength b ≤ b.length)
    (hsum : checksumOk b = true) : examineImage straps (replyJoined b s) =
      loadComplete (validate b straps.toNat).1 false (validate b straps.toNat).2 (replyJoined b s) :=
  (if_neg (Nat.not_lt.2 hlong)).trans <| (if_neg (by simp [replyJoined, hheader])).trans <| (if_neg (Nat.not_lt.2 hwhole)).trans <|
    if_neg (by simp [replyJoined, hsum])

end Examine

/-- Settles O7: each reply along the checks of the image, the header and the sum as arithmetic, the defaults as listed. -/
theorem configLink : Obligations.ConfigLink := by
  refine ⟨fun s straps h => if_pos h, fun s data straps h => ?reply, fun s data straps h => ⟨if_neg h, if_neg h⟩,
    fun b => ⟨rfl, headerOk_iff b, fun hheader hlength => ?sum⟩, by decide, fun straps => ?defaults⟩
  case reply =>
    intro b s'
    rw [exec_configReadReply data straps h]
    exact ⟨fun hwaits => congrArg (fun t => Outcome.next (finish t)) (examineImage_waits b straps s hwaits),
      fun hlong hfails => congrArg (fun t => Outcome.next (finish t)) (examineImage_fails b straps s hlong hfails),
      fun hlong hheader hwhole hsum =>
        congrArg (fun t => Outcome.next (finish t)) (examineImage_accepts b straps s hlong hheader hwhole hsum)⟩
  case sum => exact checksumOk_iff b ((headerOk_iff b).1 hheader).1 hlength
  case defaults =>
    refine ⟨rfl, rfl, rfl, rfl, rfl, rfl, rfl, rfl, rfl, rfl, rfl, rfl, rfl, fun c hc => ?_⟩
    rw [(List.mem_replicate.1 hc).2]
    rfl

end Sys2Proof.Machine

/-! SUPPORT. The global fields of an image: what each is in the loaded copy, and when they leave PARTIAL clear
(R100, R134, R195, R200). -/

namespace Sys2Proof.Machine

/-! ## The checks of single fields -/

/-- The image's value where that is in the range, and else the default, with PARTIAL. -/
theorem inRange_eq (v lo hi dflt : Nat) :
    inRange v lo hi dflt = (if lo ≤ v ∧ v ≤ hi then v else dflt, decide ¬ (lo ≤ v ∧ v ≤ hi)) := by
  unfold inRange
  split <;> simp [*]

theorem inRange_clear (v lo hi dflt : Nat) : (inRange v lo hi dflt).2 = false ↔ lo ≤ v ∧ v ≤ hi := by
  simp [inRange_eq]

theorem tempRange_eq (t dflt : Int) :
    tempRange t dflt = (if -110 ≤ t ∧ t ≤ 250 then t else dflt, decide ¬ (-110 ≤ t ∧ t ≤ 250)) := by
  unfold tempRange
  split <;> simp [*]

theorem tempRange_clear (t dflt : Int) : (tempRange t dflt).2 = false ↔ -110 ≤ t ∧ t ≤ 250 := by
  simp [tempRange_eq]

theorem yesNo_eq (v : Nat) (dflt : Bool) : ((yesNo v dflt).1.toNat, (yesNo v dflt).2) = inRange v 0 1 dflt.toNat := by
  obtain ⟨hin, hout⟩ := yesNo_spec v dflt
  by_cases h : v ≤ 1
  · obtain ⟨hvalue, hclear⟩ := hin h
    simp [inRange_eq, h, hvalue, hclear]
  · simp [inRange_eq, h, hout (by omega)]

theorem oneOf_eq (v dflt : Nat) (values : List Nat) :
    oneOf v values dflt = (if v ∈ values then v else dflt, decide (v ∉ values)) := by
  obtain ⟨hin, hout⟩ := oneOf_spec v dflt values
  by_cases h : v ∈ values
  · simp [hin h, h]
  · simp [hout h, h]

theorem memSizeField_clear (v straps : Nat) : (memSizeField v straps).2 = false ↔ v ≤ 4 ∨ v = 255 := by
  unfold memSizeField
  split
  · next h => simp [h]
  · next h => simp [h]

/-! ## The global fields -/

/-- The numeric fields of an image: its value, the least and the greatest value, the default, and the loaded value. -/
def imageFields (b : List Byte) (v : Settings) : List (Nat × Nat × Nat × Nat × Nat) :=
  [(img8 b 9, 2, 15, 3, v.repairThreshold), (img16 b 10, 50, 65535, 1000, v.scrubInterval),
   (img16 b 14, 100, 1000, 500, v.sensorPeriod), (img8 b 16, 1, 120, 30, v.heatLimit),
   (img8 b 17, 1, 30, 5, v.offTime), (img16 b 18, 1, 600, 120, v.soakTime),
   (img16 b 20, 10, 1000, 100, v.restartPulse), (img8 b 22, 1, 40, 6, v.releaseHyst.toNat),
   (img8 b 27, 1, 255, 30, v.boardHeaterDraw), (img8 b 28, 1, 255, 15, v.panelHeaterDraw),
   (img8 b 29, 1, 4, 2, v.prepPasses), (img8 b 30, 0, 255, 8, v.prepCorrectedLimit),
   (img16 b 32, 1, 600, 30, v.prepRetryDelay), (img16 b 34, 1, 600, 120, v.bootLimit)] ++
  [(img16 b 36, 10, 65535, 1000, v.period), (img16 b 38, 10, 65535, 500, v.warnWindow),
   (img8 b 42, 0, 1, 0, v.autoArm.toNat), (img8 b 43, 0, 1, 0, v.noDisarm.toNat),
   (img8 b 44, 0, 1, 0, v.lockTrip.toNat), (img8 b 45, 1, 15, 1, v.bootStage),
   (img8 b 46, 2, 8, 3, v.escalateCount), (img8 b 47, 1, 60, 10, v.escalateSpan), (img8 b 48, 1, 8, 2, v.coldLimit),
   (img8 b 49, 1, 8, 4, v.rows), (img8 b 50, 1, 8, 4, v.cols), (img8 b 51, 2, 16, 8, v.scanPeriod),
   (img8 b 52, 2, 15, 3, v.debounce), (img8 b 53, 2, 15, 8, v.debounceCold), (img8 b 56, 5, 255, 60, v.stuckTime),
   (img16 b 60, 100, 2000, 500, v.repeatDelay), (img16 b 62, 20, 1000, 100, v.repeatInterval),
   (img16 b 64, 10, 1000, 100, v.cmdWaitLimit)]

/-- The temperatures outside the channels: the image's value, the default and the loaded value. -/
def imageTemps (b : List Byte) (v : Settings) : List (Int × Int × Int) :=
  [(imgTemp b 12, -20, v.coldScrub), (imgTemp b 24, 10, v.maintainTemp), (imgTemp b 54, -30, v.keyCold)]

/-- Every field of the list is in its range. -/
def fieldsInRange (fs : List (Nat × Nat × Nat × Nat × Nat)) : Prop := ∀ f ∈ fs, f.2.1 ≤ f.1 ∧ f.1 ≤ f.2.2.1

/-- Every temperature of the list is in the range of temperatures. -/
def tempsInRange (fs : List (Int × Int × Int)) : Prop := ∀ f ∈ fs, -110 ≤ f.1 ∧ f.1 ≤ 250

section Fields

variable (b : List Byte) (straps : Nat)

theorem globalFields_fields : ∀ f ∈ imageFields b (globalFields b straps).1,
    f.2.2.2.2 = (inRange f.1 f.2.1 f.2.2.1 f.2.2.2.1).1 := by
  have hflag (v : Nat) : (yesNo v false).1.toNat = (inRange v 0 1 0).1 := congrArg Prod.fst (yesNo_eq v false)
  simp only [imageFields, List.cons_append, List.nil_append, List.forall_mem_cons]
  refine ⟨rfl, rfl, rfl, rfl, rfl, rfl, rfl, rfl, rfl, rfl, rfl, rfl, rfl, rfl, rfl, rfl, hflag _, hflag _, hflag _,
    rfl, rfl, rfl, rfl, rfl, rfl, rfl, rfl, rfl, rfl, rfl, rfl, rfl, fun f hf => ?_⟩
  cases hf

theorem globalFields_temps : ∀ f ∈ imageTemps b (globalFields b straps).1, f.2.2 = (tempRange f.1 f.2.1).1 := by
  simp only [imageTemps, List.forall_mem_cons]
  refine ⟨rfl, rfl, rfl, fun f hf => ?_⟩
  cases hf

theorem globalFields_clear : (globalFields b straps).2 = false ↔
    fieldsInRange (imageFields b (globalFields b straps).1) ∧ tempsInRange (imageTemps b (globalFields b straps).1) ∧
    (img8 b 8 ≤ 4 ∨ img8 b 8 = 255) ∧ 1 ≤ img8 b 23 ∧ 1 ≤ img8 b 26 ∧ img8 b 57 ∈ [8, 16, 32, 64] ∧
    img16 b 58 ∈ [16, 32, 64, 128, 256] := by
  have hflag (v : Nat) (d : Bool) : (yesNo v d).2 = false ↔ v ≤ 1 := by
    have hpartial : (yesNo v d).2 = (inRange v 0 1 d.toNat).2 := congrArg Prod.snd (yesNo_eq v d)
    simp [hpartial, inRange_clear]
  have hring (v d : Nat) (values : List Nat) : (oneOf v values d).2 = false ↔ v ∈ values := by simp [oneOf_eq]
  have hbyte (o : Nat) : img8 b o ≤ 255 := Nat.le_of_lt_succ (img8_lt b o)
  simp only [globalFields, fieldsInRange, tempsInRange, imageFields, imageTemps, List.cons_append, List.nil_append,
    List.forall_mem_cons, List.any_cons, List.any_nil, id, Bool.or_eq_false_iff, inRange_clear, tempRange_clear, hflag,
    hring, memSizeField_clear, Nat.zero_le, true_and, hbyte, and_true,
    List.not_mem_nil, false_implies, implies_true, and_assoc]
  exact ⟨fun h => by simp only [h, and_self], fun h => by simp only [h, and_self]⟩

end Fields

end Sys2Proof.Machine

/-! SUPPORT. The checks across the fields and the ring sizes of an image (R100, R134, R176, R195): what they leave in
the loaded copy, and when they leave PARTIAL clear. -/

namespace Sys2Proof.Machine

/-! ## The checks across fields -/

theorem crossChecks_clear (x : Checked Settings) : (crossChecks x).2 = false ↔
    x.2 = false ∧ x.1.minInterval ≤ x.1.period / 2 ∧ x.1.boardDraw ≤ x.1.powerBudget := by
  unfold crossChecks
  by_cases hmin : x.1.minInterval ≤ x.1.period / 2 <;> by_cases hdraw : x.1.boardDraw ≤ x.1.powerBudget <;>
    by_cases hdefault : x.1.boardDraw ≤ 60 <;> simp [hmin, hdraw, hdefault, builtIn]

theorem crossChecks_minInterval (x : Checked Settings) :
    (crossChecks x).1.minInterval ≤ (crossChecks x).1.period / 2 := by
  obtain ⟨hkept, hreset, -, -⟩ := crossChecks_values x
  have hperiod : (crossChecks x).1.period = x.1.period := by rw [(crossChecks_frame x).1]
  rw [hperiod]
  by_cases h : x.1.minInterval ≤ x.1.period / 2
  · rw [hkept h]
    exact h
  · rw [(hreset (Nat.lt_of_not_le h)).1]
    exact Nat.zero_le _

/-! ## The ring sizes -/

/-- The kept window of a ring role is smaller than a number of bytes. -/
def ringSmall (windows : List (Option Window)) (role : RingRole) (bytes : Nat) : Prop :=
  ∃ w, ringIn windows role = some w ∧ w.size < bytes

theorem not_ringSmall_iff (windows : List (Option Window)) (role : RingRole) (bytes : Nat) :
    ¬ ringSmall windows role bytes ↔ ∀ w, ringIn windows role = some w → bytes ≤ w.size := by
  simp [ringSmall]

theorem ringIn_mem {windows : List (Option Window)} {role : RingRole} {w : Window}
    (h : ringIn windows role = some w) : some w ∈ windows := by
  induction windows with
  | nil => cases h
  | cons x xs ih =>
    match x with
    | none => exact List.mem_cons_of_mem _ (ih h)
    | some v =>
      simp only [ringIn] at h
      split at h
      · cases h
        exact List.mem_cons_self
      · exact List.mem_cons_of_mem _ (ih h)

/-- The command ring's size against its window. -/
def fitSlots (x : Checked Settings) : Checked Settings :=
  match ringIn x.1.windows .commandRing with
  | some w => if commandRingBytes x.1.cmdRingSlots ≤ w.size then x else ({ x.1 with cmdRingSlots := 16 }, true)
  | none => x

/-- The event ring's size against its window. -/
def fitEntries (x : Checked Settings) : Checked Settings :=
  match ringIn x.1.windows .eventRing with
  | some w =>
    if eventRingBytes x.1.eventRingEntries ≤ w.size then x else ({ x.1 with eventRingEntries := 64 }, true)
  | none => x

section Rings

variable (x : Checked Settings)

theorem ringSizes_eq : ringSizes x = fitEntries (fitSlots x) := rfl

theorem fitSlots_spec :
    (¬ ringSmall x.1.windows .commandRing (64 * (1 + x.1.cmdRingSlots)) → fitSlots x = x) ∧
    (ringSmall x.1.windows .commandRing (64 * (1 + x.1.cmdRingSlots)) →
      fitSlots x = ({ x.1 with cmdRingSlots := 16 }, true)) := by
  unfold fitSlots ringSmall commandRingBytes
  cases ringIn x.1.windows .commandRing with
  | none => simp
  | some w => simp only [Option.some.injEq, exists_eq_left', Nat.not_lt, ite_eq_left_iff, ite_eq_right_iff]; grind

theorem fitEntries_spec :
    (¬ ringSmall x.1.windows .eventRing (64 + 32 * x.1.eventRingEntries) → fitEntries x = x) ∧
    (ringSmall x.1.windows .eventRing (64 + 32 * x.1.eventRingEntries) →
      fitEntries x = ({ x.1 with eventRingEntries := 64 }, true)) := by
  unfold fitEntries ringSmall eventRingBytes
  cases ringIn x.1.windows .eventRing with
  | none => simp
  | some w => simp only [Option.some.injEq, exists_eq_left', Nat.not_lt]; grind

/-- The first check leaves what the second reads. -/
theorem fitSlots_keeps :
    (fitSlots x).1.windows = x.1.windows ∧ (fitSlots x).1.eventRingEntries = x.1.eventRingEntries := by
  obtain ⟨hfits, hsmall⟩ := fitSlots_spec x
  by_cases h : ringSmall x.1.windows .commandRing (64 * (1 + x.1.cmdRingSlots))
  · simp [hsmall h]
  · simp [hfits h]

theorem fitEntries_slots : (fitEntries x).1.cmdRingSlots = x.1.cmdRingSlots := by
  obtain ⟨hfits, hsmall⟩ := fitEntries_spec x
  by_cases h : ringSmall x.1.windows .eventRing (64 + 32 * x.1.eventRingEntries)
  · simp [hsmall h]
  · simp [hfits h]

/-- Whether the kept command ring, and the kept event ring, do not fit in their windows. -/
theorem ringSizes_slots :
    (¬ ringSmall x.1.windows .commandRing (64 * (1 + x.1.cmdRingSlots)) →
      (ringSizes x).1.cmdRingSlots = x.1.cmdRingSlots) ∧
    (ringSmall x.1.windows .commandRing (64 * (1 + x.1.cmdRingSlots)) → (ringSizes x).1.cmdRingSlots = 16) := by
  rw [ringSizes_eq, fitEntries_slots]
  obtain ⟨hfits, hsmall⟩ := fitSlots_spec x
  exact ⟨fun h => by rw [hfits h], fun h => by rw [hsmall h]⟩

theorem ringSizes_entries :
    (¬ ringSmall x.1.windows .eventRing (64 + 32 * x.1.eventRingEntries) →
      (ringSizes x).1.eventRingEntries = x.1.eventRingEntries) ∧
    (ringSmall x.1.windows .eventRing (64 + 32 * x.1.eventRingEntries) → (ringSizes x).1.eventRingEntries = 64) := by
  obtain ⟨hwindows, hentries⟩ := fitSlots_keeps x
  obtain ⟨hfits, hsmall⟩ := fitEntries_spec (fitSlots x)
  rw [hwindows, hentries] at hfits hsmall
  exact ⟨fun h => by rw [ringSizes_eq, hfits h, hentries], fun h => by rw [ringSizes_eq, hsmall h]⟩

theorem ringSizes_clear : (ringSizes x).2 = false ↔ x.2 = false ∧
    ¬ ringSmall x.1.windows .commandRing (64 * (1 + x.1.cmdRingSlots)) ∧
    ¬ ringSmall x.1.windows .eventRing (64 + 32 * x.1.eventRingEntries) := by
  obtain ⟨hwindows, hentries⟩ := fitSlots_keeps x
  obtain ⟨hfits, hsmall⟩ := fitEntries_spec (fitSlots x)
  rw [hwindows, hentries] at hfits hsmall
  obtain ⟨hslotsFit, hslotsSmall⟩ := fitSlots_spec x
  rw [ringSizes_eq]
  by_cases he : ringSmall x.1.windows .eventRing (64 + 32 * x.1.eventRingEntries)
  · simp [hsmall he, he]
  · by_cases hs : ringSmall x.1.windows .commandRing (64 * (1 + x.1.cmdRingSlots))
    · rw [hfits he, hslotsSmall hs]
      simp [hs]
    · rw [hfits he, hslotsFit hs]
      simp [hs, he]

/-- A ring that is kept fits in its window, where every window has 4,096 bytes or more (R195). -/
theorem ringSizes_fit (hsize : ∀ w, some w ∈ x.1.windows → 4096 ≤ w.size) :
    ¬ ringSmall x.1.windows .commandRing (64 * (1 + (ringSizes x).1.cmdRingSlots)) ∧
    ¬ ringSmall x.1.windows .eventRing (64 + 32 * (ringSizes x).1.eventRingEntries) := by
  have hlarge (role : RingRole) (bytes : Nat) (hbytes : bytes ≤ 4096) : ¬ ringSmall x.1.windows role bytes := by
    rintro ⟨w, hw, hlt⟩
    have := hsize w (ringIn_mem hw)
    omega
  obtain ⟨hslotsFit, hslotsSmall⟩ := ringSizes_slots x
  obtain ⟨hentriesFit, hentriesSmall⟩ := ringSizes_entries x
  constructor
  · by_cases h : ringSmall x.1.windows .commandRing (64 * (1 + x.1.cmdRingSlots))
    · rw [hslotsSmall h]
      exact hlarge _ _ (by decide)
    · rwa [hslotsFit h]
  · by_cases h : ringSmall x.1.windows .eventRing (64 + 32 * x.1.eventRingEntries)
    · rw [hentriesSmall h]
      exact hlarge _ _ (by decide)
    · rwa [hentriesFit h]

end Rings

end Sys2Proof.Machine

/-! SUPPORT. The channels of an image (R89, R195): each in the loaded copy, and when it leaves PARTIAL clear. -/

namespace Sys2Proof.Machine

theorem channelRoleOfCode_spec (c : Nat) :
    (c ≤ 4 → ∃ r, ChannelRole.ofCode c = some r ∧ r.code = c) ∧ (¬ c ≤ 4 → ChannelRole.ofCode c = none) := by
  match c with
  | 0 => exact ⟨fun _ => ⟨.disabled, rfl, rfl⟩, fun h => absurd (by omega) h⟩
  | 1 => exact ⟨fun _ => ⟨.board, rfl, rfl⟩, fun h => absurd (by omega) h⟩
  | 2 => exact ⟨fun _ => ⟨.memory, rfl, rfl⟩, fun h => absurd (by omega) h⟩
  | 3 => exact ⟨fun _ => ⟨.panel, rfl, rfl⟩, fun h => absurd (by omega) h⟩
  | 4 => exact ⟨fun _ => ⟨.air, rfl, rfl⟩, fun h => absurd (by omega) h⟩
  | c + 5 => exact ⟨fun h => absurd h (by omega), fun _ => rfl⟩

theorem channelRole_disabled_iff (r : ChannelRole) : r = .disabled ↔ r.code = 0 := by
  cases r <;> simp [ChannelRole.code]

/-- A temperature where that is in the range of temperatures, and else its default. -/
def within (t dflt : Int) : Int := if -110 ≤ t ∧ t ≤ 250 then t else dflt

theorem tempRange_value (t dflt : Int) : (tempRange t dflt).1 = within t dflt := by
  rw [tempRange_eq]
  rfl

/-- The rule for a channel's thresholds (R89). -/
def ChannelSettings.ordered (c : ChannelSettings) : Prop :=
  c.release ≤ c.critical ∧ c.target ≤ c.critical ∧ c.warnHot ≤ c.critical ∧ c.resume < c.critical

/-- The role of a channel of an image, with PARTIAL. -/
def imageRole (b : List Byte) (k : Nat) : Checked ChannelRole :=
  match ChannelRole.ofCode (img8 b (72 + 16 * k)) with
  | some r => (r, false)
  | none => (defaultRole k, true)

/-- A channel with the thresholds of an image, each out of range at its own default. -/
def imageChannel (b : List Byte) (k : Nat) (role : ChannelRole) : ChannelSettings :=
  { role := role
    release := within (imgTemp b (72 + 16 * k + 2)) 0
    target := within (imgTemp b (72 + 16 * k + 4)) 10
    warnHot := within (imgTemp b (72 + 16 * k + 6)) 140
    critical := within (imgTemp b (72 + 16 * k + 8)) 170
    resume := within (imgTemp b (72 + 16 * k + 10)) 120 }

/-- Threshold `j` of a channel of an image: release, target, warn hot, critical and resume. -/
def threshold (b : List Byte) (k j : Nat) : Int := imgTemp b (74 + 16 * k + 2 * j)

/-- The thresholds of a channel of an image are in the range of temperatures. -/
def thresholdsInRange (b : List Byte) (k : Nat) : Prop := ∀ j < 5, -110 ≤ threshold b k j ∧ threshold b k j ≤ 250

/-- The channel of an image is legal (R89). -/
def channelLegal (b : List Byte) (k : Nat) : Prop :=
  img8 b (72 + 16 * k) ≤ 4 ∧ thresholdsInRange b k ∧
  (img8 b (72 + 16 * k) = 0 ∨ (threshold b k 0 ≤ threshold b k 3 ∧ threshold b k 1 ≤ threshold b k 3 ∧
    threshold b k 2 ≤ threshold b k 3 ∧ threshold b k 4 < threshold b k 3))

section Channel

variable (b : List Byte) (k : Nat)

theorem imageRole_spec :
    (img8 b (72 + 16 * k) ≤ 4 → (imageRole b k).1.code = img8 b (72 + 16 * k) ∧ (imageRole b k).2 = false) ∧
    (¬ img8 b (72 + 16 * k) ≤ 4 → imageRole b k = (defaultRole k, true)) := by
  unfold imageRole
  obtain ⟨hcode, hnone⟩ := channelRoleOfCode_spec (img8 b (72 + 16 * k))
  refine ⟨fun h => ?_, fun h => by rw [hnone h]⟩
  obtain ⟨r, hr, hrCode⟩ := hcode h
  rw [hr]
  exact ⟨hrCode, rfl⟩

/-- The thresholds of a channel by their offsets. -/
theorem threshold_eq (j : Nat) : imgTemp b (72 + 16 * k + 2 * (j + 1)) = threshold b k j := by
  unfold threshold
  congr 1
  omega

theorem thresholdsInRange_iff : thresholdsInRange b k ↔
    (tempRange (imgTemp b (72 + 16 * k + 2)) 0).2 = false ∧ (tempRange (imgTemp b (72 + 16 * k + 4)) 10).2 = false ∧
    (tempRange (imgTemp b (72 + 16 * k + 6)) 140).2 = false ∧ (tempRange (imgTemp b (72 + 16 * k + 8)) 170).2 = false ∧
    (tempRange (imgTemp b (72 + 16 * k + 10)) 120).2 = false := by
  simp only [tempRange_clear]
  rw [threshold_eq b k 0, threshold_eq b k 1, threshold_eq b k 2, threshold_eq b k 3, threshold_eq b k 4]
  refine ⟨fun h => ⟨h 0 (by decide), h 1 (by decide), h 2 (by decide), h 3 (by decide), h 4 (by decide)⟩, ?_⟩
  rintro ⟨h0, h1, h2, h3, h4⟩ j hj
  match j, hj with
  | 0, _ => exact h0
  | 1, _ => exact h1
  | 2, _ => exact h2
  | 3, _ => exact h3
  | 4, _ => exact h4

/-- A channel keeps its thresholds where it is disabled or they are in order. -/
theorem channelEntry_kept (h : (imageRole b k).1 = .disabled ∨ (imageChannel b k (imageRole b k).1).ordered) :
    (channelEntry b k).1 = imageChannel b k (imageRole b k).1 ∧
    ((channelEntry b k).2 = false ↔ (imageRole b k).2 = false ∧ thresholdsInRange b k) := by
  have hentry : channelEntry b k = _ := if_pos (by
    simp only [Bool.and_eq_true, decide_eq_true_eq, tempRange_value, and_assoc]
    exact h)
  rw [hentry, thresholdsInRange_iff]
  refine ⟨?_, ?_⟩
  · simp only [tempRange_value]
    rfl
  · simp only [Bool.or_eq_false_iff, and_assoc]
    exact Iff.rfl

/-- A channel with its thresholds out of order has those of the defaults. -/
theorem channelEntry_default (h : ¬ ((imageRole b k).1 = .disabled ∨ (imageChannel b k (imageRole b k).1).ordered)) :
    channelEntry b k = ({ defaultChannel k with role := (imageRole b k).1 }, true) := by
  refine if_neg fun hkept => h ?_
  simp only [Bool.and_eq_true, decide_eq_true_eq, tempRange_value, and_assoc] at hkept
  exact hkept

theorem channelEntry_role : (channelEntry b k).1.role = (imageRole b k).1 := by
  by_cases h : (imageRole b k).1 = .disabled ∨ (imageChannel b k (imageRole b k).1).ordered
  · rw [(channelEntry_kept b k h).1]
    rfl
  · rw [channelEntry_default b k h]

/-- In range, the thresholds are those of the image. -/
theorem imageChannel_ordered_iff (h : thresholdsInRange b k) (role : ChannelRole) :
    (imageChannel b k role).ordered ↔ threshold b k 0 ≤ threshold b k 3 ∧ threshold b k 1 ≤ threshold b k 3 ∧
      threshold b k 2 ≤ threshold b k 3 ∧ threshold b k 4 < threshold b k 3 := by
  have hvalue (j : Nat) (hj : j < 5) (dflt : Int) :
      within (imgTemp b (72 + 16 * k + 2 * (j + 1))) dflt = threshold b k j := by
    rw [threshold_eq]
    exact if_pos (h j hj)
  rw [← hvalue 0 (by decide) 0, ← hvalue 1 (by decide) 10, ← hvalue 2 (by decide) 140, ← hvalue 3 (by decide) 170,
    ← hvalue 4 (by decide) 120]
  rfl

theorem channelEntry_clear : (channelEntry b k).2 = false ↔ channelLegal b k := by
  obtain ⟨hrole, hnone⟩ := imageRole_spec b k
  by_cases h : (imageRole b k).1 = .disabled ∨ (imageChannel b k (imageRole b k).1).ordered
  · rw [(channelEntry_kept b k h).2]
    by_cases hcode : img8 b (72 + 16 * k) ≤ 4
    · obtain ⟨hrole, hclear⟩ := hrole hcode
      simp only [channelLegal, hcode, hclear, true_and, iff_self_and]
      intro hrange
      rw [channelRole_disabled_iff, hrole, imageChannel_ordered_iff b k hrange] at h
      exact h
    · simp [channelLegal, hcode, hnone hcode]
  · rw [channelEntry_default b k h]
    refine iff_of_false (by simp) fun ⟨hcode, hrange, hordered⟩ => h ?_
    rw [channelRole_disabled_iff, (hrole hcode).1, imageChannel_ordered_iff b k hrange]
    exact hordered

/-- A channel that is not disabled has its thresholds in order, whatever the image holds. -/
theorem channelEntry_ordered (h : (channelEntry b k).1.role ≠ .disabled) : (channelEntry b k).1.ordered := by
  rw [channelEntry_role] at h
  by_cases hkept : (imageRole b k).1 = .disabled ∨ (imageChannel b k (imageRole b k).1).ordered
  · rw [(channelEntry_kept b k hkept).1]
    exact hkept.resolve_left h
  · rw [channelEntry_default b k hkept]
    simp [ChannelSettings.ordered, defaultChannel]

/-- The channel of the loaded copy at its place in the image (R89). -/
theorem channelEntry_spec :
    (img8 b (72 + 16 * k) ≤ 4 → (channelEntry b k).1.role.code = img8 b (72 + 16 * k)) ∧
    (4 < img8 b (72 + 16 * k) → (channelEntry b k).1.role = defaultRole k) ∧
    ((channelEntry b k).1.role = .disabled ∨ (imageChannel b k (channelEntry b k).1.role).ordered →
      (channelEntry b k).1 = imageChannel b k (channelEntry b k).1.role) ∧
    ((channelEntry b k).1.role ≠ .disabled → ¬ (imageChannel b k (channelEntry b k).1.role).ordered →
      (channelEntry b k).1 = { defaultChannel k with role := (channelEntry b k).1.role } ∧
      (channelEntry b k).2 = true) := by
  obtain ⟨hrole, hnone⟩ := imageRole_spec b k
  rw [channelEntry_role]
  refine ⟨fun h => (hrole h).1, fun h => by rw [hnone (by omega)], fun h => (channelEntry_kept b k h).1,
    fun hdisabled hordered => ?_⟩
  rw [channelEntry_default b k fun h => h.elim hdisabled hordered]
  exact ⟨rfl, rfl⟩

end Channel

end Sys2Proof.Machine

/-! SUPPORT. The windows of an image (R17, R22, R195, assumption log 23): when an entry is kept, and when it leaves
PARTIAL clear. -/

namespace Sys2Proof.Machine

/-- What has a value is legal, where nothing illegal has one. -/
theorem legal_of_some {α : Type} {legal : Prop} {x : Option α} {v : α} (hx : x = some v) (hnone : ¬ legal → x = none) :
    legal := by
  refine Classical.byContradiction fun hn => ?_
  rw [hnone hn] at hx
  cases hx

theorem ringRoleOfCode_spec (c : Nat) :
    (c ≤ 2 → ∃ r, RingRole.ofCode c = some r ∧ r.code = c) ∧ (¬ c ≤ 2 → RingRole.ofCode c = Option.none) := by
  match c with
  | 0 => exact ⟨fun _ => ⟨.none, rfl, rfl⟩, fun h => absurd (by omega) h⟩
  | 1 => exact ⟨fun _ => ⟨.commandRing, rfl, rfl⟩, fun h => absurd (by omega) h⟩
  | 2 => exact ⟨fun _ => ⟨.eventRing, rfl, rfl⟩, fun h => absurd (by omega) h⟩
  | c + 3 => exact ⟨fun h => absurd h (by omega), fun _ => rfl⟩

theorem ringRole_code_inj {r r' : RingRole} : r.code = r'.code ↔ r = r' := by
  cases r <;> cases r' <;> simp [RingRole.code]

theorem checkPolicy_report_iff (p : CheckPolicy) : p = .report ↔ p.code = 1 := by
  cases p <;> simp [CheckPolicy.code]

/-- The enumerated and yes/no bytes of a window entry hold listed values. -/
def windowCodesLegal (b : List Byte) (o : Nat) : Prop :=
  img8 b (o + 8) ≤ 2 ∧ img8 b (o + 9) ≤ 1 ∧ img8 b (o + 10) ≤ 2 ∧ img8 b (o + 11) ≤ 1 ∧ img8 b (o + 12) ≤ 1

/-- A window is that of the bytes of an entry. -/
def Window.isOf (w : Window) (b : List Byte) (o : Nat) : Prop :=
  w.base = img32 b o ∧ w.size = img32 b (o + 4) ∧ w.writePolicy.code = img8 b (o + 8) ∧
  w.checkPolicy.code = img8 b (o + 9) ∧ w.ringRole.code = img8 b (o + 10) ∧ w.poisonRestart.toNat = img8 b (o + 11) ∧
  w.shielded.toNat = img8 b (o + 12)

/-- The window entry of an image is legal of itself (R17, R18). -/
def windowLegal (b : List Byte) (usable o : Nat) : Prop :=
  (∃ n, img32 b (o + 4) = 2 ^ n) ∧ 4096 ≤ img32 b (o + 4) ∧ img32 b o % img32 b (o + 4) = 0 ∧
  img32 b o + img32 b (o + 4) ≤ usable ∧ img8 b (o + 8) ≤ 2 ∧ img8 b (o + 9) ≤ 1 ∧ img8 b (o + 10) ≤ 2 ∧
  img8 b (o + 11) ≤ 1 ∧ img8 b (o + 12) ≤ 1 ∧ ¬ (img8 b (o + 12) = 1 ∧ img8 b (o + 9) = 1)

/-- The window entry of an image agrees with the first `k` windows of a table (R195). -/
def windowConforms (b : List Byte) (o : Nat) (windows : List (Option Window)) (k : Nat) : Prop :=
  ∀ j < k, ∀ x, windows[j]? = some (some x) →
    (x.base + x.size ≤ img32 b o ∨ img32 b o + img32 b (o + 4) ≤ x.base) ∧
    (img8 b (o + 10) = 0 ∨ x.ringRole.code ≠ img8 b (o + 10))

section Window

variable (b : List Byte)

theorem boolOfCode_toNat {n : Nat} (h : n ≤ 1) : ∃ v : Bool, boolOfCode n = some v ∧ v.toNat = n := by
  match n with
  | 0 => exact ⟨false, rfl, rfl⟩
  | 1 => exact ⟨true, rfl, rfl⟩

theorem windowFields_some (o : Nat) (h : windowCodesLegal b o) : ∃ w, windowFields b o = some w ∧ w.isOf b o := by
  obtain ⟨hwrite, hcheck, hrole, hpoison, hshielded⟩ := h
  obtain ⟨wp, hwp, hwpCode⟩ := (writePolicyOfCode_spec _).1 hwrite
  obtain ⟨cp, hcp, hcpCode⟩ := (checkPolicyOfCode_spec _).1 hcheck
  obtain ⟨role, hr, hrCode⟩ := (ringRoleOfCode_spec _).1 hrole
  obtain ⟨poison, hp, hpCode⟩ := boolOfCode_toNat hpoison
  obtain ⟨shielded, hs, hsCode⟩ := boolOfCode_toNat hshielded
  let w : Window := { base := img32 b o, size := img32 b (o + 4), writePolicy := wp, checkPolicy := cp, ringRole := role,
                      poisonRestart := poison, shielded := shielded }
  refine ⟨w, ?_, rfl, rfl, hwpCode, hcpCode, hrCode, hpCode, hsCode⟩
  simp only [windowFields, hwp, hcp, hr, hp, hs, Option.bind_eq_bind, Option.bind_some]
  rfl

theorem windowFields_none (o : Nat) (h : ¬ windowCodesLegal b o) : windowFields b o = none := by
  rw [Option.eq_none_iff_forall_ne_some]
  intro w hw
  simp only [windowFields, Option.bind_eq_bind, Option.bind_eq_some_iff] at hw
  obtain ⟨wp, hwp, cp, hcp, role, hr, poison, hp, shielded, hs, -⟩ := hw
  exact h ⟨legal_of_some hwp (writePolicyOfCode_spec _).2, legal_of_some hcp (checkPolicyOfCode_spec _).2,
    legal_of_some hr (ringRoleOfCode_spec _).2, (boolOfCode_some hp).1, (boolOfCode_some hs).1⟩

theorem windowAgrees_iff (kept : List (Option Window)) (w : Window) : windowAgrees kept w = true ↔
    ∀ x, some x ∈ kept → x.apart w ∧ (w.ringRole = .none ∨ x.ringRole ≠ w.ringRole) := by
  refine ⟨fun h x hx => windowAgrees_mem h hx, fun h => List.all_eq_true.2 fun e he => ?_⟩
  match e with
  | none => rfl
  | some x =>
    obtain ⟨hapart, hrole⟩ := h x he
    simpa only [Bool.and_eq_true, Bool.not_eq_true', Bool.or_eq_true, decide_eq_true_eq] using
      And.intro ((overlaps_eq_false_iff x w).2 hapart) hrole

/-- A window agrees with the table built before it. -/
theorem windowAgrees_isOf {w : Window} {o : Nat} (hw : w.isOf b o) (kept : List (Option Window)) (k : Nat)
    (hlength : kept.length = k) : windowAgrees kept w = true ↔ windowConforms b o kept k := by
  obtain ⟨hbase, hsize, -, -, hrole, -, -⟩ := hw
  have hnone : w.ringRole = .none ↔ img8 b (o + 10) = 0 := by
    rw [← hrole]
    exact ringRole_code_inj.symm
  have hdistinct (x : Window) : x.ringRole ≠ w.ringRole ↔ x.ringRole.code ≠ img8 b (o + 10) := by
    rw [← hrole]
    exact not_congr ringRole_code_inj.symm
  rw [windowAgrees_iff]
  simp only [Window.apart, hbase, hsize, hnone, hdistinct]
  constructor
  · exact fun h j _ x hx => h x (List.mem_of_getElem? hx)
  · intro h x hx
    obtain ⟨j, hj⟩ := List.getElem?_of_mem hx
    exact h j (hlength ▸ (List.getElem?_eq_some_iff.1 hj).1) x hj

end Window

/-! ## One entry -/

section Entry

variable (b : List Byte) (usable : Nat) (kept : List (Option Window)) (k : Nat)

theorem windowEntry_clear : (windowEntry b usable kept k).2 = false ↔
    ((windowEntry b usable kept k).1 = none → img32 b (136 + 16 * k + 4) = 0) := by
  unfold windowEntry
  dsimp only
  split
  · next hempty => simp [hempty]
  · next hused =>
    split
    · simp [hused]
    · split <;> simp [hused]

/-- A legal window that agrees with those before it is kept. -/
theorem windowEntry_kept (hlength : kept.length = k) (hlegal : windowLegal b usable (136 + 16 * k))
    (hconforms : windowConforms b (136 + 16 * k) kept k) :
    ∃ w, (windowEntry b usable kept k).1 = some w ∧ w.isOf b (136 + 16 * k) := by
  obtain ⟨hpow, hsize, haligned, hend, hwrite, hcheck, hrole, hpoison, hshielded, hpolicy⟩ := hlegal
  obtain ⟨w, hfields, hw⟩ := windowFields_some b _ ⟨hwrite, hcheck, hrole, hpoison, hshielded⟩
  have hagrees := (windowAgrees_isOf b hw kept k hlength).2 hconforms
  obtain ⟨hbase, hsizeOf, -, hcheckOf, -, -, hshieldedOf⟩ := id hw
  have hfits : windowFits usable w.base w.size = true := by
    rw [windowFits_iff, hbase, hsizeOf]
    exact ⟨hpow, hsize, haligned, hend⟩
  have hshield : (w.shielded && decide (w.checkPolicy = .report)) = false := by
    rw [Bool.and_eq_false_iff, decide_eq_false_iff_not, checkPolicy_report_iff, hcheckOf]
    refine Classical.byContradiction fun hboth => ?_
    simp only [not_or, Bool.not_eq_false, Classical.not_not] at hboth
    exact hpolicy ⟨by rw [← hshieldedOf, hboth.1]; rfl, hboth.2⟩
  refine ⟨w, ?_, hw⟩
  have hused : img32 b (136 + 16 * k + 4) ≠ 0 := by omega
  unfold windowEntry
  simp only [hused, if_false, hfields, hfits, hshield, hagrees, Bool.not_false, Bool.and_self, if_true]

/-- A window that is kept is legal and agrees with those before it. -/
theorem windowEntry_legal {w : Window} (hlength : kept.length = k) (h : (windowEntry b usable kept k).1 = some w) :
    windowLegal b usable (136 + 16 * k) ∧ windowConforms b (136 + 16 * k) kept k := by
  obtain ⟨hfields, hfits, hshield, hagrees⟩ := windowEntry_some h
  have hcodes : windowCodesLegal b (136 + 16 * k) := by
    refine Classical.byContradiction fun hn => ?_
    rw [windowFields_none b _ hn] at hfields
    cases hfields
  obtain ⟨w', hfields', hw⟩ := windowFields_some b _ hcodes
  cases hfields.symm.trans hfields'
  refine ⟨?_, (windowAgrees_isOf b hw kept k hlength).1 hagrees⟩
  obtain ⟨hbase, hsizeOf, -, hcheckOf, -, -, hshieldedOf⟩ := hw
  rw [windowFits_iff, hbase, hsizeOf] at hfits
  obtain ⟨hpow, hsize, haligned, hend⟩ := hfits
  obtain ⟨hwrite, hcheck, hrole, hpoison, hshielded⟩ := hcodes
  refine ⟨hpow, hsize, haligned, hend, hwrite, hcheck, hrole, hpoison, hshielded, fun ⟨hs, hc⟩ => ?_⟩
  rw [Bool.and_eq_false_iff, decide_eq_false_iff_not, checkPolicy_report_iff, hcheckOf] at hshield
  refine hshield.elim (fun hfalse => ?_) fun hne => hne hc
  rw [hfalse] at hshieldedOf
  exact absurd (hshieldedOf.trans hs) (by decide)

end Entry

/-! ## The table -/

section Table

variable (b : List Byte) (usable : Nat)

theorem windowEntries_clear (n : Nat) : (windowEntries b usable n).2 = false ↔
    ∀ k < n, (windowEntry b usable (windowEntries b usable k).1 k).2 = false := by
  induction n with
  | zero => simp [windowEntries]
  | succ n ih => simp only [windowEntries, Bool.or_eq_false_iff, ih, Nat.forall_lt_succ_right]

/-- What agrees with the table before a place is what agrees with the first windows of the whole table. -/
theorem windowConforms_prefix (o n k : Nat) (hk : k ≤ n) :
    windowConforms b o (windowEntries b usable k).1 k ↔ windowConforms b o (windowEntries b usable n).1 k := by
  refine forall_congr' fun j => forall_congr' fun hj => ?_
  rw [windowEntries_prefix b usable n j k hj hk]

/-- The window of the loaded copy at its place in the image (R195). -/
theorem windowEntries_spec (k : Nat) (e : Option Window) (h : (windowEntries b usable 16).1[k]? = some e) :
    (windowLegal b usable (136 + 16 * k) ∧ windowConforms b (136 + 16 * k) (windowEntries b usable 16).1 k →
      ∃ w, e = some w ∧ w.isOf b (136 + 16 * k)) ∧
    (¬ (windowLegal b usable (136 + 16 * k) ∧ windowConforms b (136 + 16 * k) (windowEntries b usable 16).1 k) →
      e = none) := by
  have hk : k < 16 := by
    obtain ⟨hk, -⟩ := List.getElem?_eq_some_iff.1 h
    rwa [windowEntries_length] at hk
  rw [windowEntries_getElem? b usable 16 k hk, Option.some.injEq] at h
  have hlength := windowEntries_length b usable k
  rw [← windowConforms_prefix b usable _ 16 k (Nat.le_of_lt hk), ← h]
  refine ⟨fun ⟨hlegal, hconforms⟩ => windowEntry_kept b usable _ k hlength hlegal hconforms, fun hn => ?_⟩
  rw [Option.eq_none_iff_forall_ne_some]
  exact fun w hw => hn (windowEntry_legal b usable _ k hlength hw)

/-- The windows leave PARTIAL clear where every place without a window is empty in the image. -/
theorem windowEntries_clear_iff : (windowEntries b usable 16).2 = false ↔
    ∀ k < 16, (windowEntries b usable 16).1[k]? = some none → img32 b (136 + 16 * k + 4) = 0 := by
  rw [windowEntries_clear]
  refine forall_congr' fun k => forall_congr' fun hk => ?_
  rw [windowEntry_clear, windowEntries_getElem? b usable 16 k hk, Option.some.injEq]

end Table

end Sys2Proof.Machine

/-! SUPPORT. The watch entries and the key map of an image (R117, R118, R164, R195, R200): each in the loaded copy, and
when it leaves PARTIAL clear. -/

namespace Sys2Proof.Machine

/-! ## The bytes of a word that may end early -/

theorem leNat_append_zeros (bs : List Byte) (n : Nat) : leNat (bs ++ List.replicate n 0) = leNat bs := by
  induction bs with
  | nil =>
    induction n with
    | zero => rfl
    | succ n ih =>
      simp only [List.nil_append, leNat] at ih
      simp only [List.nil_append, List.replicate_succ, leNat, ih]
      rfl
  | cons x xs ih => simp only [List.cons_append, leNat, ih]

/-- Byte `k` of the word that bytes spell: a byte missing at the end counts as 0. -/
theorem wordByte_wordOf_getD (bs : List Byte) (k : Nat) (hk : k < 8) : wordByte (wordOf bs) k = bs.getD k 0 := by
  have hpadded : wordOf (bs ++ List.replicate 8 0) = wordOf bs := by
    simp only [wordOf, List.take_append, List.take_replicate, leNat_append_zeros]
  rw [← hpadded, wordByte_wordOf_long _ k (by simp) hk]
  simp only [List.getD_eq_getElem?_getD, List.getElem?_append, List.getElem?_replicate]
  split
  · rfl
  · next hout => rw [List.getElem?_eq_none (by omega)]; split <;> rfl

/-- Byte `j` of a watch value or mask that stands at an offset of an image. -/
theorem lowBytes_image (b : List Byte) (n o j : Nat) (hj : j < 8) :
    (wordByte (lowBytes n (wordOf (b.drop o))) j).toNat = if j < n then img8 b (o + j) else 0 := by
  rw [lowBytes_byte n _ j hj, wordByte_wordOf_getD _ j hj]
  split
  · simp only [img8, List.getD_eq_getElem?_getD, List.getElem?_drop]
  · rfl

/-! ## Watch entries -/

/-- The watch entry at an offset of an image is legal (R117). -/
def watchLegal (b : List Byte) (usable o : Nat) : Prop :=
  img8 b (o + 4) ∈ [1, 2, 4, 8, 16, 32, 64] ∧ img32 b o % img8 b (o + 4) = 0 ∧
  img32 b o + img8 b (o + 4) ≤ usable ∧ img8 b (o + 5) ≤ 2 ∧ img8 b (o + 6) ≤ 1 ∧ img8 b (o + 7) ≤ 3 ∧
  (img8 b (o + 7) = 1 → 1 ≤ img8 b (o + 8) ∧ img8 b (o + 8) ≤ 15) ∧ img8 b (o + 9) ≤ 1 ∧
  (img8 b (o + 6) = 1 → img8 b (o + 4) ≤ 8 ∧ img8 b (o + 5) = 0)

/-- A watch entry is that at an offset of an image. -/
def WatchEntry.isOf (w : WatchEntry) (b : List Byte) (o : Nat) : Prop :=
  w.base = img32 b o ∧ w.length = img8 b (o + 4) ∧ w.access.code = img8 b (o + 5) ∧ w.role.code = img8 b (o + 7) ∧
  (img8 b (o + 7) = 1 → w.role = .stage (img8 b (o + 8))) ∧ w.persistence = .standing ∧
  w.enabled.toNat = img8 b (o + 9) ∧ w.suppressed = false ∧ (img8 b (o + 6) = 0 → w.dataMatch = none) ∧
  (img8 b (o + 6) = 1 → ∃ d, w.dataMatch = some d ∧ ∀ j < 8,
    (wordByte d.value j).toNat = (if j < img8 b (o + 4) then img8 b (o + 16 + j) else 0) ∧
    (wordByte d.mask j).toNat = (if j < img8 b (o + 4) then img8 b (o + 24 + j) else 0))

section Watch

variable (b : List Byte) (usable k : Nat)

/-- The entry that the bytes at an offset name, with what they parse to. -/
def imageWatch (o : Nat) (access : WatchAccess) (present : Bool) (role : WatchRole) (enabled : Bool) : WatchEntry :=
  { base := img32 b o, length := img8 b (o + 4), access := access
    dataMatch := if present then
        some { value := lowBytes (img8 b (o + 4)) (wordOf (b.drop (o + 16)))
               mask := lowBytes (img8 b (o + 4)) (wordOf (b.drop (o + 24))) }
      else none
    role := role, persistence := .standing, enabled := enabled, suppressed := false }

/-- What the bytes of a watch entry parse to. -/
def parseWatch (o : Nat) : Option WatchEntry := do
  let access ← WatchAccess.ofCode (img8 b (o + 5))
  let present ← boolOfCode (img8 b (o + 6))
  let role ← WatchRole.ofCode (img8 b (o + 7)) (img8 b (o + 8))
  let enabled ← boolOfCode (img8 b (o + 9))
  some (imageWatch b o access present role enabled)

/-- Whether a parsed entry may be kept. -/
def watchOk (e : WatchEntry) : Bool :=
  watchFits usable e.base e.length && (e.dataMatch.isNone || (decide (e.length ≤ 8) && decide (e.access = .write)))

theorem watchEntry_eq : watchEntry b usable k =
    if img8 b (392 + 32 * k + 4) = 0 then (none, false)
    else match parseWatch b (392 + 32 * k) with
      | none => (none, true)
      | some e => if watchOk usable e then (some e, false) else (none, true) := rfl

theorem watchEntry_clear : (watchEntry b usable k).2 = false ↔
    ((watchEntry b usable k).1 = none → img8 b (392 + 32 * k + 4) = 0) := by
  rw [watchEntry_eq]
  split
  · next hempty => simp [hempty]
  · next hused =>
    split
    · simp [hused]
    · split <;> simp [hused]

theorem watchOk_iff (o : Nat) (access : WatchAccess) (present : Bool) (role : WatchRole) (enabled : Bool) :
    watchOk usable (imageWatch b o access present role enabled) = true ↔
      (img8 b (o + 4) ∈ [1, 2, 4, 8, 16, 32, 64] ∧ img32 b o % img8 b (o + 4) = 0 ∧
        img32 b o + img8 b (o + 4) ≤ usable) ∧
      (present = true → img8 b (o + 4) ≤ 8 ∧ access.code = 0) := by
  rw [watchOk, Bool.and_eq_true, ← watchAccess_write_iff]
  refine and_congr (watchFits_iff _ _ _) ?_
  cases present <;> simp [imageWatch]

/-- A legal watch entry is kept. -/
theorem watchEntry_kept (h : watchLegal b usable (392 + 32 * k)) :
    ∃ w, (watchEntry b usable k).1 = some w ∧ w.isOf b (392 + 32 * k) := by
  rw [watchEntry_eq]
  generalize 392 + 32 * k = o at h ⊢
  obtain ⟨hlength, haligned, hend, haccess, hpresent, hrole, hstage, henabled, hmatch⟩ := h
  obtain ⟨access, ha, haCode⟩ := (watchAccessOfCode_spec _).1 haccess
  obtain ⟨present, hp, hpCode⟩ := boolOfCode_toNat hpresent
  obtain ⟨role, hr, hrCode, hrStage⟩ := (watchRoleOfCode_spec _ (img8 b (o + 8))).1 ⟨hrole, hstage⟩
  obtain ⟨enabled, he, heCode⟩ := boolOfCode_toNat henabled
  have hparse : parseWatch b o = some (imageWatch b o access present role enabled) := by
    simp only [parseWatch, ha, hp, hr, he, Option.bind_eq_bind, Option.bind_some]
  have hok : watchOk usable (imageWatch b o access present role enabled) = true := by
    refine (watchOk_iff b usable o access present role enabled).2 ⟨⟨hlength, haligned, hend⟩, fun hpresent => ?_⟩
    rw [hpresent] at hpCode
    rw [haCode]
    exact hmatch hpCode.symm
  have hused : img8 b (o + 4) ≠ 0 := fun hzero => by simp [hzero] at hlength
  refine ⟨imageWatch b o access present role enabled, ?_, rfl, rfl, haCode, hrCode, hrStage, rfl, heCode, rfl,
    fun hzero => ?_, fun hone => ?_⟩
  · rw [if_neg hused, hparse]
    simp only [hok, if_true]
  · have hfalse : present = false := Bool.toNat_eq_zero.1 (hpCode.trans hzero)
    simp [imageWatch, hfalse]
  · have htrue : present = true := Bool.toNat_eq_one.1 (hpCode.trans hone)
    subst htrue
    refine ⟨_, rfl, fun j hj => ⟨?_, ?_⟩⟩ <;> exact lowBytes_image b _ _ j hj

/-- A watch entry that is kept is legal. -/
theorem watchEntry_legal {w : WatchEntry} (h : (watchEntry b usable k).1 = some w) :
    watchLegal b usable (392 + 32 * k) := by
  rw [watchEntry_eq] at h
  generalize 392 + 32 * k = o at h ⊢
  split at h
  · cases h
  split at h
  · cases h
  next e hparse =>
  split at h
  · next hok =>
    simp only [parseWatch, Option.bind_eq_bind, Option.bind_eq_some_iff] at hparse
    obtain ⟨access, ha, present, hp, role, hr, enabled, he, hentry⟩ := hparse
    cases hentry
    obtain ⟨⟨hlength, haligned, hend⟩, hmatch⟩ := (watchOk_iff b usable o access present role enabled).1 hok
    obtain ⟨hpresent, rfl⟩ := boolOfCode_some hp
    obtain ⟨henabled, -⟩ := boolOfCode_some he
    have haccess := legal_of_some ha (watchAccessOfCode_spec _).2
    obtain ⟨hrole, hstage⟩ := legal_of_some hr (watchRoleOfCode_spec _ _).2
    obtain ⟨access', ha', haCode⟩ := (watchAccessOfCode_spec _).1 haccess
    cases ha.symm.trans ha'
    refine ⟨hlength, haligned, hend, haccess, hpresent, hrole, hstage, henabled, fun hone => ?_⟩
    rw [← haCode]
    exact hmatch (decide_eq_true hone)
  · cases h

/-- The watch entry of the loaded copy at its place in the image (R117, R118). -/
theorem watchEntry_spec :
    (watchLegal b usable (392 + 32 * k) → ∃ w, (watchEntry b usable k).1 = some w ∧ w.isOf b (392 + 32 * k)) ∧
    (¬ watchLegal b usable (392 + 32 * k) → (watchEntry b usable k).1 = none) := by
  refine ⟨watchEntry_kept b usable k, fun hn => ?_⟩
  rw [Option.eq_none_iff_forall_ne_some]
  exact fun w hw => hn (watchEntry_legal b usable k hw)

end Watch

/-! ## The key map -/

section Key

variable (b : List Byte) (p : Nat)

theorem keyEntry_clear : (keyEntry b p).2 = false ↔ img8 b (649 + 2 * p) ≤ 3 := by
  have hoffset : 648 + 2 * p + 1 = 649 + 2 * p := by omega
  unfold keyEntry
  rw [hoffset]
  dsimp only
  split <;> simp [*]

/-- The key map entry of the loaded copy at its place in the image (R164). -/
theorem keyEntry_spec (hp : p < 64) :
    (img8 b (649 + 2 * p) ≤ 3 → (keyEntry b p).1.code.toNat = img8 b (648 + 2 * p) ∧
      ((keyEntry b p).1.repeats = true ↔ img8 b (649 + 2 * p) = 1 ∨ img8 b (649 + 2 * p) = 3) ∧
      ((keyEntry b p).1.chordOnly = true ↔ img8 b (649 + 2 * p) = 2 ∨ img8 b (649 + 2 * p) = 3)) ∧
    (3 < img8 b (649 + 2 * p) → (keyEntry b p).1.repeats = false ∧ (keyEntry b p).1.chordOnly = false ∧
      (keyEntry b p).1.code.toNat = if p / 8 < 4 ∧ p % 8 < 4 then p else 255) := by
  have hoffset : 648 + 2 * p + 1 = 649 + 2 * p := by omega
  unfold keyEntry
  rw [hoffset]
  refine ⟨fun h => ?_, fun h => ?_⟩
  · simp only [h, if_true, decide_eq_true_eq]
    exact ⟨rfl, by omega, by omega⟩
  · simp only [Nat.not_le.2 h, if_false, defaultKey, true_and]
    split
    · rw [BitVec.toNat_ofNat]
      omega
    · rfl

end Key

end Sys2Proof.Machine

/-! SUPPORT. The chords of an image (R169, R195, assumption log 24): each in the loaded copy, and when it leaves PARTIAL
clear. -/

namespace Sys2Proof.Machine

theorem chordActionOfCode_spec (c : Nat) :
    (c ≤ 3 → ∃ a, ChordAction.ofCode c = some a ∧ a.code = c) ∧ (¬ c ≤ 3 → ChordAction.ofCode c = none) := by
  match c with
  | 0 => exact ⟨fun _ => ⟨.warmRestart, rfl, rfl⟩, fun h => absurd (by omega) h⟩
  | 1 => exact ⟨fun _ => ⟨.coldRestart, rfl, rfl⟩, fun h => absurd (by omega) h⟩
  | 2 => exact ⟨fun _ => ⟨.releaseHold, rfl, rfl⟩, fun h => absurd (by omega) h⟩
  | 3 => exact ⟨fun _ => ⟨.serviceNote, rfl, rfl⟩, fun h => absurd (by omega) h⟩
  | c + 4 => exact ⟨fun h => absurd h (by omega), fun _ => rfl⟩

theorem sameMembers_iff (a b : List Nat) : sameMembers a b = true ↔ ∀ p, p ∈ a ↔ p ∈ b := by
  simp only [sameMembers, Bool.and_eq_true, List.all_eq_true, List.contains_iff_mem]
  exact ⟨fun ⟨hab, hba⟩ p => ⟨hab p, hba p⟩, fun h => ⟨fun p => (h p).1, fun p => (h p).2⟩⟩

theorem membersFit_iff (rows cols : Nat) (ms : List Nat) : membersFit rows cols ms = true ↔
    ms.Nodup ∧ ∀ p ∈ ms, p / 8 < rows ∧ p % 8 < cols := by
  simp only [membersFit, Bool.and_eq_true, List.all_eq_true, decide_eq_true_eq]

/-- The members of the chord at an offset of an image. -/
def imageMembers (b : List Byte) (o : Nat) : List Nat := (List.range (img8 b (o + 2))).map fun j => img8 b (o + 3 + j)

/-- The chord at an offset of an image is legal (R169). -/
def chordLegal (b : List Byte) (rows cols o : Nat) : Prop :=
  img8 b o ≤ 1 ∧ img8 b (o + 1) ≤ 3 ∧ (img8 b (o + 2) = 2 ∨ img8 b (o + 2) = 3) ∧ (imageMembers b o).Nodup ∧
  (∀ p ∈ imageMembers b o, p / 8 < rows ∧ p % 8 < cols) ∧ 5 ≤ img16 b (o + 6) ∧ img16 b (o + 6) ≤ 100

/-- The chord at an offset of an image is to be enabled and has the members of an enabled one before it (R169). -/
def chordDouble (b : List Byte) (o : Nat) (chords : List Chord) (k : Nat) : Prop :=
  img8 b o = 1 ∧ ∃ j < k, ∃ x, chords[j]? = some x ∧ x.enabled = true ∧ ∀ p, p ∈ x.members ↔ p ∈ imageMembers b o

/-! ## One chord -/

section Entry

variable (b : List Byte) (rows cols : Nat) (before : List Chord) (k : Nat)

/-- What is asked of a chord whose codes hold listed values. -/
def chordFits (o : Nat) : Bool :=
  (decide (img8 b (o + 2) = 2) || decide (img8 b (o + 2) = 3)) && membersFit rows cols (imageMembers b o) &&
    decide (5 ≤ img16 b (o + 6)) && decide (img16 b (o + 6) ≤ 100)

theorem chordLegal_iff (o : Nat) : chordLegal b rows cols o ↔
    img8 b o ≤ 1 ∧ img8 b (o + 1) ≤ 3 ∧ chordFits b rows cols o = true := by
  simp only [chordLegal, chordFits, Bool.and_eq_true, Bool.or_eq_true, decide_eq_true_eq, membersFit_iff, and_assoc]

/-- The chord at an offset of an image. -/
def imageChord (o : Nat) (action : ChordAction) (enabled : Bool) : Chord :=
  { members := imageMembers b o, hold := 100 * img16 b (o + 6), action := action, enabled := enabled }

theorem chordEntry_coded {enabled : Bool} {action : ChordAction} (he : boolOfCode (img8 b (776 + 8 * k)) = some enabled)
    (ha : ChordAction.ofCode (img8 b (776 + 8 * k + 1)) = some action) : chordEntry b rows cols before k =
    if chordFits b rows cols (776 + 8 * k) then
      if enabled && before.any fun c => c.enabled && sameMembers c.members (imageMembers b (776 + 8 * k)) then
        (imageChord b (776 + 8 * k) action false, true)
      else (imageChord b (776 + 8 * k) action enabled, false)
    else (emptyChord, true) := by
  unfold chordEntry
  simp only [he, ha]
  rfl

theorem chordDouble_iff {o : Nat} (hlength : before.length = k) :
    (decide (img8 b o = 1) && before.any fun c => c.enabled && sameMembers c.members (imageMembers b o)) = true ↔
      chordDouble b o before k := by
  simp only [Bool.and_eq_true, decide_eq_true_eq, List.any_eq_true, sameMembers_iff, chordDouble]
  refine and_congr_right fun _ => ⟨fun ⟨x, hx, hsame⟩ => ?_, fun ⟨j, _, x, hx, hsame⟩ => ?_⟩
  · obtain ⟨j, hj⟩ := List.getElem?_of_mem hx
    exact ⟨j, hlength ▸ (List.getElem?_eq_some_iff.1 hj).1, x, hj, hsame⟩
  · exact ⟨x, List.mem_of_getElem? hx, hsame⟩

/-- A legal chord is loaded, disabled with PARTIAL where it is a double. -/
theorem chordEntry_legal (hlength : before.length = k) (h : chordLegal b rows cols (776 + 8 * k)) :
    ∃ action : ChordAction, action.code = img8 b (776 + 8 * k + 1) ∧
      (chordDouble b (776 + 8 * k) before k →
        chordEntry b rows cols before k = (imageChord b (776 + 8 * k) action false, true)) ∧
      (¬ chordDouble b (776 + 8 * k) before k → chordEntry b rows cols before k =
        (imageChord b (776 + 8 * k) action (decide (img8 b (776 + 8 * k) = 1)), false)) := by
  obtain ⟨henabled, haction, hfits⟩ := (chordLegal_iff b rows cols _).1 h
  obtain ⟨action, ha, haCode⟩ := (chordActionOfCode_spec _).1 haction
  have hentry := chordEntry_coded b rows cols before k ((boolOfCode_spec _).1 henabled) ha
  rw [if_pos hfits] at hentry
  have hdouble := chordDouble_iff b before k (o := 776 + 8 * k) hlength
  exact ⟨action, haCode, fun hd => hentry.trans (if_pos (hdouble.2 hd)),
    fun hd => hentry.trans (if_neg fun htrue => hd (hdouble.1 htrue))⟩

/-- An illegal chord is loaded empty and disabled, with PARTIAL. -/
theorem chordEntry_illegal (h : ¬ chordLegal b rows cols (776 + 8 * k)) :
    chordEntry b rows cols before k = (emptyChord, true) := by
  rw [chordLegal_iff] at h
  by_cases henabled : img8 b (776 + 8 * k) ≤ 1
  · by_cases haction : img8 b (776 + 8 * k + 1) ≤ 3
    · obtain ⟨action, ha, -⟩ := (chordActionOfCode_spec _).1 haction
      rw [chordEntry_coded b rows cols before k ((boolOfCode_spec _).1 henabled) ha]
      exact if_neg fun hfits => h ⟨henabled, haction, hfits⟩
    · simp only [chordEntry, (boolOfCode_spec _).1 henabled, (chordActionOfCode_spec _).2 haction]
  · simp only [chordEntry, (boolOfCode_spec _).2 henabled]

theorem chordEntry_clear (hlength : before.length = k) : (chordEntry b rows cols before k).2 = false ↔
    chordLegal b rows cols (776 + 8 * k) ∧ ¬ chordDouble b (776 + 8 * k) before k := by
  by_cases h : chordLegal b rows cols (776 + 8 * k)
  · obtain ⟨action, -, hdouble, hsingle⟩ := chordEntry_legal b rows cols before k hlength h
    by_cases hd : chordDouble b (776 + 8 * k) before k
    · simp [hdouble hd, hd]
    · simp [hsingle hd, hd, h]
  · simp [chordEntry_illegal b rows cols before k h, h]

/-- The chord of the loaded copy at its place in the image (R169). -/
theorem chordEntry_spec (hlength : before.length = k) :
    let c := (chordEntry b rows cols before k).1
    let o := 776 + 8 * k
    (chordLegal b rows cols o →
      c.members = imageMembers b o ∧ c.hold = 100 * img16 b (o + 6) ∧ c.action.code = img8 b (o + 1)) ∧
    (chordLegal b rows cols o → ¬ chordDouble b o before k → c.enabled.toNat = img8 b o) ∧
    (chordLegal b rows cols o → chordDouble b o before k → c.enabled = false) ∧
    (¬ chordLegal b rows cols o → c.enabled = false) := by
  intro c o
  by_cases h : chordLegal b rows cols o
  · obtain ⟨action, haCode, hdouble, hsingle⟩ := chordEntry_legal b rows cols before k hlength h
    by_cases hd : chordDouble b o before k
    · have hc : c = imageChord b o action false := congrArg Prod.fst (hdouble hd)
      rw [hc]
      exact ⟨fun _ => ⟨rfl, rfl, haCode⟩, fun _ hn => absurd hd hn, fun _ _ => rfl, fun hn => absurd h hn⟩
    · have hc : c = imageChord b o action (decide (img8 b o = 1)) := congrArg Prod.fst (hsingle hd)
      rw [hc]
      refine ⟨fun _ => ⟨rfl, rfl, haCode⟩, fun _ _ => ?_, fun _ hn => absurd hn hd, fun hn => absurd h hn⟩
      obtain ⟨v, hv, hvCode⟩ := boolOfCode_toNat h.1
      obtain ⟨-, rfl⟩ := boolOfCode_some hv
      exact hvCode
  · have hc : c = emptyChord := congrArg Prod.fst (chordEntry_illegal b rows cols before k h)
    rw [hc]
    exact ⟨fun hl => absurd hl h, fun hl => absurd hl h, fun hl => absurd hl h, fun _ => rfl⟩

end Entry

/-! ## The table -/

section Table

variable (b : List Byte) (rows cols : Nat)

theorem chordEntries_length (n : Nat) : (chordEntries b rows cols n).1.length = n := by
  induction n with
  | zero => rfl
  | succ n ih => simp [chordEntries, ih]

/-- Chord `k` of an image is that of its place, judged against the chords before it. -/
theorem chordEntries_getElem? (n k : Nat) (hk : k < n) : (chordEntries b rows cols n).1[k]? =
    some (chordEntry b rows cols (chordEntries b rows cols k).1 k).1 := by
  induction n with
  | zero => omega
  | succ n ih =>
    have hlength := chordEntries_length b rows cols n
    simp only [chordEntries]
    by_cases hkn : k < n
    · rw [List.getElem?_append_left (by omega), ih hkn]
    · obtain rfl : k = n := by omega
      rw [List.getElem?_append_right (by omega), hlength, Nat.sub_self]
      rfl

/-- A double of a chord before a place is a double of one before it in the whole table. -/
theorem chordDouble_prefix (o n k : Nat) (hk : k ≤ n) :
    chordDouble b o (chordEntries b rows cols k).1 k ↔ chordDouble b o (chordEntries b rows cols n).1 k := by
  refine and_congr_right fun _ => exists_congr fun j => and_congr_right fun hj => ?_
  rw [chordEntries_getElem? b rows cols k j hj, chordEntries_getElem? b rows cols n j (by omega)]

theorem chordEntries_clear (n : Nat) : (chordEntries b rows cols n).2 = false ↔ ∀ k < n,
    chordLegal b rows cols (776 + 8 * k) ∧ ¬ chordDouble b (776 + 8 * k) (chordEntries b rows cols n).1 k := by
  have hentries : (chordEntries b rows cols n).2 = false ↔
      ∀ k < n, (chordEntry b rows cols (chordEntries b rows cols k).1 k).2 = false := by
    induction n with
    | zero => simp [chordEntries]
    | succ n ih => simp only [chordEntries, Bool.or_eq_false_iff, ih, Nat.forall_lt_succ_right]
  rw [hentries]
  refine forall_congr' fun k => forall_congr' fun hk => ?_
  rw [chordEntry_clear b rows cols _ k (chordEntries_length b rows cols k), chordDouble_prefix b rows cols _ n k (Nat.le_of_lt hk)]

end Table

end Sys2Proof.Machine

/-! SUPPORT. The loaded copy of an accepted image (R195, R200): its parts, and when PARTIAL is clear. -/

namespace Sys2Proof.Machine

/-! ## Tables of checked values -/

section Collect

variable {α : Type} (f : Nat → Checked α) (n : Nat)

theorem collect_length : (collect ((List.range n).map f)).1.length = n := by simp [collect]

theorem collect_getElem? {k : Nat} {x : α} (h : (collect ((List.range n).map f)).1[k]? = some x) :
    k < n ∧ (f k).1 = x := by
  simp only [collect, List.map_map, List.getElem?_map, Option.map_eq_some_iff] at h
  obtain ⟨j, hj, hx⟩ := h
  obtain ⟨hk, rfl⟩ := List.getElem?_eq_some_iff.1 hj
  rw [List.getElem_range] at hx
  exact ⟨by simpa using hk, hx⟩

theorem getElem?_collect {k : Nat} (hk : k < n) : (collect ((List.range n).map f)).1[k]? = some (f k).1 := by
  simp [collect, hk]

theorem collect_clear : (collect ((List.range n).map f)).2 = false ↔ ∀ k < n, (f k).2 = false := by
  simp [collect, List.any_eq_false]

end Collect

/-! ## The parts of the loaded copy -/

section Validate

variable (b : List Byte) (straps : Nat)

/-- The global fields after the checks across them, with PARTIAL so far. -/
def crossed : Checked Settings := crossChecks (globalFields b straps)

/-- The usable size of the loaded copy. -/
def imageUsable : Nat := (crossed b straps).1.memSize - 2048

/-- The window table of an image, in the settings that the ring sizes are checked in. -/
def withWindows : Checked Settings :=
  ({ (crossed b straps).1 with windows := (windowEntries b (imageUsable b straps) 16).1 },
    (windowEntries b (imageUsable b straps) 16).2)

/-- Settings with the fields that the checks across fields may change. -/
def Settings.withCrossed (v : Settings) (minInterval powerBudget boardDraw : Nat) : Settings :=
  { v with minInterval := minInterval, powerBudget := powerBudget, boardDraw := boardDraw }

/-- Settings with the windows and the ring sizes. -/
def Settings.withRings (v : Settings) (windows : List (Option Window)) (slots entries : Nat) : Settings :=
  { v with windows := windows, cmdRingSlots := slots, eventRingEntries := entries }

/-- Settings with the tables that the checks of the global fields do not read. -/
def Settings.withTables (v : Settings) (channels : List ChannelSettings) (watches : List (Option WatchEntry))
    (keys : List KeyEntry) (chords : List Chord) : Settings :=
  { v with channels := channels, watches := watches, keys := keys, chords := chords }

/-- The parts of the loaded copy. -/
theorem validate_tables : (validate b straps).1 = (ringSizes (withWindows b straps)).1.withTables
    (collect ((List.range 4).map (channelEntry b))).1
    (collect ((List.range 8).map (watchEntry b (imageUsable b straps)))).1
    (collect ((List.range 64).map (keyEntry b))).1
    (chordEntries b (crossed b straps).1.rows (crossed b straps).1.cols 4).1 := by
  unfold Settings.withTables withWindows imageUsable crossed
  exact (validate_parts b straps).1

theorem validate_partial : (validate b straps).2 = ((crossed b straps).2 ||
    (collect ((List.range 4).map (channelEntry b))).2 || (ringSizes (withWindows b straps)).2 ||
    (collect ((List.range 8).map (watchEntry b (imageUsable b straps)))).2 ||
    (collect ((List.range 64).map (keyEntry b))).2 ||
    (chordEntries b (crossed b straps).1.rows (crossed b straps).1.cols 4).2) := by
  unfold withWindows imageUsable crossed
  exact (validate_parts b straps).2

theorem crossed_eq : (crossed b straps).1 = (globalFields b straps).1.withCrossed (crossed b straps).1.minInterval
    (crossed b straps).1.powerBudget (crossed b straps).1.boardDraw := (crossChecks_frame _).1

theorem withWindows_rings : (ringSizes (withWindows b straps)).1 = (crossed b straps).1.withRings
    (windowEntries b (imageUsable b straps) 16).1 (ringSizes (withWindows b straps)).1.cmdRingSlots
    (ringSizes (withWindows b straps)).1.eventRingEntries := by
  have hframe (x : Checked Settings) : (ringSizes x).1 =
      x.1.withRings x.1.windows (ringSizes x).1.cmdRingSlots (ringSizes x).1.eventRingEntries := (ringSizes_frame x).1
  refine (hframe _).trans ?_
  simp only [withWindows, Settings.withRings]

/-- The loaded copy, from the global fields on. -/
theorem validate_eq : (validate b straps).1 =
    (((globalFields b straps).1.withCrossed (crossed b straps).1.minInterval
        (crossed b straps).1.powerBudget (crossed b straps).1.boardDraw).withRings
      (windowEntries b (imageUsable b straps) 16).1 (ringSizes (withWindows b straps)).1.cmdRingSlots
      (ringSizes (withWindows b straps)).1.eventRingEntries).withTables
    (collect ((List.range 4).map (channelEntry b))).1
    (collect ((List.range 8).map (watchEntry b (imageUsable b straps)))).1
    (collect ((List.range 64).map (keyEntry b))).1
    (chordEntries b (globalFields b straps).1.rows (globalFields b straps).1.cols 4).1 := by
  have hrows : (crossed b straps).1.rows = (globalFields b straps).1.rows := by rw [crossed_eq]; rfl
  have hcols : (crossed b straps).1.cols = (globalFields b straps).1.cols := by rw [crossed_eq]; rfl
  refine (validate_tables b straps).trans ?_
  rw [hrows, hcols, ← crossed_eq, ← withWindows_rings]

/-! ## The global fields of the loaded copy -/

/-- The size of the command ring, and of the event ring, before the check against their windows. -/
def imageSlots : Nat := if img8 b 57 ∈ [8, 16, 32, 64] then img8 b 57 else 16

def imageEntries : Nat := if img16 b 58 ∈ [16, 32, 64, 128, 256] then img16 b 58 else 64

/-- POWER_BUDGET and BOARD_DRAW before the check of one against the other. -/
def imageBudget : Nat := if 1 ≤ img8 b 23 then img8 b 23 else 60

def imageDraw : Nat := if 1 ≤ img8 b 26 then img8 b 26 else 25

theorem globalFields_budget :
    (globalFields b straps).1.powerBudget = imageBudget b ∧ (globalFields b straps).1.boardDraw = imageDraw b := by
  have hbyte (o : Nat) : img8 b o ≤ 255 := Nat.le_of_lt_succ (img8_lt b o)
  have hbudget : (globalFields b straps).1.powerBudget = (inRange (img8 b 23) 1 255 60).1 := rfl
  have hdraw : (globalFields b straps).1.boardDraw = (inRange (img8 b 26) 1 255 25).1 := rfl
  rw [hbudget, hdraw]
  simp only [inRange_eq, imageBudget, imageDraw, hbyte, and_true, and_self]

theorem globalFields_rings : (globalFields b straps).1.cmdRingSlots = imageSlots b ∧
    (globalFields b straps).1.eventRingEntries = imageEntries b := by
  have hslots : (globalFields b straps).1.cmdRingSlots = (oneOf (img8 b 57) [8, 16, 32, 64] 16).1 := rfl
  have hentries : (globalFields b straps).1.eventRingEntries =
      (oneOf (img16 b 58) [16, 32, 64, 128, 256] 64).1 := rfl
  rw [hslots, hentries, oneOf_eq, oneOf_eq]
  exact ⟨rfl, rfl⟩

theorem validate_fields : imageFields b (validate b straps).1 = imageFields b (globalFields b straps).1 := by
  rw [validate_eq]
  rfl

theorem validate_temps : imageTemps b (validate b straps).1 = imageTemps b (globalFields b straps).1 := by
  rw [validate_eq]
  rfl

theorem validate_memSize : (validate b straps).1.memSize = (memSizeField (img8 b 8) straps).1 := by
  rw [validate_eq]
  rfl

theorem validate_usable : imageUsable b straps = (validate b straps).1.memSize - 2048 := by
  have hmemory : (crossed b straps).1.memSize = (validate b straps).1.memSize := by
    rw [validate_memSize, crossed_eq]
    rfl
  exact congrArg (fun n => n - 2048) hmemory

theorem validate_period : (validate b straps).1.period = (globalFields b straps).1.period := by
  rw [validate_eq]
  simp only [Settings.withTables, Settings.withRings, Settings.withCrossed]

theorem validate_crossed : (validate b straps).1.minInterval = (crossed b straps).1.minInterval ∧
    (validate b straps).1.powerBudget = (crossed b straps).1.powerBudget ∧
    (validate b straps).1.boardDraw = (crossed b straps).1.boardDraw := by
  rw [validate_eq]
  simp only [Settings.withTables, Settings.withRings, Settings.withCrossed, and_self]

theorem validate_rings :
    (validate b straps).1.cmdRingSlots = (ringSizes (withWindows b straps)).1.cmdRingSlots ∧
    (validate b straps).1.eventRingEntries = (ringSizes (withWindows b straps)).1.eventRingEntries := by
  rw [validate_eq]
  simp only [Settings.withTables, Settings.withRings, Settings.withCrossed, and_self]

/-! ## The tables of the loaded copy -/

theorem validate_channels :
    (validate b straps).1.channels = (collect ((List.range 4).map (channelEntry b))).1 := by
  rw [validate_eq]
  simp only [Settings.withTables, Settings.withRings, Settings.withCrossed]

theorem validate_windows : (validate b straps).1.windows =
    (windowEntries b ((validate b straps).1.memSize - 2048) 16).1 := by
  rw [← validate_usable, validate_eq]
  simp only [Settings.withTables, Settings.withRings, Settings.withCrossed]

theorem validate_watches : (validate b straps).1.watches =
    (collect ((List.range 8).map (watchEntry b ((validate b straps).1.memSize - 2048)))).1 := by
  rw [← validate_usable, validate_eq]
  simp only [Settings.withTables, Settings.withRings, Settings.withCrossed]

theorem validate_keys : (validate b straps).1.keys = (collect ((List.range 64).map (keyEntry b))).1 := by
  rw [validate_eq]
  simp only [Settings.withTables, Settings.withRings, Settings.withCrossed]

theorem validate_chords : (validate b straps).1.chords =
    (chordEntries b (validate b straps).1.rows (validate b straps).1.cols 4).1 := by
  rw [validate_eq]
  simp only [Settings.withTables, Settings.withRings, Settings.withCrossed]

end Validate

end Sys2Proof.Machine

/-! SUPPORT. When PARTIAL is clear (R195, R200), and the rules that the loaded copy keeps to (R89, R100, R134, R176). -/

namespace Sys2Proof.Machine

section Partial

variable (b : List Byte) (straps : Nat)

/-- The checks of the global fields and across them leave PARTIAL clear. -/
theorem crossed_clear : (crossed b straps).2 = false ↔
    fieldsInRange (imageFields b (validate b straps).1) ∧ tempsInRange (imageTemps b (validate b straps).1) ∧
    (img8 b 8 ≤ 4 ∨ img8 b 8 = 255) ∧ img16 b 40 ≤ (validate b straps).1.period / 2 ∧ 1 ≤ img8 b 23 ∧ 1 ≤ img8 b 26 ∧
    img8 b 26 ≤ img8 b 23 ∧ img8 b 57 ∈ [8, 16, 32, 64] ∧ img16 b 58 ∈ [16, 32, 64, 128, 256] := by
  obtain ⟨hbudget, hdraw⟩ := globalFields_budget b straps
  have hmin : (globalFields b straps).1.minInterval = img16 b 40 := rfl
  rw [crossed, crossChecks_clear, globalFields_clear, validate_fields, validate_temps, validate_period, hbudget, hdraw,
    hmin]
  have hfits (hb : 1 ≤ img8 b 23) (hd : 1 ≤ img8 b 26) : imageDraw b ≤ imageBudget b ↔ img8 b 26 ≤ img8 b 23 := by
    rw [imageDraw, imageBudget, if_pos hb, if_pos hd]
  constructor
  · rintro ⟨⟨hfields, htemps, hmemory, hb, hd, hslots, hentries⟩, hmin, hle⟩
    exact ⟨hfields, htemps, hmemory, hmin, hb, hd, (hfits hb hd).1 hle, hslots, hentries⟩
  · rintro ⟨hfields, htemps, hmemory, hmin, hb, hd, hle, hslots, hentries⟩
    exact ⟨⟨hfields, htemps, hmemory, hb, hd, hslots, hentries⟩, hmin, (hfits hb hd).2 hle⟩

/-- What the ring sizes are checked against. -/
theorem withWindows_fields : (withWindows b straps).1.windows = (validate b straps).1.windows ∧
    (withWindows b straps).1.cmdRingSlots = imageSlots b ∧ (withWindows b straps).1.eventRingEntries = imageEntries b ∧
    (withWindows b straps).2 = (windowEntries b ((validate b straps).1.memSize - 2048) 16).2 := by
  obtain ⟨hslots, hentries⟩ := globalFields_rings b straps
  have hcrossed : (crossed b straps).1.cmdRingSlots = imageSlots b ∧
      (crossed b straps).1.eventRingEntries = imageEntries b := by
    rw [crossed_eq, ← hslots, ← hentries]
    simp only [Settings.withCrossed, and_self]
  rw [validate_windows, ← validate_usable]
  unfold withWindows
  exact ⟨rfl, hcrossed.1, hcrossed.2, rfl⟩

/-- The windows and the ring sizes leave PARTIAL clear. -/
theorem rings_clear : (ringSizes (withWindows b straps)).2 = false ↔
    (∀ k < 16, (validate b straps).1.windows[k]? = some none → img32 b (136 + 16 * k + 4) = 0) ∧
    ¬ ringSmall (validate b straps).1.windows .commandRing (64 * (1 + imageSlots b)) ∧
    ¬ ringSmall (validate b straps).1.windows .eventRing (64 + 32 * imageEntries b) := by
  obtain ⟨hwindows, hslots, hentries, hpartial⟩ := withWindows_fields b straps
  rw [ringSizes_clear, hwindows, hslots, hentries, hpartial, windowEntries_clear_iff, ← validate_windows]

theorem validate_clear : (validate b straps).2 = false ↔
    (crossed b straps).2 = false ∧ (∀ k < 4, channelLegal b k) ∧ (ringSizes (withWindows b straps)).2 = false ∧
    (∀ k < 8, (validate b straps).1.watches[k]? = some none → img8 b (392 + 32 * k + 4) = 0) ∧
    (∀ p < 64, img8 b (649 + 2 * p) ≤ 3) ∧
    ∀ k < 4, chordLegal b (validate b straps).1.rows (validate b straps).1.cols (776 + 8 * k) ∧
      ¬ chordDouble b (776 + 8 * k) (validate b straps).1.chords k := by
  have hrows : (crossed b straps).1.rows = (validate b straps).1.rows := by
    rw [validate_eq, crossed_eq]
    rfl
  have hcols : (crossed b straps).1.cols = (validate b straps).1.cols := by
    rw [validate_eq, crossed_eq]
    rfl
  have hwatches : (∀ k < 8, (validate b straps).1.watches[k]? = some none → img8 b (392 + 32 * k + 4) = 0) ↔
      ∀ k < 8, (watchEntry b (imageUsable b straps) k).2 = false := by
    rw [validate_watches, ← validate_usable]
    refine forall_congr' fun k => forall_congr' fun hk => ?_
    rw [watchEntry_clear, getElem?_collect _ _ hk, Option.some.injEq]
  rw [validate_partial, hwatches, validate_chords, hrows, hcols]
  simp only [Bool.or_eq_false_iff, collect_clear, channelEntry_clear, keyEntry_clear, chordEntries_clear, and_assoc]

/-- What is not legal in the image sets PARTIAL. -/
theorem partial_of_not {p : Prop} (h : (validate b straps).2 = false → p) (hn : ¬ p) : (validate b straps).2 = true := by
  refine Classical.byContradiction fun hclear => ?_
  exact hn (h (by simpa using hclear))

end Partial

/-! ## The fields by their own rules -/

section Rules

variable (b : List Byte) (straps : Nat)

theorem validate_minInterval :
    (img16 b 40 ≤ (validate b straps).1.period / 2 → (validate b straps).1.minInterval = img16 b 40) ∧
    ((validate b straps).1.period / 2 < img16 b 40 → (validate b straps).1.minInterval = 0) := by
  obtain ⟨hmin, -, -⟩ := validate_crossed b straps
  obtain ⟨hkept, hreset, -, -⟩ := crossChecks_values (globalFields b straps)
  rw [hmin, validate_period]
  exact ⟨hkept, fun h => (hreset h).1⟩

theorem validate_power :
    (imageDraw b ≤ imageBudget b →
      (validate b straps).1.powerBudget = imageBudget b ∧ (validate b straps).1.boardDraw = imageDraw b) ∧
    (imageBudget b < imageDraw b → (validate b straps).1.powerBudget = 60 ∧
      (validate b straps).1.boardDraw = if imageDraw b ≤ 60 then imageDraw b else 25) := by
  obtain ⟨-, hbudget, hdraw⟩ := validate_crossed b straps
  obtain ⟨-, -, hfits, hexceeds⟩ := crossChecks_values (globalFields b straps)
  obtain ⟨hbudgetImage, hdrawImage⟩ := globalFields_budget b straps
  rw [hbudgetImage, hdrawImage] at hfits hexceeds
  rw [hbudget, hdraw]
  exact ⟨hfits, fun h => ⟨(hexceeds h).1, (hexceeds h).2.1⟩⟩

theorem validate_slots :
    (¬ ringSmall (validate b straps).1.windows .commandRing (64 * (1 + imageSlots b)) →
      (validate b straps).1.cmdRingSlots = imageSlots b) ∧
    (ringSmall (validate b straps).1.windows .commandRing (64 * (1 + imageSlots b)) →
      (validate b straps).1.cmdRingSlots = 16) := by
  obtain ⟨hwindows, hslots, -, -⟩ := withWindows_fields b straps
  have hspec := ringSizes_slots (withWindows b straps)
  rw [hwindows, hslots] at hspec
  rw [(validate_rings b straps).1]
  exact hspec

theorem validate_entries :
    (¬ ringSmall (validate b straps).1.windows .eventRing (64 + 32 * imageEntries b) →
      (validate b straps).1.eventRingEntries = imageEntries b) ∧
    (ringSmall (validate b straps).1.windows .eventRing (64 + 32 * imageEntries b) →
      (validate b straps).1.eventRingEntries = 64) := by
  obtain ⟨hwindows, -, hentries, -⟩ := withWindows_fields b straps
  have hspec := ringSizes_entries (withWindows b straps)
  rw [hwindows, hentries] at hspec
  rw [(validate_rings b straps).2]
  exact hspec

theorem validate_minInterval_le : (validate b straps).1.minInterval ≤ (validate b straps).1.period / 2 := by
  obtain ⟨hkept, hreset⟩ := validate_minInterval b straps
  by_cases h : img16 b 40 ≤ (validate b straps).1.period / 2
  · rw [hkept h]
    exact h
  · rw [hreset (by omega)]
    exact Nat.zero_le _

/-- The rings that are kept fit in their windows (R195). -/
theorem validate_rings_fit :
    ¬ ringSmall (validate b straps).1.windows .commandRing (64 * (1 + (validate b straps).1.cmdRingSlots)) ∧
    ¬ ringSmall (validate b straps).1.windows .eventRing (64 + 32 * (validate b straps).1.eventRingEntries) := by
  obtain ⟨hwindows, -, -, -⟩ := withWindows_fields b straps
  obtain ⟨hslots, hentries⟩ := validate_rings b straps
  obtain ⟨-, hlegal, -⟩ := (loadable_legal ⟨straps, .inr ⟨b, rfl⟩⟩ : _ ∧ legalWindows _ (validate b straps).1.windows).2
  rw [hslots, hentries, ← hwindows]
  refine ringSizes_fit _ fun w hw => ?_
  rw [hwindows] at hw
  obtain ⟨-, hsize, -⟩ := hlegal w hw
  exact hsize

end Rules

end Sys2Proof.Machine

/-! PROOFS. The loaded copy of an accepted image (R195, R200): the obligation. -/

namespace Sys2Proof.Machine

/-! ## When PARTIAL is clear -/

/-- Every field, threshold and entry of an image is legal, and no window or watch entry was dropped. -/
structure ImageClear (b : List Byte) (v : Settings) : Prop where
  fields : fieldsInRange (imageFields b v)
  temps : tempsInRange (imageTemps b v)
  memSize : img8 b 8 ≤ 4 ∨ img8 b 8 = 255
  minInterval : img16 b 40 ≤ v.period / 2
  budget : 1 ≤ img8 b 23
  draw : 1 ≤ img8 b 26
  drawFits : img8 b 26 ≤ img8 b 23
  slots : img8 b 57 ∈ [8, 16, 32, 64]
  entries : img16 b 58 ∈ [16, 32, 64, 128, 256]
  slotsFit : ¬ ringSmall v.windows .commandRing (64 * (1 + imageSlots b))
  entriesFit : ¬ ringSmall v.windows .eventRing (64 + 32 * imageEntries b)
  channels : ∀ k < 4, channelLegal b k
  windows : ∀ k < 16, v.windows[k]? = some none → img32 b (136 + 16 * k + 4) = 0
  watches : ∀ k < 8, v.watches[k]? = some none → img8 b (392 + 32 * k + 4) = 0
  keys : ∀ p < 64, img8 b (649 + 2 * p) ≤ 3
  chords : ∀ k < 4, chordLegal b v.rows v.cols (776 + 8 * k) ∧ ¬ chordDouble b (776 + 8 * k) v.chords k

section Clear

variable (b : List Byte) (straps : Nat)

theorem validate_clear_iff : (validate b straps).2 = false ↔ ImageClear b (validate b straps).1 := by
  rw [validate_clear, crossed_clear, rings_clear]
  constructor
  · rintro ⟨⟨hfields, htemps, hmemory, hmin, hbudget, hdraw, hfits, hslots, hentries⟩, hchannels,
      ⟨hwindows, hslotsFit, hentriesFit⟩, hwatches, hkeys, hchords⟩
    exact ⟨hfields, htemps, hmemory, hmin, hbudget, hdraw, hfits, hslots, hentries, hslotsFit, hentriesFit, hchannels,
      hwindows, hwatches, hkeys, hchords⟩
  · intro h
    exact ⟨⟨h.fields, h.temps, h.memSize, h.minInterval, h.budget, h.draw, h.drawFits, h.slots, h.entries⟩, h.channels,
      ⟨h.windows, h.slotsFit, h.entriesFit⟩, h.watches, h.keys, h.chords⟩

/-- What is not as a clear image has it sets PARTIAL. -/
theorem validate_partial_of {p : Prop} (h : ImageClear b (validate b straps).1 → p) (hn : ¬ p) :
    (validate b straps).2 = true :=
  partial_of_not b straps (fun hclear => h ((validate_clear_iff b straps).1 hclear)) hn

end Clear

/-! ## The offsets of the entries' bytes -/

section Offsets

variable (b : List Byte) (k : Nat)

theorem windowSize_offset : img32 b (136 + 16 * k + 4) = img16 b (140 + 16 * k) + 65536 * img16 b (142 + 16 * k) := by
  have hlow : 136 + 16 * k + 4 = 140 + 16 * k := by omega
  have hhigh : 140 + 16 * k + 2 = 142 + 16 * k := by omega
  rw [img32, hlow, hhigh]

theorem watchLength_offset : img8 b (392 + 32 * k + 4) = img8 b (396 + 32 * k) := by
  congr 1
  omega

/-- The members of chord `k` and its rule, by the offsets of R195. -/
theorem imageMembers_offset : imageMembers b (776 + 8 * k) =
    (List.range (img8 b (778 + 8 * k))).map fun j => img8 b (779 + 8 * k + j) := by
  have hcount : 776 + 8 * k + 2 = 778 + 8 * k := by omega
  have hfirst : 776 + 8 * k + 3 = 779 + 8 * k := by omega
  rw [imageMembers, hcount, hfirst]

theorem chordLegal_offset (rows cols : Nat) : chordLegal b rows cols (776 + 8 * k) ↔
    img8 b (776 + 8 * k) ≤ 1 ∧ img8 b (777 + 8 * k) ≤ 3 ∧ (img8 b (778 + 8 * k) = 2 ∨ img8 b (778 + 8 * k) = 3) ∧
    (imageMembers b (776 + 8 * k)).Nodup ∧
    (∀ p ∈ imageMembers b (776 + 8 * k), p / 8 < rows ∧ p % 8 < cols) ∧ 5 ≤ img16 b (782 + 8 * k) ∧
    img16 b (782 + 8 * k) ≤ 100 := by
  have haction : 776 + 8 * k + 1 = 777 + 8 * k := by omega
  have hcount : 776 + 8 * k + 2 = 778 + 8 * k := by omega
  have hhold : 776 + 8 * k + 6 = 782 + 8 * k := by omega
  rw [chordLegal, haction, hcount, hhold]

end Offsets

/-! ## The rules of the loaded copy -/

section Loaded

variable (b : List Byte) (straps : Nat)

/-- Each numeric field by its range. -/
theorem validate_field_spec : ∀ f ∈ imageFields b (validate b straps).1,
    (f.2.1 ≤ f.1 ∧ f.1 ≤ f.2.2.1 → f.2.2.2.2 = f.1) ∧
    (¬ (f.2.1 ≤ f.1 ∧ f.1 ≤ f.2.2.1) → f.2.2.2.2 = f.2.2.2.1 ∧ (validate b straps).2 = true) := by
  intro f hf
  have hvalue := globalFields_fields b straps f (validate_fields b straps ▸ hf)
  rw [inRange_eq] at hvalue
  exact ⟨fun h => hvalue.trans (if_pos h),
    fun h => ⟨hvalue.trans (if_neg h), validate_partial_of b straps (fun hclear => hclear.fields f hf) h⟩⟩

/-- Each temperature outside the channels by its range. -/
theorem validate_temp_spec : ∀ f ∈ imageTemps b (validate b straps).1,
    (-110 ≤ f.1 ∧ f.1 ≤ 250 → f.2.2 = f.1) ∧
    (¬ (-110 ≤ f.1 ∧ f.1 ≤ 250) → f.2.2 = f.2.1 ∧ (validate b straps).2 = true) := by
  intro f hf
  have hvalue := globalFields_temps b straps f (validate_temps b straps ▸ hf)
  rw [tempRange_eq] at hvalue
  exact ⟨fun h => hvalue.trans (if_pos h),
    fun h => ⟨hvalue.trans (if_neg h), validate_partial_of b straps (fun hclear => hclear.temps f hf) h⟩⟩

theorem validate_memSize_spec :
    (img8 b 8 ≤ 4 → (validate b straps).1.memSize = memSizeOfCode (img8 b 8)) ∧
    (4 < img8 b 8 → (validate b straps).1.memSize = memSizeOfCode straps) := by
  rw [validate_memSize, memSizeField]
  exact ⟨fun h => by rw [if_pos h], fun h => by rw [if_neg (by omega)]⟩

/-- The rules that hold whatever the image holds (R17, R89, R100, R134, R176). -/
theorem validate_legal :
    (validate b straps).1.boardDraw ≤ (validate b straps).1.powerBudget ∧
    (validate b straps).1.minInterval ≤ (validate b straps).1.period / 2 ∧
    legalWindows ((validate b straps).1.memSize - 2048) (validate b straps).1.windows ∧
    (∀ w, ringIn (validate b straps).1.windows .commandRing = some w →
      64 * (1 + (validate b straps).1.cmdRingSlots) ≤ w.size) ∧
    (∀ w, ringIn (validate b straps).1.windows .eventRing = some w →
      64 + 32 * (validate b straps).1.eventRingEntries ≤ w.size) ∧
    ∀ c ∈ (validate b straps).1.channels, c.role ≠ .disabled → c.ordered := by
  obtain ⟨hbudget, hwindows⟩ := loadable_legal (loaded := (validate b straps).1) ⟨straps, .inr ⟨b, rfl⟩⟩
  obtain ⟨hslots, hentries⟩ := validate_rings_fit b straps
  refine ⟨hbudget, validate_minInterval_le b straps, hwindows, (not_ringSmall_iff _ _ _).1 hslots,
    (not_ringSmall_iff _ _ _).1 hentries, fun c hc hrole => ?_⟩
  obtain ⟨k, hk⟩ := List.getElem?_of_mem hc
  rw [validate_channels] at hk
  obtain ⟨-, rfl⟩ := collect_getElem? _ _ hk
  exact channelEntry_ordered b k hrole

/-! ### The entries -/

theorem validate_lengths : (validate b straps).1.channels.length = 4 ∧ (validate b straps).1.windows.length = 16 ∧
    (validate b straps).1.watches.length = 8 ∧ (validate b straps).1.keys.length = 64 ∧
    (validate b straps).1.chords.length = 4 := by
  rw [validate_channels, validate_windows, validate_watches, validate_keys, validate_chords]
  exact ⟨collect_length _ _, windowEntries_length _ _ _, collect_length _ _, collect_length _ _,
    chordEntries_length _ _ _ _⟩

theorem validate_channel_spec {k : Nat} {c : ChannelSettings} (h : (validate b straps).1.channels[k]? = some c) :
    (img8 b (72 + 16 * k) ≤ 4 → c.role.code = img8 b (72 + 16 * k)) ∧
    (4 < img8 b (72 + 16 * k) → c.role = defaultRole k ∧ (validate b straps).2 = true) ∧
    (c.role = .disabled ∨ (imageChannel b k c.role).ordered → c = imageChannel b k c.role) ∧
    (c.role ≠ .disabled → ¬ (imageChannel b k c.role).ordered →
      c = { defaultChannel k with role := c.role } ∧ (validate b straps).2 = true) := by
  rw [validate_channels] at h
  obtain ⟨hk, rfl⟩ := collect_getElem? _ _ h
  have hpartial (hset : ¬ (channelEntry b k).2 = false) : (validate b straps).2 = true :=
    validate_partial_of b straps (fun hclear => (channelEntry_clear b k).2 (hclear.channels k hk)) hset
  obtain ⟨hcode, hdefault, hkept, hreplaced⟩ := channelEntry_spec b k
  refine ⟨hcode, fun h => ⟨hdefault h, hpartial fun hclear => ?_⟩, hkept, fun hrole hordered => ?_⟩
  · obtain ⟨hlegal, -⟩ := (channelEntry_clear b k).1 hclear
    omega
  · obtain ⟨hvalue, hset⟩ := hreplaced hrole hordered
    exact ⟨hvalue, hpartial (by simp [hset])⟩

theorem validate_window_spec {k : Nat} {e : Option Window} (h : (validate b straps).1.windows[k]? = some e) :
    (windowLegal b ((validate b straps).1.memSize - 2048) (136 + 16 * k) ∧
        windowConforms b (136 + 16 * k) (validate b straps).1.windows k → ∃ w, e = some w ∧ w.isOf b (136 + 16 * k)) ∧
    (¬ (windowLegal b ((validate b straps).1.memSize - 2048) (136 + 16 * k) ∧
        windowConforms b (136 + 16 * k) (validate b straps).1.windows k) →
      e = none ∧ (img32 b (136 + 16 * k + 4) ≠ 0 → (validate b straps).2 = true)) := by
  have hspec := windowEntries_spec b ((validate b straps).1.memSize - 2048) k e
  rw [← validate_windows] at hspec
  obtain ⟨hkept, hdropped⟩ := hspec h
  refine ⟨hkept, fun hn => ⟨hdropped hn, validate_partial_of b straps fun hclear => hclear.windows k ?_ ?_⟩⟩
  · obtain ⟨hk, -⟩ := List.getElem?_eq_some_iff.1 h
    obtain ⟨-, hlength, -⟩ := validate_lengths b straps
    rwa [hlength] at hk
  · rw [h, hdropped hn]

theorem validate_watch_spec {k : Nat} {e : Option WatchEntry} (h : (validate b straps).1.watches[k]? = some e) :
    (watchLegal b ((validate b straps).1.memSize - 2048) (392 + 32 * k) →
      ∃ w, e = some w ∧ w.isOf b (392 + 32 * k)) ∧
    (¬ watchLegal b ((validate b straps).1.memSize - 2048) (392 + 32 * k) →
      e = none ∧ (img8 b (392 + 32 * k + 4) ≠ 0 → (validate b straps).2 = true)) := by
  have hentry := h
  rw [validate_watches] at hentry
  obtain ⟨hk, rfl⟩ := collect_getElem? _ _ hentry
  obtain ⟨hkept, hdropped⟩ := watchEntry_spec b ((validate b straps).1.memSize - 2048) k
  refine ⟨hkept, fun hn => ⟨hdropped hn, validate_partial_of b straps fun hclear => hclear.watches k hk ?_⟩⟩
  rw [h, hdropped hn]

theorem validate_key_spec {p : Nat} {e : KeyEntry} (h : (validate b straps).1.keys[p]? = some e) :
    (img8 b (649 + 2 * p) ≤ 3 → e.code.toNat = img8 b (648 + 2 * p) ∧
      (e.repeats = true ↔ img8 b (649 + 2 * p) = 1 ∨ img8 b (649 + 2 * p) = 3) ∧
      (e.chordOnly = true ↔ img8 b (649 + 2 * p) = 2 ∨ img8 b (649 + 2 * p) = 3)) ∧
    (3 < img8 b (649 + 2 * p) → e.repeats = false ∧ e.chordOnly = false ∧ (validate b straps).2 = true ∧
      e.code.toNat = if p / 8 < 4 ∧ p % 8 < 4 then p else 255) := by
  rw [validate_keys] at h
  obtain ⟨hp, rfl⟩ := collect_getElem? _ _ h
  obtain ⟨hlegal, hdefault⟩ := keyEntry_spec b p hp
  refine ⟨hlegal, fun h => ?_⟩
  obtain ⟨hrepeats, hchordOnly, hcode⟩ := hdefault h
  exact ⟨hrepeats, hchordOnly, validate_partial_of b straps (fun hclear => hclear.keys p hp) (by omega), hcode⟩

theorem validate_chord_spec {k : Nat} {c : Chord} (h : (validate b straps).1.chords[k]? = some c) :
    let legal := chordLegal b (validate b straps).1.rows (validate b straps).1.cols (776 + 8 * k)
    let double := chordDouble b (776 + 8 * k) (validate b straps).1.chords k
    (legal → c.members = imageMembers b (776 + 8 * k) ∧ c.hold = 100 * img16 b (776 + 8 * k + 6) ∧
      c.action.code = img8 b (776 + 8 * k + 1)) ∧
    (legal → ¬ double → c.enabled.toNat = img8 b (776 + 8 * k)) ∧
    (legal → double → c.enabled = false ∧ (validate b straps).2 = true) ∧
    (¬ legal → c.enabled = false ∧ (validate b straps).2 = true) := by
  have hk : k < 4 := by
    obtain ⟨hk, -⟩ := List.getElem?_eq_some_iff.1 h
    rwa [validate_chords, chordEntries_length] at hk
  have hclear (hn : ¬ (chordLegal b (validate b straps).1.rows (validate b straps).1.cols (776 + 8 * k) ∧
      ¬ chordDouble b (776 + 8 * k) (validate b straps).1.chords k)) : (validate b straps).2 = true :=
    validate_partial_of b straps (fun hclear => hclear.chords k hk) hn
  have hentry := h
  rw [validate_chords, chordEntries_getElem? _ _ _ 4 k hk, Option.some.injEq] at hentry
  obtain ⟨hlegal, hsingle, hdouble, hillegal⟩ := chordEntry_spec b (validate b straps).1.rows (validate b straps).1.cols
    _ k (chordEntries_length b (validate b straps).1.rows (validate b straps).1.cols k)
  rw [hentry] at hlegal hsingle hdouble hillegal
  rw [chordDouble_prefix b _ _ _ 4 k (Nat.le_of_lt hk), ← validate_chords] at hsingle hdouble
  exact ⟨hlegal, hsingle, fun hl hd => ⟨hdouble hl hd, hclear fun h => h.2 hd⟩,
    fun hn => ⟨hillegal hn, hclear fun h => hn h.1⟩⟩

end Loaded

end Sys2Proof.Machine

/-! PROOFS. The loaded copy of an accepted image (R195, R200): the obligation assembled from its rules. -/

namespace Sys2Proof.Machine

/-- PARTIAL is clear exactly for a clear image, with every offset as the spec lists it. -/
theorem validate_clear_offsets (b : List Byte) (straps : Nat) :
    let v := (validate b straps).1
    (validate b straps).2 = false ↔
      fieldsInRange (imageFields b v) ∧ tempsInRange (imageTemps b v) ∧ (img8 b 8 ≤ 4 ∨ img8 b 8 = 255) ∧
      img16 b 40 ≤ v.period / 2 ∧ 1 ≤ img8 b 23 ∧ 1 ≤ img8 b 26 ∧ img8 b 26 ≤ img8 b 23 ∧
      img8 b 57 ∈ [8, 16, 32, 64] ∧ img16 b 58 ∈ [16, 32, 64, 128, 256] ∧
      ¬ ringSmall v.windows .commandRing (64 * (1 + imageSlots b)) ∧
      ¬ ringSmall v.windows .eventRing (64 + 32 * imageEntries b) ∧ (∀ k < 4, channelLegal b k) ∧
      (∀ k < 16, v.windows[k]? = some none → img16 b (140 + 16 * k) + 65536 * img16 b (142 + 16 * k) = 0) ∧
      (∀ k < 8, v.watches[k]? = some none → img8 b (396 + 32 * k) = 0) ∧ (∀ p < 64, img8 b (649 + 2 * p) ≤ 3) ∧
      ∀ k < 4, chordLegal b v.rows v.cols (776 + 8 * k) ∧ ¬ chordDouble b (776 + 8 * k) v.chords k := by
  intro v
  rw [validate_clear_iff]
  constructor
  · rintro ⟨hfields, htemps, hmemory, hmin, hbudget, hdraw, hfits, hslots, hentries, hslotsFit, hentriesFit, hchannels,
      hwindows, hwatches, hkeys, hchords⟩
    exact ⟨hfields, htemps, hmemory, hmin, hbudget, hdraw, hfits, hslots, hentries, hslotsFit, hentriesFit, hchannels,
      fun k hk hnone => windowSize_offset b k ▸ hwindows k hk hnone,
      fun k hk hnone => watchLength_offset b k ▸ hwatches k hk hnone, hkeys, hchords⟩
  · rintro ⟨hfields, htemps, hmemory, hmin, hbudget, hdraw, hfits, hslots, hentries, hslotsFit, hentriesFit, hchannels,
      hwindows, hwatches, hkeys, hchords⟩
    exact ⟨hfields, htemps, hmemory, hmin, hbudget, hdraw, hfits, hslots, hentries, hslotsFit, hentriesFit, hchannels,
      fun k hk hnone => (windowSize_offset b k).trans (hwindows k hk hnone),
      fun k hk hnone => (watchLength_offset b k).trans (hwatches k hk hnone), hkeys, hchords⟩

/-- Settles O9: the rules of the copy, the global fields with PARTIAL, and the entries of each table. -/
theorem loadedCopyLegal : Obligations.LoadedCopyLegal := by
  refine ⟨fun b straps => validate_legal b straps, fun b straps => ?globals, fun b straps => ?entries⟩
  case globals =>
    intro v isPartial u8 u16 temp fields temps budget draw small slots entries
    have hsets {p : Prop} (h : ImageClear b v → p) (hn : ¬ p) : isPartial = true := validate_partial_of b straps h hn
    obtain ⟨hmemory, hstraps⟩ := validate_memSize_spec b straps
    obtain ⟨hmin, hminReset⟩ := validate_minInterval b straps
    obtain ⟨hfits, hexceeds⟩ := validate_power b straps
    obtain ⟨hslots, hslotsDefault⟩ := validate_slots b straps
    obtain ⟨hentries, hentriesDefault⟩ := validate_entries b straps
    refine ⟨validate_field_spec b straps, validate_temp_spec b straps, hmemory, hstraps, fun h4 h255 => ?memory, hmin,
      fun h => ⟨hminReset h, hsets (·.minInterval) (Nat.not_le.2 h)⟩, hfits,
      fun h => ⟨(hexceeds h).1, (hexceeds h).2, ?draw⟩, ?single, hslots,
      fun h => ⟨hslotsDefault h, hsets (fun hclear => hclear.slotsFit) (Classical.not_not.2 h)⟩, hentries,
      fun h => ⟨hentriesDefault h, hsets (fun hclear => hclear.entriesFit) (Classical.not_not.2 h)⟩, ?clear⟩
    case memory => exact hsets (·.memSize) (not_or.2 ⟨Nat.not_le.2 h4, h255⟩)
    case draw =>
      refine hsets (fun hclear => ?_) (Nat.not_le.2 h)
      show imageDraw b ≤ imageBudget b
      rw [imageDraw, imageBudget, if_pos hclear.draw, if_pos hclear.budget]
      exact hclear.drawFits
    case single =>
      rintro (hbudget | hdraw | hslots | hentries)
      · exact hsets (·.budget) (Nat.not_le.2 (Nat.lt_one_iff.2 hbudget))
      · exact hsets (·.draw) (Nat.not_le.2 (Nat.lt_one_iff.2 hdraw))
      · exact hsets (·.slots) hslots
      · exact hsets (·.entries) hentries
    case clear =>
      intro threshold channelLegal members chordLegal double
      have hchord (k : Nat) : chordLegal k ↔ Machine.chordLegal b v.rows v.cols (776 + 8 * k) := by
        rw [chordLegal_offset, imageMembers_offset]
        exact Iff.rfl
      have hdouble (k : Nat) : double k ↔ chordDouble b (776 + 8 * k) v.chords k := by
        rw [chordDouble, imageMembers_offset]
        exact Iff.rfl
      simp only [hchord, hdouble]
      exact validate_clear_offsets b straps
  case entries =>
    intro v isPartial u8 u16 u32 within temp
    obtain ⟨hchannels, hwindows, hwatches, hkeys, hchords⟩ := validate_lengths b straps
    exact ⟨hchannels, hwindows, hwatches, hkeys, hchords, fun k c h => validate_channel_spec b straps h,
      fun k e h => validate_window_spec b straps h, fun k e h => validate_watch_spec b straps h,
      fun p e h => validate_key_spec b straps h, fun k c h => validate_chord_spec b straps h⟩

end Sys2Proof.Machine
